-- ==== Sys2Proof/Word.lean ====
section
/-! DEFINITION. The byte and the numbers the manual counts with. -/

namespace Sys2Proof

/-- One byte (R49: multi-byte values are little-endian on every path). -/
abbrev Byte := BitVec 8

/-- An instant or a duration of device time, in picoseconds. -/
abbrev Ps := Nat

end Sys2Proof
end

