-- ==== Sys2Proof/Syntax.lean ====
section
/-! DEFINITION. The commands of the block: one constructor of `Instr` for each row of spec/opcode_table.json, with
the operands that the row's rule names. The first operand of every constructor, `t`, is the device time in
picoseconds at which the command falls. -/

namespace Sys2Proof

/-- Who makes an access (R54): a PCIe function, a DDP node, or the device itself. -/
inductive Requester where
  | pcie (fn : Fin 64)
  | ddp (node : Fin 256)
  | internal (source : Fin 256)
  deriving DecidableEq, Repr

/-- The path an access takes (R31, R38, R75): `bus` is a control processor or the replay engine on the bus matrix itself, `debug` the
debug master. -/
inductive Path where
  | aperture
  | mailbox
  | ddp
  | bus
  | debug
  deriving DecidableEq, Repr

/-- An access to the dictionary: its path, its requester, and for internal firmware the control processor that carries it. -/
structure Access where
  path : Path
  req : Requester
  proc : Fin 4 := 0
  deriving DecidableEq, Repr

/-- What the checker of a port has received latest: bits, oldest first (R229). -/
structure PrbsSeen where
  port : Fin 128
  bits : List Bool
  deriving DecidableEq, Repr

/-- Result of reading host memory for a descriptor or an operation (R613): the bytes, or a host error. -/
inductive HostRead where
  | ok (bytes : List Byte)
  | error
  deriving DecidableEq, Repr

/-- How host writes of a descriptor end (R613, R624). -/
inductive HostWriteEnd where
  | ok
  | error (bytesMoved : Nat)
  deriving DecidableEq, Repr

/-- A dictionary command as a mailbox descriptor carries it (R612, R78), with the bytes of a SET's data, the 32 inline ones or
those read from the host buffer, and how the access to the host buffer ends. -/
structure MailboxCmd where
  queue : Fin 65536
  ring : Fin 65536
  irq : Bool
  tag : BitVec 64
  index : Fin 65536
  sub : Fin 256
  flags : BitVec 32
  length : BitVec 32
  offset : BitVec 32
  buffer : BitVec 64
  data : List Byte
  fin : HostWriteEnd
  deriving DecidableEq, Repr

/-- A CAN FD frame: its 11-bit identifier and its bytes (R87, R88). -/
structure CanFrame where
  ident : Fin 2048
  bytes : List Byte
  deriving DecidableEq, Repr

/-- A CAN FD error on the bus, as ISO 11898-1 counts it (R84). -/
inductive CanError where
  | transmit (newCount : Fin 256)
  | receive (newCount : Fin 256)
  deriving DecidableEq, Repr

/-- The estimates of R47, in mW. -/
structure PowerEstimate where
  lanes : Nat
  memory : Nat
  compositors : Nat
  conversion : Nat
  inputs : Nat
  pcie : Nat
  control : Nat
  leakage : Nat
  deriving DecidableEq, Repr

/-- One working pixel: three 12-bit components and a 10-bit key (R266, R267). -/
structure Px where
  c0 : Nat
  c1 : Nat
  c2 : Nat
  key : Nat := 0x3FF
  deriving DecidableEq, Repr

/-- A picture as lines of pixels, top to bottom. -/
abbrev Picture := List (List Px)

/-- What the payload ID of a frame says (R259, R260), as far as the pipeline reads it. `raster`, `scan` and `rate` are none when payload
ID does not determine them. A number that is no code of R257 stands for a value signalled without one. -/
structure PayloadId where
  word : BitVec 32
  raster : Option Nat
  scan : Option Nat
  rate : Option Nat
  sampling : Nat
  depth : Nat
  colour : Nat
  transfer : Nat
  square : Bool
  deriving DecidableEq, Repr

/-- One frame as it arrived at the balls (R256 to R265): what the pipeline measured (active samples per line, active lines per field,
fields or segments per frame, whether these are segments of one progressive frame, the period), its ancillary data and its active
lines. A line that was not received is none. For a multi-link input, `links` has for each link that delivered the frame the link number
that its payload ID names (R307) and `skewNs` is their skew (R215). For a tie channel, `tieFormat`, `tieStamp` and `tieMap` are the
frame's metadata (R251). -/
structure RxFrame where
  samples : Nat
  fieldLines : Nat
  fields : Nat
  segments : Bool
  periodPs : Nat
  firstPixel : Ps
  payload : Option PayloadId
  ltc : BitVec 32
  vitc : BitVec 32
  lines : List (Option (List Px))
  crcFailed : List Nat
  links : List (Option Nat)
  skewNs : Nat
  tieFormat : Nat
  tieStamp : Nat
  tieMap : List Nat
  deriving DecidableEq, Repr

/-- An embedded audio packet (R495 to R498): its group, whether its ECC check passed, whether its rate is 48 kHz locked
to the video, and its four samples with their V bits. -/
structure AudioPacket where
  group : Fin 8
  eccOk : Bool
  locked48 : Bool
  sampleTime : Nat
  samples : List Int
  invalid : List Bool
  deriving DecidableEq, Repr

/-- An AES3 frame (R510, R513): preamble and coding good, parity per subframe, samples, and the V, U and C bits. -/
structure AesFrame where
  rateHz : Nat
  good : Bool
  blockStart : Bool
  parityOk : List Bool
  samples : List Int
  v : List Bool
  u : List Bool
  c : List Bool
  deriving DecidableEq, Repr

/-- How an AES3 loss shows (R514, R515). -/
inductive AesLossKind where
  | clockStopped
  | badFrames
  | rateChange
  deriving DecidableEq, Repr

/-- Who reads or writes frame memory (R555). -/
structure Unit32 where
  kind : Fin 16
  number : Fin 65536
  deriving DecidableEq, Repr

/-- What the codes report for one read of a granule (R542 to R544): flagged fragments, symbols in error outside them,
and whether the die corrected a bit. -/
structure GranuleRead where
  flagged : Nat
  errors : Nat
  dieCorrected : Bool
  deriving DecidableEq, Repr

/-- One access to frame memory through translation (R544, R556, R567): who, on which domain, which logical page and
granule, read or write, and what the codes find at the first read and at the re-fetch. `exportRead` marks export DMA.
`line` is the line of the frame that the granule belongs to. -/
structure MemAccess where
  unit : Unit32
  domain : Fin 64
  lpn : Fin 524288
  granule : Fin 1024
  write : Bool
  exportRead : Bool
  line : Nat
  first : GranuleRead
  refetch : GranuleRead
  tablePoisoned : Bool
  deriving DecidableEq, Repr

/-- A descriptor as fetched from its ring slot (R612, R614): the queue, its ring index and its 64 bytes. -/
structure Desc where
  queue : Fin 65536
  ring : Fin 65536
  bytes : List Byte
  deriving DecidableEq, Repr

/-- The thirteen reported PLL blocks of R640, root first, without the lane quads. -/
abbrev PllBlock := Fin 13

/-- A unit that faults (R799): a block by its sub-index in [1012], a region, or the chip. -/
inductive FaultUnit where
  | block (sub : Fin 39)
  | region (r : Fin 4)
  | chip
  deriving DecidableEq, Repr

/-- What gives no response when a chip timeout expires (R799): a region, a memory block, or the control complex. -/
inductive Silent where
  | region (r : Fin 4)
  | memoryBlock (m : Fin 2)
  | controlComplex
  deriving DecidableEq, Repr

/-- How a cell retry ends (R800). -/
inductive CellEnd where
  | goodData
  | completedFailure
  | noOutcome
  deriving DecidableEq, Repr

/-- The kinds of deferrable work (R185), first row first. -/
inductive WorkKind where
  | motion
  | hostDma
  | evidenceExport
  | nvCompaction
  | scrub
  | eyeScan
  deriving DecidableEq, Repr

/-- Boot step outcomes (R778), as the step itself ended. -/
inductive StepResult where
  | pass
  | passAlt
  | fail
  deriving DecidableEq, Repr

/-- What the step that ended found (R770 to R772): fuses, flash content and regions that failed, as far as the step
yields data. -/
structure BootFindings where
  regionsFailed : List (Fin 4)
  fwVersion : Nat
  fwSvn : Nat
  fwDigest : List Byte
  flashId : List Byte
  linkSpeed : Nat
  linkWidth : Nat
  mountMs : Nat
  failedSensors : List (Fin 36)
  bands : List Nat
  deriving DecidableEq, Repr

/-- What the security engine finds on an owner token or an image (R784, R790): does each check hold. -/
structure SigCheck where
  vendorKeyKnown : Bool
  vendorSigs : Bool
  ownerSigs : Bool
  deriving DecidableEq, Repr

/-- One of the 205 commands. -/
inductive Instr where
  /-- COMPAT_REQUEST_WRITE (R2). -/
  | compatRequestWrite (t : Ps) (acc : Access) (data : List Byte)
  /-- DICTIONARY_WRITE (R70). -/
  | dictionaryWrite (t : Ps) (acc : Access) (index : Fin 65536) (sub : Fin 256) (start : Fin 16) (data : List Byte)
  /-- DEFAULT_TARGET_ACCESS (R38): a read with its number of bytes, or a write; `proc` is the control processor of an internal access. -/
  | defaultTargetAccess (t : Ps) (proc : Fin 4) (path : Path) (req : Requester) (address : Nat) (read : Option Nat)
  /-- MISS_CLEAR (R41). -/
  | missClear (t : Ps) (acc : Access) (data : List Byte)
  /-- REFUSE_CLEAR (R73). -/
  | refuseClear (t : Ps) (acc : Access) (data : List Byte)
  /-- MASTER_WAIT_LIMIT (R35). -/
  | masterWaitLimit (t : Ps) (master : Fin 8) (target : Fin 9)
  /-- MASTER_RESET_IN_BURST (R809). -/
  | masterResetInBurst (t : Ps) (master : Fin 8) (write : Bool) (beats done : Fin 9) (entry : Nat) (opSeq : Option Nat)
  /-- POWER_ESTIMATE_UPDATE (R47). -/
  | powerEstimateUpdate (t : Ps) (est : PowerEstimate)
  /-- STC_NOW_READ (R672). -/
  | stcNowRead (t : Ps) (acc : Access)
  /-- MAILBOX_GET (R79). -/
  | mailboxGet (t : Ps) (m : MailboxCmd)
  /-- MAILBOX_SET (R80). -/
  | mailboxSet (t : Ps) (m : MailboxCmd)
  /-- MAILBOX_GET_INFO (R79). -/
  | mailboxGetInfo (t : Ps) (m : MailboxCmd)
  /-- MAILBOX_GET_STAGED (R79). -/
  | mailboxGetStaged (t : Ps) (m : MailboxCmd)
  /-- DDP_READ (R91). -/
  | ddpRead (t : Ps) (frame : CanFrame)
  /-- DDP_WRITE (R91). -/
  | ddpWrite (t : Ps) (frame : CanFrame)
  /-- DDP_READ_INFO (R91). -/
  | ddpReadInfo (t : Ps) (frame : CanFrame)
  /-- SEG_READ_INIT (R95). -/
  | segReadInit (t : Ps) (frame : CanFrame)
  /-- SEG_WRITE_INIT (R95). -/
  | segWriteInit (t : Ps) (frame : CanFrame)
  /-- SEG_DATA (R96). -/
  | segData (t : Ps) (frame : CanFrame)
  /-- SEG_ACK (R97). -/
  | segAck (t : Ps) (frame : CanFrame)
  /-- SEG_ABORT (R100). -/
  | segAbort (t : Ps) (frame : CanFrame)
  /-- DDP_BAD_COMMAND (R90). -/
  | ddpBadCommand (t : Ps) (frame : CanFrame)
  /-- SEG_TRANSFER_TIMEOUT (R100). -/
  | segTransferTimeout (t : Ps) (node : Fin 256)
  /-- DDP_RESPONSE_TRANSMIT (R92). -/
  | ddpResponseTransmit (t : Ps)
  /-- BUS_OFF (R86). -/
  | busOff (t : Ps)
  /-- BUS_OFF_RECOVERY (R86). -/
  | busOffRecovery (t : Ps)
  /-- DATA_RATE_APPLY (R84). -/
  | dataRateApply (t : Ps)
  /-- COMMIT_REQUEST (R109). -/
  | commitRequest (t : Ps) (acc : Access) (data : List Byte)
  /-- DISCARD_BASTING (R108). -/
  | discardBasting (t : Ps) (acc : Access) (data : List Byte)
  /-- COMMIT_VALIDATE_START (R111). -/
  | commitValidateStart (t : Ps) (slot : Fin 64)
  /-- COMMIT_VALIDATION_END (R112). -/
  | commitValidationEnd (t : Ps) (slot : Fin 64)
  /-- OP_START (R132). -/
  | opStart (t : Ps) (acc : Access) (slot : Fin 64)
  /-- OP_ABORT (R135). -/
  | opAbort (t : Ps) (acc : Access) (slot : Fin 64)
  /-- OP_RELEASE (R131). -/
  | opRelease (t : Ps) (acc : Access) (slot : Fin 64)
  /-- OP_DISPATCH (R132). -/
  | opDispatch (t : Ps) (slot : Fin 64)
  /-- SLOT_CLAIM_TIMEOUT (R131). -/
  | slotClaimTimeout (t : Ps) (slot : Fin 64)
  /-- SLOT_RESULT_TIMEOUT (R131). -/
  | slotResultTimeout (t : Ps) (slot : Fin 64)
  /-- GOVERNOR_TOKEN_TICK (R182). -/
  | governorTokenTick (t : Ps)
  /-- DEFERRABLE_WORK_DISPATCH (R185). -/
  | deferrableWorkDispatch (t : Ps) (kind : WorkKind)
  /-- MOTION_REFINEMENT_TILE (R358). -/
  | motionRefinementTile (t : Ps) (frc : Fin 32) (tile : Nat)
  /-- LL_ROUTE_RESTORE (R173). -/
  | llRouteRestore (t : Ps) (port : Fin 128)
  /-- RX_RESTART (R198). -/
  | rxRestart (t : Ps) (acc : Access) (port : Fin 128) (data : List Byte)
  /-- RX_TEST_WRITE (R224). -/
  | rxTestWrite (t : Ps) (acc : Access) (port : Fin 128) (data : List Byte)
  /-- PRBS_CHECK_WRITE (R229). -/
  | prbsCheckWrite (t : Ps) (acc : Access) (port : Fin 128) (data : List Byte)
  /-- RX_COUNT_CLEAR (R204). -/
  | rxCountClear (t : Ps) (acc : Access) (port : Fin 128) (data : List Byte)
  /-- TX_TEST_WRITE (R226). -/
  | txTestWrite (t : Ps) (acc : Access) (port : Fin 128) (data : List Byte)
  /-- INJECT_ERROR (R206). -/
  | injectError (t : Ps) (acc : Access) (port : Fin 128) (data : List Byte)
  /-- RAW_DETECTOR_CHANGE (R201). -/
  | rawDetectorChange (t : Ps) (port : Fin 128) (lol : Bool) (asserted : Bool)
  /-- LOS_DEBOUNCE_ASSERT (R201). -/
  | losDebounceAssert (t : Ps) (port : Fin 128)
  /-- LOS_DEBOUNCE_CLEAR (R201). -/
  | losDebounceClear (t : Ps) (port : Fin 128)
  /-- LOL_DEBOUNCE_ASSERT (R201). -/
  | lolDebounceAssert (t : Ps) (port : Fin 128)
  /-- LOL_DEBOUNCE_CLEAR (R201). -/
  | lolDebounceClear (t : Ps) (port : Fin 128)
  /-- CDR_LOCK_QUALIFIED (R198). -/
  | cdrLockQualified (t : Ps) (port : Fin 128)
  /-- CANDIDATE_TIMEOUT (R198). -/
  | candidateTimeout (t : Ps) (port : Fin 128)
  /-- ALIGN_WINDOW_EXPIRY (R198). -/
  | alignWindowExpiry (t : Ps) (port : Fin 128)
  /-- SDI_TRS_RECEIVED (R198). -/
  | sdiTrsReceived (t : Ps) (port : Fin 128) (inPlace : Bool)
  /-- SDI_LINE_RECEIVED (R203). -/
  | sdiLineReceived (t : Ps) (port : Fin 128) (line : Nat) (crcOk : Bool)
  /-- QUAD_PLL_LOSS_OF_LOCK (R207). -/
  | quadPllLossOfLock (t : Ps) (quad : Fin 32) (frac : Bool)
  /-- TX_INTERPOLATOR_REALIGN (R207). -/
  | txInterpolatorRealign (t : Ps) (quad : Fin 32) (frac : Bool)
  /-- TX_RESUME (R855). -/
  | txResume (t : Ps) (port : Fin 128)
  /-- TIE_BLOCK_RECEIVED (R246). -/
  | tieBlockReceived (t : Ps) (bundle : Fin 16) (blocks : List (Option (List Byte))) (skewNs : List Nat)
  /-- TIE_LANE_REJOIN (R248). -/
  | tieLaneRejoin (t : Ps) (bundle : Fin 16) (lane : Fin 5)
  /-- EYE_SCAN (R233). -/
  | eyeScan (t : Ps) (slot : Fin 64) (errors : Nat)
  /-- INPUT_FRAME_RECEIVED (R256). -/
  | inputFrameReceived (t : Ps) (port : Fin 128) (frame : RxFrame)
  /-- FRAME_PUBLISH (R274). -/
  | framePublish (t : Ps) (port : Fin 128)
  /-- INPUT_SIGNAL_LOSS (R270), with the frame that the loss cut short, if any. -/
  | inputSignalLoss (t : Ps) (port : Fin 128) (partOf : Option RxFrame)
  /-- TG_SEAM (R282). -/
  | tgSeam (t : Ps) (tg : Fin 8)
  /-- COMPOSITION_COMPLETE (R450). -/
  | compositionComplete (t : Ps) (comp : Fin 72)
  /-- REGION_RELEASE (R442). -/
  | regionRelease (t : Ps) (acc : Access) (comp : Fin 72) (data : List Byte)
  /-- SEAL_BOUNDARY (R465). -/
  | sealBoundary (t : Ps) (e : Fin 8)
  /-- MANIFEST_SIGNED (R466). -/
  | manifestSigned (t : Ps) (e : Fin 8)
  /-- EVIDENCE_SEAL (R474). -/
  | evidenceSeal (t : Ps) (slot : Fin 64)
  /-- EVIDENCE_EXPORT (R471). -/
  | evidenceExport (t : Ps) (slot : Fin 64) (poisoned : Bool)
  /-- COEFFICIENT_SET_LOAD (R333). -/
  | coefficientSetLoad (t : Ps) (slot : Fin 64) (host : HostRead) (nvOk : Bool)
  /-- EMBEDDED_AUDIO_PACKET (R498). -/
  | embeddedAudioPacket (t : Ps) (port : Fin 128) (packet : AudioPacket)
  /-- EMBEDDED_GROUP_TIMEOUT (R497). -/
  | embeddedGroupTimeout (t : Ps) (port : Fin 128) (group : Fin 8)
  /-- SOURCE_SYNC_LOST (R493). -/
  | sourceSyncLost (t : Ps) (code : Fin 65536)
  /-- SRC_BYPASS_QUALIFIED (R493). -/
  | srcBypassQualified (t : Ps) (code : Fin 65536)
  /-- MUTED_SOURCE_RETURN (R494). -/
  | mutedSourceReturn (t : Ps) (code : Fin 65536)
  /-- EMBEDDER_SLIP (R506). -/
  | embedderSlip (t : Ps) (port : Fin 128) (omits : Bool)
  /-- AES3_FRAME_RECEIVED (R513). -/
  | aes3FrameReceived (t : Ps) (unit : Fin 16) (frame : AesFrame)
  /-- AES3_ACQUIRED (R512). -/
  | aes3Acquired (t : Ps) (unit : Fin 16) (rateHz : Nat)
  /-- AES3_LOSS (R514). -/
  | aes3Loss (t : Ps) (unit : Fin 16) (kind : AesLossKind)
  /-- AES3_TX_BLOCK_BOUNDARY (R524). -/
  | aes3TxBlockBoundary (t : Ps) (unit : Fin 16)
  /-- CAPTURE_BLOCK_FORM (R529). -/
  | captureBlockForm (t : Ps) (stream : Fin 64)
  /-- EA_COUNT_CLEAR (R500). -/
  | eaCountClear (t : Ps) (acc : Access) (port : Fin 128) (data : List Byte)
  /-- AR_COUNT_CLEAR (R517). -/
  | arCountClear (t : Ps) (acc : Access) (unit : Fin 16) (data : List Byte)
  /-- MEMORY_READ (R544). -/
  | memoryRead (t : Ps) (m : MemAccess)
  /-- PAGE_RETIREMENT_COPY_END (R548). -/
  | pageRetirementCopyEnd (t : Ps) (ppn : Fin 524288)
  /-- PAGE_FREE (R563). -/
  | pageFree (t : Ps) (lpn : Fin 524288)
  /-- PATROL_SCRUB_PAGE (R575). -/
  | patrolScrubPage (t : Ps) (ppn : Fin 524288) (reads : List (Fin 1024 × GranuleRead))
  /-- MEMORY_SCRUB (R579). -/
  | memoryScrub (t : Ps) (slot : Fin 64) (reads : List (Fin 1024 × GranuleRead))
  /-- MEMORY_TEST (R580). -/
  | memoryTest (t : Ps) (slot : Fin 64) (failed : List (Fin 1024))
  /-- MEM_COUNT_CLEAR (R583). -/
  | memCountClear (t : Ps) (acc : Access) (data : List Byte)
  /-- FAULT_RECORD_CLEAR (R584). -/
  | faultRecordClear (t : Ps) (acc : Access) (data : List Byte)
  /-- PAGE_TABLE_QUERY (R585). -/
  | pageTableQuery (t : Ps) (acc : Access) (data : List Byte)
  /-- BAR4_READ (R572). -/
  | bar4Read (t : Ps) (fn : Fin 64) (offset : Nat) (length : Nat)
  /-- BAR4_WRITE (R572). -/
  | bar4Write (t : Ps) (fn : Fin 64) (offset : Nat) (data : List Byte)
  /-- WINDOW_GROW_PAGE (R573). -/
  | windowGrowPage (t : Ps) (domain : Fin 64)
  /-- PHY_RECALIBRATE_END (R637). -/
  | phyRecalibrateEnd (t : Ps) (stack : Fin 2)
  /-- DOORBELL_WRITE (R610). -/
  | doorbellWrite (t : Ps) (fn : Fin 64) (offset : Nat) (data : List Byte)
  /-- NOP (R613). -/
  | nop (t : Ps) (d : Desc)
  /-- FENCE_LOCAL (R623). -/
  | fenceLocal (t : Ps) (d : Desc)
  /-- FENCE_HOST (R623). -/
  | fenceHost (t : Ps) (d : Desc)
  /-- FENCE_PERSIST (R623). -/
  | fencePersist (t : Ps) (d : Desc)
  /-- EXPORT_FRAME (R615). -/
  | exportFrame (t : Ps) (d : Desc) (poisoned : Bool) (fin : HostWriteEnd)
  /-- WINDOW_TO_HOST (R614). -/
  | windowToHost (t : Ps) (d : Desc) (fin : HostWriteEnd)
  /-- IMPORT_PLANE (R616). -/
  | importPlane (t : Ps) (d : Desc) (host : HostRead)
  /-- HOST_TO_WINDOW (R614). -/
  | hostToWindow (t : Ps) (d : Desc) (host : HostRead)
  /-- CAPTURE_BUFFER (R617). -/
  | captureBuffer (t : Ps) (d : Desc)
  /-- PLAYBACK_BLOCK (R531). -/
  | playbackBlock (t : Ps) (d : Desc) (host : HostRead)
  /-- EVENT_BUFFER (R617). -/
  | eventBuffer (t : Ps) (d : Desc)
  /-- EVENT_BUFFER_TIMEOUT (R617). -/
  | eventBufferTimeout (t : Ps) (queue : Fin 65536)
  /-- EVIDENCE_BUFFER (R617). -/
  | evidenceBuffer (t : Ps) (d : Desc)
  /-- COMPLETION_WRITE (R620). -/
  | completionWrite (t : Ps) (queue : Fin 65536)
  /-- DESCRIPTOR_RETIRE (R632). -/
  | descriptorRetire (t : Ps) (queue : Fin 65536)
  /-- IRQ_HOLDOFF_EXPIRY (R621). -/
  | irqHoldoffExpiry (t : Ps) (queue : Fin 65536)
  /-- QUEUE_ENABLE (R606). -/
  | queueEnable (t : Ps) (acc : Access)
  /-- QUEUE_DISABLE (R627). -/
  | queueDisable (t : Ps) (acc : Access)
  /-- QUEUE_DRAIN_COMPLETE (R627). -/
  | queueDrainComplete (t : Ps) (queue : Fin 65536)
  /-- RESUME_SKIP (R626). -/
  | resumeSkip (t : Ps) (acc : Access)
  /-- RESUME_RETRY (R626). -/
  | resumeRetry (t : Ps) (acc : Access)
  /-- FUNCTION_LEVEL_RESET (R597). -/
  | functionLevelReset (t : Ps) (fn : Fin 64)
  /-- BUS_MASTER_DISABLE (R597). -/
  | busMasterDisable (t : Ps) (fn : Fin 64)
  /-- VF_DISABLE (R598). -/
  | vfDisable (t : Ps)
  /-- HOT_RESET (R599). -/
  | hotReset (t : Ps)
  /-- FUNCTION_DRAIN_COMPLETE (R598). -/
  | functionDrainComplete (t : Ps) (fn : Fin 64)
  /-- LINK_DOWN (R592). -/
  | linkDown (t : Ps)
  /-- LINK_UP (R592). -/
  | linkUp (t : Ps) (width speed : Nat)
  /-- DOE_DISCOVERY (R796). -/
  | doeDiscovery (t : Ps) (index : Nat)
  /-- DOE_UMOUSA_REQUEST (R796). -/
  | doeUmousaRequest (t : Ps) (nonce : List Byte)
  /-- ATTESTATION_REPORT (R797). -/
  | attestationReport (t : Ps) (slot : Fin 64)
  /-- JOURNAL_REPLAY_RUN (R700). -/
  | journalReplayRun (t : Ps) (cause : Fin 6) (scope : Option (Fin 4)) (uncorrectable : List Nat)
  /-- PLL_LOSS_OF_LOCK (R636). -/
  | pllLossOfLock (t : Ps) (pll : PllBlock)
  /-- PLL_LOCK_CONFIRMED (R641). -/
  | pllLockConfirmed (t : Ps) (pll : Fin 77) (band : Fin 64)
  /-- XTAL_LOSS (R647). -/
  | xtalLoss (t : Ps)
  /-- XTAL_RETURN (R648). -/
  | xtalReturn (t : Ps)
  /-- REF_FRAME_PULSE (R653). -/
  | refFramePulse (t : Ps)
  /-- REF_QUALIFIED (R652). -/
  | refQualified (t : Ps) (tgInput : Option (Fin 8)) (ppb : Int)
  /-- REF_CLK_LOSS (R653). -/
  | refClkLoss (t : Ps) (clockPresent : Bool)
  /-- REF_CLK_CHANGE (R654). -/
  | refClkChange (t : Ps) (found : Fin 7)
  /-- TG_SLEW_COMPLETE (R661). -/
  | tgSlewComplete (t : Ps) (tg : Fin 8)
  /-- TIME_ANCHOR_WRITE (R673). -/
  | timeAnchorWrite (t : Ps) (acc : Access) (data : List Byte)
  /-- ANCHOR_STALE (R674). -/
  | anchorStale (t : Ps)
  /-- PTM_DIALOGUE (R675). -/
  | ptmDialogue (t : Ps) (master : Nat)
  /-- PFAIL_ACCEPT (R689). -/
  | pfailAccept (t : Ps)
  /-- PFAIL_GLITCH (R680). -/
  | pfailGlitch (t : Ps)
  /-- FLUSH_DRAIN_COMPLETE (R689). -/
  | flushDrainComplete (t : Ps)
  /-- POWER_RETURN_RESTART (R696). -/
  | powerReturnRestart (t : Ps)
  /-- HOLDUP_SAMPLE (R681). -/
  | holdupSample (t : Ps) (code : Fin 4096)
  /-- RESERVE_UPDATE (R682). -/
  | reserveUpdate (t : Ps)
  /-- PERSIST_WRITE_ADMIT (R685). -/
  | persistWriteAdmit (t : Ps)
  /-- PERSIST_DRAIN_RECORD (R719). -/
  | persistDrainRecord (t : Ps)
  /-- RING_B_COPY (R719). -/
  | ringBCopy (t : Ps) (tables : Bool)
  /-- FLASH_PROGRAM_FAIL (R724). -/
  | flashProgramFail (t : Ps)
  /-- SECTOR_ERASE_COMPLETE (R722). -/
  | sectorEraseComplete (t : Ps) (ring : Fin 4)
  /-- AUTO_COMPACTION (R722). -/
  | autoCompaction (t : Ps) (ring : Fin 4)
  /-- NV_COMPACTION (R737). -/
  | nvCompaction (t : Ps) (slot : Fin 64)
  /-- SET_PASSWORD (R740). -/
  | setPassword (t : Ps) (acc : Access) (u : Fin 4) (data : List Byte)
  /-- UNLOCK (R741). -/
  | unlock (t : Ps) (acc : Access) (u : Fin 4) (data : List Byte)
  /-- LOCK (R742). -/
  | lock (t : Ps) (acc : Access) (u : Fin 4) (data : List Byte)
  /-- ERASE_AND_CLEAR (R743). -/
  | eraseAndClear (t : Ps) (acc : Access) (u : Fin 4) (data : List Byte)
  /-- BACKOFF_EXPIRY (R741). -/
  | backoffExpiry (t : Ps) (u : Fin 4)
  /-- THERMAL_SAMPLE (R754). -/
  | thermalSample (t : Ps) (readings : List (Option Int))
  /-- GRACE_EXPIRY (R758). -/
  | graceExpiry (t : Ps)
  /-- SHED_STEP_ADVANCE (R758). -/
  | shedStepAdvance (t : Ps)
  /-- SHED_STEP_LIFT (R761). -/
  | shedStepLift (t : Ps)
  /-- T_ABS_TRIP (R765). -/
  | tAbsTrip (t : Ps)
  /-- RAIL_UNDERVOLTAGE (R830). -/
  | railUndervoltage (t : Ps) (rail : Fin 11)
  /-- RESET_N_ASSERT (R768). -/
  | resetNAssert (t : Ps) (lowPs : Ps)
  /-- PERST_ASSERT (R767). -/
  | perstAssert (t : Ps)
  /-- PERST_DEASSERT (R769). -/
  | perstDeassert (t : Ps)
  /-- BOOT_START (R770). -/
  | bootStart (t : Ps) (cause : Fin 7) (nodeId : Fin 128)
  /-- BOOT_STEP_END (R771). -/
  | bootStepEnd (t : Ps) (result : StepResult) (found : BootFindings)
  /-- BOOT_STEP_TIMEOUT (R771). -/
  | bootStepTimeout (t : Ps)
  /-- BOOT_HOLD_RETRY (R771). -/
  | bootHoldRetry (t : Ps) (good : Bool)
  /-- FIRMWARE_VERIFY_STAGE (R786). -/
  | firmwareVerifyStage (t : Ps) (slot : Fin 64) (host : HostRead) (sig : SigCheck) (flashOk : Bool)
  /-- RECOVERY_EXIT (R781). -/
  | recoveryExit (t : Ps)
  /-- FUSE_REREAD (R782). -/
  | fuseReread (t : Ps) (ok : Bool)
  /-- BOOT_LEDGER_RESET (R798). -/
  | bootLedgerReset (t : Ps) (slot : Fin 64)
  /-- OWNER_ENROL (R790). -/
  | ownerEnrol (t : Ps) (acc : Access) (data : List Byte) (sig : SigCheck)
  /-- OWNER_ENROL_ENFORCE (R791). -/
  | ownerEnrolEnforce (t : Ps) (acc : Access) (data : List Byte) (sig : SigCheck)
  /-- OWNER_REVOKE (R790). -/
  | ownerRevoke (t : Ps) (acc : Access) (data : List Byte) (sig : SigCheck)
  /-- ENTER_RMA (R792). -/
  | enterRma (t : Ps) (acc : Access) (data : List Byte) (sig : SigCheck)
  /-- SVN_COMMIT (R793). -/
  | svnCommit (t : Ps) (acc : Access) (data : List Byte)
  /-- EPOCH_ADVANCE (R789). -/
  | epochAdvance (t : Ps) (acc : Access) (data : List Byte)
  /-- CELL_RETRY_END (R800). -/
  | cellRetryEnd (t : Ps) (unit : FaultUnit) (fin : CellEnd)
  /-- BLOCK_WATCHDOG_EXPIRY (R799). -/
  | blockWatchdogExpiry (t : Ps) (block : Fin 39)
  /-- REGION_TIMEOUT_EXPIRY (R799). -/
  | regionTimeoutExpiry (t : Ps) (region : Fin 4)
  /-- CHIP_TIMEOUT_EXPIRY (R799). -/
  | chipTimeoutExpiry (t : Ps) (silent : Silent)
  /-- RECOVERY_COMMIT_POINT (R802). -/
  | recoveryCommitPoint (t : Ps) (unit : FaultUnit)
  /-- RECOVERY_END (R802). -/
  | recoveryEnd (t : Ps) (unit : FaultUnit) (ok : Bool)
  /-- RECOVERY_BUDGET_SPENT (R803). -/
  | recoveryBudgetSpent (t : Ps) (unit : FaultUnit)
  /-- LOG_CLEAR (R821). -/
  | logClear (t : Ps) (acc : Access) (data : List Byte)
  /-- VF_ENABLE (R593). -/
  | vfEnable (t : Ps) (count : Fin 64)
  /-- REF_CLK_PRESENT (R650). -/
  | refClkPresent (t : Ps) (found : Fin 7)
  /-- ROOT_LOSS_OF_LOCK (R647). -/
  | rootLossOfLock (t : Ps)
  /-- CAN_BUS_ERROR (R84). -/
  | canBusError (t : Ps) (error : CanError)
  /-- PRBS_SYNC_GAINED (R229). -/
  | prbsSyncGained (t : Ps) (seen : PrbsSeen)
  /-- PRBS_SYNC_LOST (R229): with the bit errors since synchronisation, and those in the latest 65,536 bits. -/
  | prbsSyncLost (t : Ps) (port : Fin 128) (errors recent : Nat)
  /-- PLAYBACK_GAP (R532). -/
  | playbackGap (t : Ps) (stream : Fin 32)
  /-- AUDIO_CLOCK_SLEW_END (R482). -/
  | audioClockSlewEnd (t : Ps)
  /-- STC_SLEW_END (R671). -/
  | stcSlewEnd (t : Ps)
  /-- GPIO_IN_SAMPLE (R841). -/
  | gpioInSample (t : Ps) (levels : BitVec 32)
  /-- FLASH_ERASE_FAIL (R724). -/
  | flashEraseFail (t : Ps) (ring : Fin 4)
  deriving DecidableEq, Repr

end Sys2Proof
end

