-- ==== Sys2Proof/Decode.lean ====
section
/-! DEFINITION. The decoder: no row of the opcode table gives its command any bits, so no word spells one. -/

namespace Sys2Proof

/-- The command a word spells by the table's bits: none, since no row of the table gives bits. -/
def decodeTableWord (_nbits _w : Nat) : Option Instr := none

end Sys2Proof
end

