-- ==== Sys2Proof/Config.lean ====
section
/-! DEFINITION. What the manual leaves open and one part fixes: free values. Each is a constant without a body, so a
claim that is proved holds for every value it may have. -/

namespace Sys2Proof.Config

/-- The severity of an event (R816 gives the codes 0 to 4, no rule assigns one to an event), by its code, its entry and
its class (log entry 2). -/
opaque severity (code entry cls : Nat) : Nat

/-- Fresh values that the manual leaves open, by the model's own counter (log entry 3). -/
opaque freeValue (n : Nat) : BitVec 64

/-- The 16-byte SALT of R740 from the random source, by the counter. -/
opaque salt (n : Nat) : BitVec 128

/-- The identity public keys of R787: 32 bytes Ed25519 and 1,952 bytes ML-DSA-65, from a seed never released. -/
opaque identityPub : BitVec 15872

/-- The evidence public keys of an epoch (R787, R788). -/
opaque evidencePub (epoch ownerSalt : Nat) : BitVec 15872

/-- The vendor certificate of the identity keys (R788): the manual gives it no layout and no length. -/
opaque identityCert : List Byte

/-- The Vendor ID of the function's configuration header (R796). -/
opaque pcieVendorId : BitVec 16

/-- Do the vendor signatures verify on the bytes of a token that a write brings without saying what the security engine
found (R790; log entry 68)? -/
opaque tokenVerifies (bytes : Nat) : Bool

/-- An Ed25519 signature (RFC 8032): the key (0 identity, 1 + epoch + 2^32 × owner salt an evidence key) and the bytes as one number. -/
opaque sigEd25519 (key msg : Nat) : BitVec 512

/-- An ML-DSA-65 signature (FIPS 204, hedged): the key, the bytes and the counter of fresh values. -/
opaque sigMlDsa65 (key msg n : Nat) : BitVec 26472

/-- What a built-in preset makes of a pixel (R349 states no bit-exact arithmetic; log entry 65): preset, component, and the pixel's three
components. -/
opaque presetValue (preset comp c0 c1 c2 : Nat) : BitVec 12

/-- The passband filter of a sample-rate converter (R493): source, destination, the counter. -/
opaque srcSample (src dst n : Nat) : BitVec 24

/-- The ST 352 payload ID word of a signal as sent, whose coding the manual leaves to the standard (R293): format word, rate code, level B,
place in its assembly. -/
opaque payloadId (format rate levelB link : Nat) : BitVec 32

/-- The offset in 0.01 ppm at which the interpolator of a far-end loop follows the recovered clock (R226), within its bound. -/
opaque steerPpm (port now : Nat) : BitVec 16

/-- Bit errors that a synchronised PRBS checker has counted (R229): port, since when, now. -/
opaque prbsErrors (port since now : Nat) : BitVec 64

/-- The 31 bits before the first of a test pattern (R229 fixes the sequence, not where it starts): port, instant. -/
opaque prbsStart (port at_ : Nat) : BitVec 31

/-- The payload of a data lane's block: how the tie channels are laid in it (R251) is left open: bundle, lane, block. -/
opaque tieStripe (bundle lane block : Nat) : BitVec 65440

/-- The VCO band a PLL settles on (R641, R643): block and counter. -/
opaque vcoBand (pll n : Nat) : BitVec 6

end Sys2Proof.Config
end

