-- ==== Sys2Proof/Machine/Keys.lean ====
section
/-! DEFINITION. The names of the dictionary entries: the key of entry [index:sub] is index * 256 + sub (R59 orders the
slots the same way). A name is its object, as its chapter's table writes it, and the entry's name there; an object given
by a number has an x before it, and up is the user partition [1A1u]. `n` is the number of the unit, `i` the place in a
range of entries. -/

namespace Sys2Proof.Machine.K

/-! Object [1000] (R1). -/

abbrev x1000_DEVICE_TYPE : Nat := 0x1000 * 256 + 0x01
abbrev x1000_STEPPING : Nat := 0x1000 * 256 + 0x02
abbrev x1000_ORDERING_CODE : Nat := 0x1000 * 256 + 0x03
abbrev x1000_FW_VERSION : Nat := 0x1000 * 256 + 0x04
abbrev x1000_COMPAT_ACTIVE : Nat := 0x1000 * 256 + 0x05
abbrev x1000_COMPAT_REQUEST : Nat := 0x1000 * 256 + 0x06
abbrev x1000_PCIE_DEVICE_ID : Nat := 0x1000 * 256 + 0x07

/-! Object [1001] (R56). -/

abbrev x1001_DICT_STATE : Nat := 0x1001 * 256 + 0x01
abbrev x1001_REQUESTER_ID : Nat := 0x1001 * 256 + 0x02

/-! Object [1010] (R17). -/

abbrev x1010_N_PORTS : Nat := 0x1010 * 256 + 0x01
abbrev x1010_N_DISPLAY_COMP : Nat := 0x1010 * 256 + 0x02
abbrev x1010_N_EVIDENCE_COMP : Nat := 0x1010 * 256 + 0x03
abbrev x1010_N_FRC : Nat := 0x1010 * 256 + 0x04
abbrev x1010_N_REGIONS : Nat := 0x1010 * 256 + 0x05
abbrev x1010_N_STACKS : Nat := 0x1010 * 256 + 0x06
abbrev x1010_N_QUEUES : Nat := 0x1010 * 256 + 0x07
abbrev x1010_N_JOURNAL : Nat := 0x1010 * 256 + 0x08

/-! Object [1011] (R17). -/

abbrev x1011_REGION_STATE (i : Nat) : Nat := 0x1011 * 256 + (0x01 + i)

/-! Object [1012] (R17). -/

abbrev x1012_PB_STATE (i : Nat) : Nat := 0x1012 * 256 + (0x01 + i)
abbrev x1012_CB_STATE (i : Nat) : Nat := 0x1012 * 256 + (0x11 + i)
abbrev x1012_EB_STATE (i : Nat) : Nat := 0x1012 * 256 + (0x21 + i)
abbrev x1012_MB_STATE (i : Nat) : Nat := 0x1012 * 256 + (0x25 + i)

/-! Object [1020] (R841). -/

abbrev x1020_GPIO_DIR : Nat := 0x1020 * 256 + 0x01
abbrev x1020_GPIO_OUT : Nat := 0x1020 * 256 + 0x02
abbrev x1020_GPIO_IN : Nat := 0x1020 * 256 + 0x03
abbrev x1020_PIN_SOURCE (i : Nat) : Nat := 0x1020 * 256 + (0x04 + i)

/-! Object [1110] (R84). -/

abbrev x1110_NODE_ID : Nat := 0x1110 * 256 + 0x01
abbrev x1110_ARB_RATE : Nat := 0x1110 * 256 + 0x02
abbrev x1110_DATA_RATE : Nat := 0x1110 * 256 + 0x03
abbrev x1110_DDP_WRITE_MODE : Nat := 0x1110 * 256 + 0x04
abbrev x1110_TX_ERR_COUNT : Nat := 0x1110 * 256 + 0x05
abbrev x1110_RX_ERR_COUNT : Nat := 0x1110 * 256 + 0x06
abbrev x1110_BUS_STATE : Nat := 0x1110 * 256 + 0x07

/-! Object [slot] (R127). -/

abbrev slot_STATUS (n : Nat) : Nat := (0x1200 + n) * 256 + 0x01
abbrev slot_CONTROL (n : Nat) : Nat := (0x1200 + n) * 256 + 0x02
abbrev slot_OPCODE (n : Nat) : Nat := (0x1200 + n) * 256 + 0x03
abbrev slot_OWNER (n : Nat) : Nat := (0x1200 + n) * 256 + 0x04
abbrev slot_ABORT_RESULT (n : Nat) : Nat := (0x1200 + n) * 256 + 0x05
abbrev slot_ARG (n : Nat) (i : Nat) : Nat := (0x1200 + n) * 256 + (0x06 + i)
abbrev slot_RESULT (n : Nat) (i : Nat) : Nat := (0x1200 + n) * 256 + (0x10 + i)

/-! Object [1400] (R649). -/

abbrev x1400_XTAL_STATE : Nat := 0x1400 * 256 + 0x01
abbrev x1400_XTAL_LOSSES : Nat := 0x1400 * 256 + 0x02
abbrev x1400_ROOT_STATE : Nat := 0x1400 * 256 + 0x03
abbrev x1400_ROOT_BAND : Nat := 0x1400 * 256 + 0x04

/-! Object [1401] (R640). -/

abbrev x1401_PLL_STATE (i : Nat) : Nat := 0x1401 * 256 + (0x01 + i)

/-! Object [1402] (R640). -/

abbrev x1402_PLL_RELOCKS (i : Nat) : Nat := 0x1402 * 256 + (0x01 + i)

/-! Object [1410] (R655). -/

abbrev x1410_REF_CLK_SELECT : Nat := 0x1410 * 256 + 0x01
abbrev x1410_REF_FRAME_RATE : Nat := 0x1410 * 256 + 0x02
abbrev x1410_REF_FRAME_EDGE : Nat := 0x1410 * 256 + 0x03
abbrev x1410_QUALIFY_MS : Nat := 0x1410 * 256 + 0x04
abbrev x1410_REF_STATE : Nat := 0x1410 * 256 + 0x05
abbrev x1410_REF_CLK_FOUND : Nat := 0x1410 * 256 + 0x06
abbrev x1410_REF_OFFSET_PPB : Nat := 0x1410 * 256 + 0x07
abbrev x1410_REF_LOSSES : Nat := 0x1410 * 256 + 0x08
abbrev x1410_FRAME_GLITCHES : Nat := 0x1410 * 256 + 0x09
abbrev x1410_PHASE_JUMPS : Nat := 0x1410 * 256 + 0x0A
abbrev x1410_LAST_PULSE_STC : Nat := 0x1410 * 256 + 0x0B

/-! Object [tg] (R278). -/

abbrev tg_TG_FORMAT (n : Nat) : Nat := (0x1440 + n) * 256 + 0x01
abbrev tg_LOCK_SOURCE (n : Nat) : Nat := (0x1440 + n) * 256 + 0x02
abbrev tg_PHASE_LINES (n : Nat) : Nat := (0x1440 + n) * 256 + 0x03
abbrev tg_PHASE_NS (n : Nat) : Nat := (0x1440 + n) * 256 + 0x04
abbrev tg_TG_STATE (n : Nat) : Nat := (0x1440 + n) * 256 + 0x05
abbrev tg_SEAM_COUNT (n : Nat) : Nat := (0x1440 + n) * 256 + 0x06
abbrev tg_LAST_SEAM_STC (n : Nat) : Nat := (0x1440 + n) * 256 + 0x07

/-! Object [tgl] (R669). -/

abbrev tgl_JUMP_POLICY (n : Nat) : Nat := (0x1450 + n) * 256 + 0x01
abbrev tgl_PHASE_ERROR_NS (n : Nat) : Nat := (0x1450 + n) * 256 + 0x02
abbrev tgl_FREQ_OFFSET_PPB (n : Nat) : Nat := (0x1450 + n) * 256 + 0x03
abbrev tgl_HELD_PPB (n : Nat) : Nat := (0x1450 + n) * 256 + 0x04
abbrev tgl_BIVOUAC_ENTRIES (n : Nat) : Nat := (0x1450 + n) * 256 + 0x05
abbrev tgl_REALIGNS (n : Nat) : Nat := (0x1450 + n) * 256 + 0x06
abbrev tgl_LAST_REALIGN_LINES (n : Nat) : Nat := (0x1450 + n) * 256 + 0x07
abbrev tgl_BIVOUAC_MS (n : Nat) : Nat := (0x1450 + n) * 256 + 0x08

/-! Object [1460] (R672). -/

abbrev x1460_STC_NOW : Nat := 0x1460 * 256 + 0x01
abbrev x1460_STC_SOURCE : Nat := 0x1460 * 256 + 0x02
abbrev x1460_STC_STATE : Nat := 0x1460 * 256 + 0x03
abbrev x1460_STC_RATE_PPB : Nat := 0x1460 * 256 + 0x04

/-! Object [1468] (R675). -/

abbrev x1468_ANCHOR : Nat := 0x1468 * 256 + 0x01
abbrev x1468_ANCHOR_REQUESTER : Nat := 0x1468 * 256 + 0x02
abbrev x1468_ANCHOR_MAX_AGE_S : Nat := 0x1468 * 256 + 0x03
abbrev x1468_ANCHOR_STATE : Nat := 0x1468 * 256 + 0x04
abbrev x1468_PTM_PAIR : Nat := 0x1468 * 256 + 0x05
abbrev x1468_PTM_INTERVAL_MS : Nat := 0x1468 * 256 + 0x06
abbrev x1468_ANCHOR_COUNT : Nat := 0x1468 * 256 + 0x07

/-! Object [1470] (R676). -/

abbrev x1470_ROPE_DELTA (i : Nat) : Nat := 0x1470 * 256 + (0x01 + i)

/-! Object [1600] (R752). -/

abbrev x1600_T_WARN_C : Nat := 0x1600 * 256 + 0x01
abbrev x1600_T_SLOW_C : Nat := 0x1600 * 256 + 0x02
abbrev x1600_T_CRIT_C : Nat := 0x1600 * 256 + 0x03
abbrev x1600_T_TRIP_C : Nat := 0x1600 * 256 + 0x04
abbrev x1600_T_ABS_C : Nat := 0x1600 * 256 + 0x05
abbrev x1600_THRESH_ENABLE : Nat := 0x1600 * 256 + 0x06
abbrev x1600_RISE_LIMIT : Nat := 0x1600 * 256 + 0x07
abbrev x1600_GRACE_MS : Nat := 0x1600 * 256 + 0x08
abbrev x1600_STACK_DERATE_C : Nat := 0x1600 * 256 + 0x09
abbrev x1600_REQUEST_HEADROOM_MBPS : Nat := 0x1600 * 256 + 0x0A

/-! Object [1601] (R751). -/

abbrev x1601_DIE_T (i : Nat) : Nat := 0x1601 * 256 + (0x01 + i)
abbrev x1601_STACK_T (i : Nat) : Nat := 0x1601 * 256 + (0x21 + i)

/-! Object [1602] (R766). -/

abbrev x1602_THERMAL_LEVEL : Nat := 0x1602 * 256 + 0x01
abbrev x1602_THROTTLE_FLAG : Nat := 0x1602 * 256 + 0x02
abbrev x1602_SHED_STEP : Nat := 0x1602 * 256 + 0x03
abbrev x1602_HOTTEST_SENSOR : Nat := 0x1602 * 256 + 0x04
abbrev x1602_HOTTEST_T : Nat := 0x1602 * 256 + 0x05
abbrev x1602_MAX_RISE : Nat := 0x1602 * 256 + 0x06
abbrev x1602_RISE_ENTERED : Nat := 0x1602 * 256 + 0x07
abbrev x1602_SAMPLE_MS : Nat := 0x1602 * 256 + 0x08
abbrev x1602_CEILING_D2H_MBPS : Nat := 0x1602 * 256 + 0x09
abbrev x1602_CEILING_H2D_MBPS : Nat := 0x1602 * 256 + 0x0A
abbrev x1602_GRACE_LEFT_MS : Nat := 0x1602 * 256 + 0x0B
abbrev x1602_CRIT_ENTRIES : Nat := 0x1602 * 256 + 0x0C
abbrev x1602_FAILED_SENSORS : Nat := 0x1602 * 256 + 0x0D
abbrev x1602_LAST_STOP_CAUSE : Nat := 0x1602 * 256 + 0x0E

/-! Object [1610] (R830). -/

abbrev x1610_RAIL_MV (i : Nat) : Nat := 0x1610 * 256 + (0x01 + i)
abbrev x1610_RAIL_FAULTS : Nat := 0x1610 * 256 + 0x0C
abbrev x1610_LAST_RAIL : Nat := 0x1610 * 256 + 0x0D

/-! Object [1620] (R47). -/

abbrev x1620_P_LANES : Nat := 0x1620 * 256 + 0x01
abbrev x1620_P_MEMORY : Nat := 0x1620 * 256 + 0x02
abbrev x1620_P_COMPOSITORS : Nat := 0x1620 * 256 + 0x03
abbrev x1620_P_CONVERSION : Nat := 0x1620 * 256 + 0x04
abbrev x1620_P_INPUTS : Nat := 0x1620 * 256 + 0x05
abbrev x1620_P_PCIE : Nat := 0x1620 * 256 + 0x06
abbrev x1620_P_CONTROL : Nat := 0x1620 * 256 + 0x07
abbrev x1620_P_TOTAL : Nat := 0x1620 * 256 + 0x08

/-! Object [1640] (R688). -/

abbrev x1640_HOLDUP_MODE : Nat := 0x1640 * 256 + 0x01
abbrev x1640_HOLDUP_C_UF : Nat := 0x1640 * 256 + 0x02
abbrev x1640_HOLDUP_DIVIDER : Nat := 0x1640 * 256 + 0x03
abbrev x1640_HOLDUP_VMIN_MV : Nat := 0x1640 * 256 + 0x04
abbrev x1640_HOLDUP_EFF_PCT : Nat := 0x1640 * 256 + 0x05
abbrev x1640_HOLDUP_DECLARED_MJ : Nat := 0x1640 * 256 + 0x06
abbrev x1640_VBULK_MV : Nat := 0x1640 * 256 + 0x07
abbrev x1640_RESERVE_MJ : Nat := 0x1640 * 256 + 0x08
abbrev x1640_WINDOW_KIB : Nat := 0x1640 * 256 + 0x09
abbrev x1640_PB_OCCUPANCY : Nat := 0x1640 * 256 + 0x0A
abbrev x1640_PB_STATE : Nat := 0x1640 * 256 + 0x0B
abbrev x1640_FLUSH_COUNT : Nat := 0x1640 * 256 + 0x0C
abbrev x1640_PFAIL_GLITCHES : Nat := 0x1640 * 256 + 0x0D
abbrev x1640_LAST_FLUSH_US : Nat := 0x1640 * 256 + 0x0E
abbrev x1640_LAST_FLUSH_BYTES : Nat := 0x1640 * 256 + 0x0F
abbrev x1640_RESTART_CAUSE : Nat := 0x1640 * 256 + 0x10
abbrev x1640_WINDOW_STALLS : Nat := 0x1640 * 256 + 0x11

/-! Object [1800] (R793). -/

abbrev x1800_LIFECYCLE : Nat := 0x1800 * 256 + 0x01
abbrev x1800_OWNER_POLICY : Nat := 0x1800 * 256 + 0x02
abbrev x1800_OWNER_SLOTS : Nat := 0x1800 * 256 + 0x03
abbrev x1800_OTP_SVN : Nat := 0x1800 * 256 + 0x04
abbrev x1800_OWNER_TOKEN : Nat := 0x1800 * 256 + 0x05
abbrev x1800_SVN_COMMIT : Nat := 0x1800 * 256 + 0x06

/-! Object [1801] (R793). -/

abbrev x1801_RUNNING_SLOT : Nat := 0x1801 * 256 + 0x01
abbrev x1801_SLOT_STATE (i : Nat) : Nat := 0x1801 * 256 + (0x02 + i)
abbrev x1801_SLOT_VERSION (i : Nat) : Nat := 0x1801 * 256 + (0x04 + i)
abbrev x1801_SLOT_SVN (i : Nat) : Nat := 0x1801 * 256 + (0x06 + i)
abbrev x1801_PREFERRED_SLOT : Nat := 0x1801 * 256 + 0x08
abbrev x1801_TRY_SLOT : Nat := 0x1801 * 256 + 0x09

/-! Object [1802] (R793). -/

abbrev x1802_IDENTITY_CERT : Nat := 0x1802 * 256 + 0x01
abbrev x1802_IDENTITY_PUB : Nat := 0x1802 * 256 + 0x02
abbrev x1802_DEVICE_KEY_ID : Nat := 0x1802 * 256 + 0x03
abbrev x1802_EVIDENCE_CERT : Nat := 0x1802 * 256 + 0x04
abbrev x1802_PREV_EVIDENCE_CERT : Nat := 0x1802 * 256 + 0x05
abbrev x1802_EPOCH_ADVANCE : Nat := 0x1802 * 256 + 0x06

/-! Object [1808] (R797). -/

abbrev x1808_REPORT : Nat := 0x1808 * 256 + 0x01

/-! Object [1830] (R479). -/

abbrev x1830_SEAL_INTERVAL_MS : Nat := 0x1830 * 256 + 0x01
abbrev x1830_KEY_EPOCH : Nat := 0x1830 * 256 + 0x02
abbrev x1830_MANIFESTS_SIGNED : Nat := 0x1830 * 256 + 0x03
abbrev x1830_LAST_SIGN_US : Nat := 0x1830 * 256 + 0x04
abbrev x1830_MAX_SIGN_US : Nat := 0x1830 * 256 + 0x05
abbrev x1830_UNREFINED_TILES : Nat := 0x1830 * 256 + 0x06
abbrev x1830_POWER_LOSS_RECORD : Nat := 0x1830 * 256 + 0x07

/-! Object [ec] (R480). -/

abbrev ec_EV_POOL_MIB (n : Nat) : Nat := (0x1840 + n) * 256 + 0x01
abbrev ec_CHAIN_STATE (n : Nat) : Nat := (0x1840 + n) * 256 + 0x02
abbrev ec_RECORD_SEQ (n : Nat) : Nat := (0x1840 + n) * 256 + 0x03
abbrev ec_LAST_RECORD_DIGEST (n : Nat) : Nat := (0x1840 + n) * 256 + 0x04
abbrev ec_SEALED_SEQ (n : Nat) : Nat := (0x1840 + n) * 256 + 0x05
abbrev ec_EXPORTED_SEQ (n : Nat) : Nat := (0x1840 + n) * 256 + 0x06
abbrev ec_MANIFEST_SEQ (n : Nat) : Nat := (0x1840 + n) * 256 + 0x07
abbrev ec_POOL_FREE_PAGES (n : Nat) : Nat := (0x1840 + n) * 256 + 0x08
abbrev ec_GAP_SEAMS (n : Nat) : Nat := (0x1840 + n) * 256 + 0x09
abbrev ec_MARKED_FRAMES (n : Nat) : Nat := (0x1840 + n) * 256 + 0x0A

/-! Object [1A00] (R745). -/

abbrev x1A00_NV_STATE : Nat := 0x1A00 * 256 + 0x01
abbrev x1A00_FLASH_ID : Nat := 0x1A00 * 256 + 0x02
abbrev x1A00_ERASED_A : Nat := 0x1A00 * 256 + 0x03
abbrev x1A00_ERASED_B : Nat := 0x1A00 * 256 + 0x04
abbrev x1A00_LIVE_KIB : Nat := 0x1A00 * 256 + 0x05
abbrev x1A00_TABLES_LIVE_KIB : Nat := 0x1A00 * 256 + 0x06
abbrev x1A00_TORN_DISCARDED : Nat := 0x1A00 * 256 + 0x07
abbrev x1A00_CONFLICTS : Nat := 0x1A00 * 256 + 0x08
abbrev x1A00_LAST_CONFLICT : Nat := 0x1A00 * 256 + 0x09
abbrev x1A00_PROGRAM_FAILS : Nat := 0x1A00 * 256 + 0x0A
abbrev x1A00_BAD_SECTORS : Nat := 0x1A00 * 256 + 0x0B
abbrev x1A00_MOUNT_MS : Nat := 0x1A00 * 256 + 0x0C
abbrev x1A00_B_COPIES : Nat := 0x1A00 * 256 + 0x0D
abbrev x1A00_UNCONFIRMED_GROUPS : Nat := 0x1A00 * 256 + 0x0E

/-! Object [1A1u] (R744). -/

abbrev up_BODY (n : Nat) : Nat := (0x1A10 + n) * 256 + 0x01
abbrev up_PROTECT_MODE (n : Nat) : Nat := (0x1A10 + n) * 256 + 0x02
abbrev up_SET_PASSWORD (n : Nat) : Nat := (0x1A10 + n) * 256 + 0x03
abbrev up_UNLOCK (n : Nat) : Nat := (0x1A10 + n) * 256 + 0x04
abbrev up_LOCK (n : Nat) : Nat := (0x1A10 + n) * 256 + 0x05
abbrev up_UNLOCKED (n : Nat) : Nat := (0x1A10 + n) * 256 + 0x06
abbrev up_FAILURES (n : Nat) : Nat := (0x1A10 + n) * 256 + 0x07
abbrev up_BACKOFF_S (n : Nat) : Nat := (0x1A10 + n) * 256 + 0x08
abbrev up_ERASE_AND_CLEAR (n : Nat) : Nat := (0x1A10 + n) * 256 + 0x09

/-! Object [1C10] (R821). -/

abbrev x1C10_FAULT_COUNT : Nat := 0x1C10 * 256 + 0x01
abbrev x1C10_FAULT_LOG : Nat := 0x1C10 * 256 + 0x02
abbrev x1C10_LAST_FAULT : Nat := 0x1C10 * 256 + 0x03
abbrev x1C10_LOG_CLEAR : Nat := 0x1C10 * 256 + 0x04
abbrev x1C10_EVENT_SEQ : Nat := 0x1C10 * 256 + 0x05
abbrev x1C10_MAX_INTERRUPT_US : Nat := 0x1C10 * 256 + 0x06
abbrev x1C10_INTERRUPTIONS : Nat := 0x1C10 * 256 + 0x07
abbrev x1C10_ESCALATIONS : Nat := 0x1C10 * 256 + 0x08

/-! Object [1C11] (R821). -/

abbrev x1C11_CELL_BUDGET_NS : Nat := 0x1C11 * 256 + 0x01
abbrev x1C11_BLOCK_WATCHDOG_US : Nat := 0x1C11 * 256 + 0x02
abbrev x1C11_BLOCK_BUDGET_US : Nat := 0x1C11 * 256 + 0x03
abbrev x1C11_REGION_TIMEOUT_US : Nat := 0x1C11 * 256 + 0x04
abbrev x1C11_REGION_BUDGET_US : Nat := 0x1C11 * 256 + 0x05
abbrev x1C11_CHIP_TIMEOUT_US : Nat := 0x1C11 * 256 + 0x06
abbrev x1C11_CHIP_BUDGET_US : Nat := 0x1C11 * 256 + 0x07

/-! Object [1C20] (R41). -/

abbrev x1C20_MISS_COUNT : Nat := 0x1C20 * 256 + 0x01
abbrev x1C20_LAST_ADDRESS : Nat := 0x1C20 * 256 + 0x02
abbrev x1C20_LAST_MASTER : Nat := 0x1C20 * 256 + 0x03
abbrev x1C20_LAST_KIND : Nat := 0x1C20 * 256 + 0x04
abbrev x1C20_LAST_STC : Nat := 0x1C20 * 256 + 0x05
abbrev x1C20_CLEAR : Nat := 0x1C20 * 256 + 0x06

/-! Object [1C21] (R73). -/

abbrev x1C21_REFUSE_COUNT : Nat := 0x1C21 * 256 + 0x01
abbrev x1C21_LAST_ENTRY : Nat := 0x1C21 * 256 + 0x02
abbrev x1C21_LAST_REQUESTER : Nat := 0x1C21 * 256 + 0x03
abbrev x1C21_LAST_REASON : Nat := 0x1C21 * 256 + 0x04
abbrev x1C21_LAST_STC : Nat := 0x1C21 * 256 + 0x05
abbrev x1C21_CLEAR : Nat := 0x1C21 * 256 + 0x06

/-! Object [1C30] (R709). -/

abbrev x1C30_JOURNAL_USED : Nat := 0x1C30 * 256 + 0x01
abbrev x1C30_JOURNAL_MAX_USED : Nat := 0x1C30 * 256 + 0x02
abbrev x1C30_JOURNAL_WAITS : Nat := 0x1C30 * 256 + 0x03
abbrev x1C30_REPLAY_RUNS : Nat := 0x1C30 * 256 + 0x04
abbrev x1C30_REPLAYED_OPS : Nat := 0x1C30 * 256 + 0x05
abbrev x1C30_ABANDONED_OPS : Nat := 0x1C30 * 256 + 0x06
abbrev x1C30_LAST_REPLAY_CAUSE : Nat := 0x1C30 * 256 + 0x07
abbrev x1C30_LAST_REPLAY_STC : Nat := 0x1C30 * 256 + 0x08
abbrev x1C30_LAST_REPLAY_US : Nat := 0x1C30 * 256 + 0x09

/-! Object [1C40] (R780). -/

abbrev x1C40_START_SEQ : Nat := 0x1C40 * 256 + 0x01
abbrev x1C40_START_CAUSE : Nat := 0x1C40 * 256 + 0x02
abbrev x1C40_REDUCED : Nat := 0x1C40 * 256 + 0x03
abbrev x1C40_BOOT_STEP : Nat := 0x1C40 * 256 + 0x04
abbrev x1C40_LEDGER_ENTRY : Nat := 0x1C40 * 256 + 0x05
abbrev x1C40_PERMANENT_SKIPS : Nat := 0x1C40 * 256 + 0x06
abbrev x1C40_BOOT_MS : Nat := 0x1C40 * 256 + 0x07
abbrev x1C40_PERST_SCOPE : Nat := 0x1C40 * 256 + 0x08
abbrev x1C40_RESTARTS : Nat := 0x1C40 * 256 + 0x09

/-! Object [rx] (R204). -/

abbrev rx_RX_ENABLE (n : Nat) : Nat := (0x2000 + n) * 256 + 0x01
abbrev rx_RATE_MASK (n : Nat) : Nat := (0x2000 + n) * 256 + 0x02
abbrev rx_RX_RESTART (n : Nat) : Nat := (0x2000 + n) * 256 + 0x03
abbrev rx_LOS_ASSERT_US (n : Nat) : Nat := (0x2000 + n) * 256 + 0x04
abbrev rx_LOS_CLEAR_US (n : Nat) : Nat := (0x2000 + n) * 256 + 0x05
abbrev rx_LOL_ASSERT_US (n : Nat) : Nat := (0x2000 + n) * 256 + 0x06
abbrev rx_LOL_CLEAR_US (n : Nat) : Nat := (0x2000 + n) * 256 + 0x07
abbrev rx_RX_TEST (n : Nat) : Nat := (0x2000 + n) * 256 + 0x08
abbrev rx_PRBS_CHECK (n : Nat) : Nat := (0x2000 + n) * 256 + 0x09
abbrev rx_RX_STATE (n : Nat) : Nat := (0x2000 + n) * 256 + 0x0A
abbrev rx_RX_RATE (n : Nat) : Nat := (0x2000 + n) * 256 + 0x0B
abbrev rx_SIGNAL (n : Nat) : Nat := (0x2000 + n) * 256 + 0x0C
abbrev rx_LOCK_COUNT (n : Nat) : Nat := (0x2000 + n) * 256 + 0x0D
abbrev rx_DROP_COUNT (n : Nat) : Nat := (0x2000 + n) * 256 + 0x0E
abbrev rx_CRC_ERRORS (n : Nat) : Nat := (0x2000 + n) * 256 + 0x0F
abbrev rx_PRBS_STATUS (n : Nat) : Nat := (0x2000 + n) * 256 + 0x10
abbrev rx_PRBS_ERRORS (n : Nat) : Nat := (0x2000 + n) * 256 + 0x11
abbrev rx_PRBS_BITS (n : Nat) : Nat := (0x2000 + n) * 256 + 0x12
abbrev rx_COUNT_CLEAR (n : Nat) : Nat := (0x2000 + n) * 256 + 0x13
abbrev rx_EYE_MAP (n : Nat) : Nat := (0x2000 + n) * 256 + 0x14

/-! Object [tx] (R206). -/

abbrev tx_TX_ENABLE (n : Nat) : Nat := (0x2080 + n) * 256 + 0x01
abbrev tx_TX_RATE (n : Nat) : Nat := (0x2080 + n) * 256 + 0x02
abbrev tx_TX_TEST (n : Nat) : Nat := (0x2080 + n) * 256 + 0x03
abbrev tx_INJECT_ERROR (n : Nat) : Nat := (0x2080 + n) * 256 + 0x04
abbrev tx_TX_STATE (n : Nat) : Nat := (0x2080 + n) * 256 + 0x05
abbrev tx_TX_PLL (n : Nat) : Nat := (0x2080 + n) * 256 + 0x06
abbrev tx_STEER_PPM (n : Nat) : Nat := (0x2080 + n) * 256 + 0x07
abbrev tx_SQUELCH_COUNT (n : Nat) : Nat := (0x2080 + n) * 256 + 0x08
abbrev tx_LAST_SQUELCH_US (n : Nat) : Nat := (0x2080 + n) * 256 + 0x09

/-! Object [quad] (R210). -/

abbrev quad_PLL_INT_STATE (n : Nat) : Nat := (0x2100 + n) * 256 + 0x01
abbrev quad_PLL_FRAC_STATE (n : Nat) : Nat := (0x2100 + n) * 256 + 0x02
abbrev quad_PLL_INT_BAND (n : Nat) : Nat := (0x2100 + n) * 256 + 0x03
abbrev quad_PLL_FRAC_BAND (n : Nat) : Nat := (0x2100 + n) * 256 + 0x04
abbrev quad_PLL_INT_RELOCKS (n : Nat) : Nat := (0x2100 + n) * 256 + 0x05
abbrev quad_PLL_FRAC_RELOCKS (n : Nat) : Nat := (0x2100 + n) * 256 + 0x06
abbrev quad_CAL_STATE (n : Nat) : Nat := (0x2100 + n) * 256 + 0x07
abbrev quad_LAST_RELOCK_US (n : Nat) : Nat := (0x2100 + n) * 256 + 0x08

/-! Object [2120] (R223). -/

abbrev x2120_EQ_PROFILES : Nat := 0x2120 * 256 + 0x01
abbrev x2120_EQ_ASSIGN : Nat := 0x2120 * 256 + 0x02
abbrev x2120_EQ_SOURCE : Nat := 0x2120 * 256 + 0x03

/-! Object [ml] (R216). -/

abbrev ml_RX_ML_MODE (n : Nat) : Nat := (0x2200 + n) * 256 + 0x01
abbrev ml_TX_ML_MODE (n : Nat) : Nat := (0x2200 + n) * 256 + 0x02
abbrev ml_RX_LINK_STATE (n : Nat) : Nat := (0x2200 + n) * 256 + 0x03
abbrev ml_RX_SKEW_A_NS (n : Nat) : Nat := (0x2200 + n) * 256 + 0x04
abbrev ml_RX_SKEW_B_NS (n : Nat) : Nat := (0x2200 + n) * 256 + 0x05
abbrev ml_SKEW_EVENTS (n : Nat) : Nat := (0x2200 + n) * 256 + 0x06

/-! Object [tb] (R255). -/

abbrev tb_TIE_ENABLE (n : Nat) : Nat := (0x2220 + n) * 256 + 0x01
abbrev tb_PARTNER_ID (n : Nat) : Nat := (0x2220 + n) * 256 + 0x02
abbrev tb_PARTNER_BUNDLE (n : Nat) : Nat := (0x2220 + n) * 256 + 0x03
abbrev tb_BUNDLE_STATE (n : Nat) : Nat := (0x2220 + n) * 256 + 0x04
abbrev tb_LANES_UP (n : Nat) : Nat := (0x2220 + n) * 256 + 0x05
abbrev tb_LANES_MISWIRED (n : Nat) : Nat := (0x2220 + n) * 256 + 0x06
abbrev tb_PARTNER_SEEN (n : Nat) : Nat := (0x2220 + n) * 256 + 0x07
abbrev tb_REBUILT_BLOCKS (n : Nat) : Nat := (0x2220 + n) * 256 + 0x08
abbrev tb_LOST_BLOCKS (n : Nat) : Nat := (0x2220 + n) * 256 + 0x09
abbrev tb_MAX_SKEW_NS (n : Nat) : Nat := (0x2220 + n) * 256 + 0x0A

/-! Object [2230] (R255). -/

abbrev x2230_ROPE_ID : Nat := 0x2230 * 256 + 0x01

/-! Object [ip] (R277). -/

abbrev ip_IP_ENABLE (n : Nat) : Nat := (0x2400 + n) * 256 + 0x01
abbrev ip_PACKING (n : Nat) : Nat := (0x2400 + n) * 256 + 0x02
abbrev ip_STORE_DEPTH (n : Nat) : Nat := (0x2400 + n) * 256 + 0x03
abbrev ip_EXPECT_FORMAT (n : Nat) : Nat := (0x2400 + n) * 256 + 0x04
abbrev ip_DEFAULT_COLOUR (n : Nat) : Nat := (0x2400 + n) * 256 + 0x05
abbrev ip_CRC_POLICY (n : Nat) : Nat := (0x2400 + n) * 256 + 0x06
abbrev ip_ML_POLICY (n : Nat) : Nat := (0x2400 + n) * 256 + 0x07
abbrev ip_DETECTED_FORMAT (n : Nat) : Nat := (0x2400 + n) * 256 + 0x08
abbrev ip_INPUT_STATE (n : Nat) : Nat := (0x2400 + n) * 256 + 0x09
abbrev ip_PAYLOAD_ID (n : Nat) : Nat := (0x2400 + n) * 256 + 0x0A
abbrev ip_ATC_LTC (n : Nat) : Nat := (0x2400 + n) * 256 + 0x0B
abbrev ip_ATC_VITC (n : Nat) : Nat := (0x2400 + n) * 256 + 0x0C
abbrev ip_FRAMES_PUBLISHED (n : Nat) : Nat := (0x2400 + n) * 256 + 0x0D
abbrev ip_STORE_FULL_DROPS (n : Nat) : Nat := (0x2400 + n) * 256 + 0x0E
abbrev ip_DAMAGED_FRAMES (n : Nat) : Nat := (0x2400 + n) * 256 + 0x0F
abbrev ip_LAST_FRAME_STC (n : Nat) : Nat := (0x2400 + n) * 256 + 0x10
abbrev ip_TG_LOCKED (n : Nat) : Nat := (0x2400 + n) * 256 + 0x11
abbrev ip_FORMAT_CHANGES (n : Nat) : Nat := (0x2400 + n) * 256 + 0x12

/-! Object [cmp] (R374). -/

abbrev cmp_TG_SELECT (n : Nat) : Nat := (0x2800 + n) * 256 + 0x01
abbrev cmp_OUT_PACKING (n : Nat) : Nat := (0x2800 + n) * 256 + 0x02
abbrev cmp_PANEL_DEPTH (n : Nat) : Nat := (0x2800 + n) * 256 + 0x03
abbrev cmp_OUT_DESCRIPTOR (n : Nat) : Nat := (0x2800 + n) * 256 + 0x04
abbrev cmp_BG_COLOUR (n : Nat) : Nat := (0x2800 + n) * 256 + 0x05
abbrev cmp_BG_ALPHA (n : Nat) : Nat := (0x2800 + n) * 256 + 0x06
abbrev cmp_GANG_LEAD (n : Nat) : Nat := (0x2800 + n) * 256 + 0x07
abbrev cmp_COMP_STATE (n : Nat) : Nat := (0x2800 + n) * 256 + 0x08
abbrev cmp_FRAMES_COMPOSED (n : Nat) : Nat := (0x2800 + n) * 256 + 0x09
abbrev cmp_SUBST_FRAMES (n : Nat) : Nat := (0x2800 + n) * 256 + 0x0A
abbrev cmp_RING_DROPS (n : Nat) : Nat := (0x2800 + n) * 256 + 0x0B
abbrev cmp_LAST_OUT_STC (n : Nat) : Nat := (0x2800 + n) * 256 + 0x0C

/-! Object [ev] (R374). -/

abbrev ev_TG_SELECT (n : Nat) : Nat := (0x2840 + n) * 256 + 0x01
abbrev ev_OUT_PACKING (n : Nat) : Nat := (0x2840 + n) * 256 + 0x02
abbrev ev_PANEL_DEPTH (n : Nat) : Nat := (0x2840 + n) * 256 + 0x03
abbrev ev_OUT_DESCRIPTOR (n : Nat) : Nat := (0x2840 + n) * 256 + 0x04
abbrev ev_BG_COLOUR (n : Nat) : Nat := (0x2840 + n) * 256 + 0x05
abbrev ev_BG_ALPHA (n : Nat) : Nat := (0x2840 + n) * 256 + 0x06
abbrev ev_GANG_LEAD (n : Nat) : Nat := (0x2840 + n) * 256 + 0x07
abbrev ev_COMP_STATE (n : Nat) : Nat := (0x2840 + n) * 256 + 0x08
abbrev ev_FRAMES_COMPOSED (n : Nat) : Nat := (0x2840 + n) * 256 + 0x09
abbrev ev_SUBST_FRAMES (n : Nat) : Nat := (0x2840 + n) * 256 + 0x0A
abbrev ev_RING_DROPS (n : Nat) : Nat := (0x2840 + n) * 256 + 0x0B
abbrev ev_LAST_OUT_STC (n : Nat) : Nat := (0x2840 + n) * 256 + 0x0C

/-! Object [ly] (R386). -/

abbrev ly_L_ENABLE (n : Nat) : Nat := (0x2900 + n) * 256 + 0x01
abbrev ly_SRC_KIND (n : Nat) : Nat := (0x2900 + n) * 256 + 0x02
abbrev ly_SRC_ID (n : Nat) : Nat := (0x2900 + n) * 256 + 0x03
abbrev ly_Z_ORDER (n : Nat) : Nat := (0x2900 + n) * 256 + 0x04
abbrev ly_GLOBAL_ALPHA (n : Nat) : Nat := (0x2900 + n) * 256 + 0x05
abbrev ly_ALPHA_SRC (n : Nat) : Nat := (0x2900 + n) * 256 + 0x06
abbrev ly_FILL_COLOUR (n : Nat) : Nat := (0x2900 + n) * 256 + 0x07
abbrev ly_MISSING_POLICY (n : Nat) : Nat := (0x2900 + n) * 256 + 0x08
abbrev ly_FREEZE_LIMIT (n : Nat) : Nat := (0x2900 + n) * 256 + 0x09
abbrev ly_SRC_W (n : Nat) : Nat := (0x2900 + n) * 256 + 0x0A
abbrev ly_SRC_H (n : Nat) : Nat := (0x2900 + n) * 256 + 0x0B
abbrev ly_CROP_X (n : Nat) : Nat := (0x2900 + n) * 256 + 0x0C
abbrev ly_CROP_Y (n : Nat) : Nat := (0x2900 + n) * 256 + 0x0D
abbrev ly_CROP_W (n : Nat) : Nat := (0x2900 + n) * 256 + 0x0E
abbrev ly_CROP_H (n : Nat) : Nat := (0x2900 + n) * 256 + 0x0F
abbrev ly_DST_X (n : Nat) : Nat := (0x2900 + n) * 256 + 0x10
abbrev ly_DST_Y (n : Nat) : Nat := (0x2900 + n) * 256 + 0x11
abbrev ly_DST_W (n : Nat) : Nat := (0x2900 + n) * 256 + 0x12
abbrev ly_DST_H (n : Nat) : Nat := (0x2900 + n) * 256 + 0x13
abbrev ly_H_SET (n : Nat) : Nat := (0x2900 + n) * 256 + 0x14
abbrev ly_V_SET (n : Nat) : Nat := (0x2900 + n) * 256 + 0x15
abbrev ly_V_TAPS (n : Nat) : Nat := (0x2900 + n) * 256 + 0x16
abbrev ly_AUTO_TAPS (n : Nat) : Nat := (0x2900 + n) * 256 + 0x17
abbrev ly_COLOUR_PIPE (n : Nat) : Nat := (0x2900 + n) * 256 + 0x18
abbrev ly_GFX_FORMAT (n : Nat) : Nat := (0x2900 + n) * 256 + 0x19
abbrev ly_PLANE_MODE (n : Nat) : Nat := (0x2900 + n) * 256 + 0x1A
abbrev ly_L_STATE (n : Nat) : Nat := (0x2900 + n) * 256 + 0x1B
abbrev ly_L_MISSING_REASON (n : Nat) : Nat := (0x2900 + n) * 256 + 0x1C
abbrev ly_V_TAPS_USED (n : Nat) : Nat := (0x2900 + n) * 256 + 0x1D
abbrev ly_PREDEC_USED (n : Nat) : Nat := (0x2900 + n) * 256 + 0x1E
abbrev ly_L_REPEATS (n : Nat) : Nat := (0x2900 + n) * 256 + 0x1F
abbrev ly_L_DROPS (n : Nat) : Nat := (0x2900 + n) * 256 + 0x20
abbrev ly_L_SUBST_FRAMES (n : Nat) : Nat := (0x2900 + n) * 256 + 0x21
abbrev ly_LAST_SOURCE_STC (n : Nat) : Nat := (0x2900 + n) * 256 + 0x22

/-! Object [sr] (R478). -/

abbrev sr_REGION_DEF (n : Nat) (i : Nat) : Nat := (0x2C00 + n) * 256 + (0x01 + i)
abbrev sr_STATIC_REF (n : Nat) (i : Nat) : Nat := (0x2C00 + n) * 256 + (0x11 + i)
abbrev sr_REGION_STATUS (n : Nat) (i : Nat) : Nat := (0x2C00 + n) * 256 + (0x21 + i)
abbrev sr_ACTION_MAP (n : Nat) : Nat := (0x2C00 + n) * 256 + 0x31
abbrev sr_RELEASE (n : Nat) : Nat := (0x2C00 + n) * 256 + 0x32
abbrev sr_TILE_COUNT (n : Nat) (i : Nat) : Nat := (0x2C00 + n) * 256 + (0x33 + i)

/-! Object [cs] (R337). -/

abbrev cs_SET_BODY (n : Nat) : Nat := (0x3000 + n) * 256 + 0x01
abbrev cs_SET_STATE (n : Nat) : Nat := (0x3000 + n) * 256 + 0x02
abbrev cs_SET_CRC (n : Nat) : Nat := (0x3000 + n) * 256 + 0x03
abbrev cs_SET_USERS (n : Nat) : Nat := (0x3000 + n) * 256 + 0x04
abbrev cs_LOAD_COUNT (n : Nat) : Nat := (0x3000 + n) * 256 + 0x05

/-! Object [frc] (R365). -/

abbrev frc_ATTACH (n : Nat) : Nat := (0x3020 + n) * 256 + 0x01
abbrev frc_FRC_MODE (n : Nat) : Nat := (0x3020 + n) * 256 + 0x02
abbrev frc_FRC_PACKING (n : Nat) : Nat := (0x3020 + n) * 256 + 0x03
abbrev frc_SAD_LIMIT (n : Nat) : Nat := (0x3020 + n) * 256 + 0x04
abbrev frc_FRC_STATE (n : Nat) : Nat := (0x3020 + n) * 256 + 0x05
abbrev frc_WORK_SIZE (n : Nat) : Nat := (0x3020 + n) * 256 + 0x06
abbrev frc_LAST_WEIGHT (n : Nat) : Nat := (0x3020 + n) * 256 + 0x07
abbrev frc_LAST_TARGET_STC (n : Nat) : Nat := (0x3020 + n) * 256 + 0x08
abbrev frc_FRC_REPEATS (n : Nat) : Nat := (0x3020 + n) * 256 + 0x09
abbrev frc_FRC_DROPS (n : Nat) : Nat := (0x3020 + n) * 256 + 0x0A
abbrev frc_GAP_FRAMES (n : Nat) : Nat := (0x3020 + n) * 256 + 0x0B
abbrev frc_FALLBACK_FRAMES (n : Nat) : Nat := (0x3020 + n) * 256 + 0x0C

/-! Object [cp] (R352). -/

abbrev cp_PRESET (n : Nat) : Nat := (0x3040 + n) * 256 + 0x01
abbrev cp_ENTRY_MATRIX (n : Nat) : Nat := (0x3040 + n) * 256 + 0x02
abbrev cp_IN_LUT (n : Nat) : Nat := (0x3040 + n) * 256 + 0x03
abbrev cp_MATRIX (n : Nat) : Nat := (0x3040 + n) * 256 + 0x04
abbrev cp_OUT_LUT (n : Nat) : Nat := (0x3040 + n) * 256 + 0x05
abbrev cp_EXIT_MATRIX (n : Nat) : Nat := (0x3040 + n) * 256 + 0x06
abbrev cp_STAGE_ENABLE (n : Nat) : Nat := (0x3040 + n) * 256 + 0x07
abbrev cp_CP_USERS (n : Nat) : Nat := (0x3040 + n) * 256 + 0x08
abbrev cp_CP_TG (n : Nat) : Nat := (0x3040 + n) * 256 + 0x09

/-! Object [oc] (R344). -/

abbrev oc_SRC_W (n : Nat) : Nat := (0x3080 + n) * 256 + 0x01
abbrev oc_SRC_H (n : Nat) : Nat := (0x3080 + n) * 256 + 0x02
abbrev oc_SCAN_CONV (n : Nat) : Nat := (0x3080 + n) * 256 + 0x03
abbrev oc_CROP_X (n : Nat) : Nat := (0x3080 + n) * 256 + 0x04
abbrev oc_CROP_Y (n : Nat) : Nat := (0x3080 + n) * 256 + 0x05
abbrev oc_CROP_W (n : Nat) : Nat := (0x3080 + n) * 256 + 0x06
abbrev oc_CROP_H (n : Nat) : Nat := (0x3080 + n) * 256 + 0x07
abbrev oc_DST_X (n : Nat) : Nat := (0x3080 + n) * 256 + 0x08
abbrev oc_DST_Y (n : Nat) : Nat := (0x3080 + n) * 256 + 0x09
abbrev oc_DST_W (n : Nat) : Nat := (0x3080 + n) * 256 + 0x0A
abbrev oc_DST_H (n : Nat) : Nat := (0x3080 + n) * 256 + 0x0B
abbrev oc_H_SET (n : Nat) : Nat := (0x3080 + n) * 256 + 0x0C
abbrev oc_V_SET (n : Nat) : Nat := (0x3080 + n) * 256 + 0x0D
abbrev oc_V_TAPS (n : Nat) : Nat := (0x3080 + n) * 256 + 0x0E
abbrev oc_AUTO_TAPS (n : Nat) : Nat := (0x3080 + n) * 256 + 0x0F
abbrev oc_LENDER (n : Nat) : Nat := (0x3080 + n) * 256 + 0x10
abbrev oc_COLOUR_PIPE (n : Nat) : Nat := (0x3080 + n) * 256 + 0x11
abbrev oc_LENDER_USED (n : Nat) : Nat := (0x3080 + n) * 256 + 0x12
abbrev oc_V_TAPS_USED (n : Nat) : Nat := (0x3080 + n) * 256 + 0x13
abbrev oc_PREDEC_USED (n : Nat) : Nat := (0x3080 + n) * 256 + 0x14

/-! Object [3400] (R485). -/

abbrev x3400_AUDIO_TG : Nat := 0x3400 * 256 + 0x01
abbrev x3400_AUDIO_CLOCK_STATE : Nat := 0x3400 * 256 + 0x02
abbrev x3400_SRC_RESERVED (i : Nat) : Nat := 0x3400 * 256 + (0x03 + i)
abbrev x3400_SLEW_PPB : Nat := 0x3400 * 256 + 0x07

/-! Object [ar] (R517). -/

abbrev ar_AR_ENABLE (n : Nat) : Nat := (0x3410 + n) * 256 + 0x01
abbrev ar_PLANE (n : Nat) : Nat := (0x3410 + n) * 256 + 0x02
abbrev ar_SRC_RESERVE (n : Nat) : Nat := (0x3410 + n) * 256 + 0x03
abbrev ar_AR_STATE (n : Nat) : Nat := (0x3410 + n) * 256 + 0x04
abbrev ar_RATE_HZ (n : Nat) : Nat := (0x3410 + n) * 256 + 0x05
abbrev ar_SRC_STATE (n : Nat) : Nat := (0x3410 + n) * 256 + 0x06
abbrev ar_CS_1 (n : Nat) : Nat := (0x3410 + n) * 256 + 0x07
abbrev ar_CS_2 (n : Nat) : Nat := (0x3410 + n) * 256 + 0x08
abbrev ar_USER_1 (n : Nat) : Nat := (0x3410 + n) * 256 + 0x09
abbrev ar_USER_2 (n : Nat) : Nat := (0x3410 + n) * 256 + 0x0A
abbrev ar_CS_FORMAT (n : Nat) : Nat := (0x3410 + n) * 256 + 0x0B
abbrev ar_LOSSES (n : Nat) : Nat := (0x3410 + n) * 256 + 0x0C
abbrev ar_CONCEALED_FRAMES (n : Nat) : Nat := (0x3410 + n) * 256 + 0x0D
abbrev ar_PARITY_ERRORS (n : Nat) : Nat := (0x3410 + n) * 256 + 0x0E
abbrev ar_INVALID_SAMPLES (n : Nat) : Nat := (0x3410 + n) * 256 + 0x0F
abbrev ar_RATE_CHANGES (n : Nat) : Nat := (0x3410 + n) * 256 + 0x10
abbrev ar_COUNT_CLEAR (n : Nat) : Nat := (0x3410 + n) * 256 + 0x11
abbrev ar_LAST_BLOCK_STC (n : Nat) : Nat := (0x3410 + n) * 256 + 0x12

/-! Object [at] (R526). -/

abbrev at_AT_ENABLE (n : Nat) : Nat := (0x3420 + n) * 256 + 0x01
abbrev at_AT_RATE (n : Nat) : Nat := (0x3420 + n) * 256 + 0x02
abbrev at_PLANE (n : Nat) : Nat := (0x3420 + n) * 256 + 0x03
abbrev at_SOURCE_1 (n : Nat) : Nat := (0x3420 + n) * 256 + 0x04
abbrev at_SOURCE_2 (n : Nat) : Nat := (0x3420 + n) * 256 + 0x05
abbrev at_CS_MODE (n : Nat) : Nat := (0x3420 + n) * 256 + 0x06
abbrev at_CS_TEMPLATE (n : Nat) : Nat := (0x3420 + n) * 256 + 0x07
abbrev at_AT_STATE (n : Nat) : Nat := (0x3420 + n) * 256 + 0x08
abbrev at_SRC_STATE (n : Nat) : Nat := (0x3420 + n) * 256 + 0x09
abbrev at_BLOCKS_SENT (n : Nat) : Nat := (0x3420 + n) * 256 + 0x0A
abbrev at_LAST_BLOCK_STC (n : Nat) : Nat := (0x3420 + n) * 256 + 0x0B

/-! Object [et] (R539). -/

abbrev et_TAP_SOURCE (n : Nat) (i : Nat) : Nat := (0x3430 + n) * 256 + (0x01 + i)
abbrev et_GROUPS_PRESENT (n : Nat) : Nat := (0x3430 + n) * 256 + 0x21

/-! Object [cap] (R534). -/

abbrev cap_CAP_ENABLE (n : Nat) : Nat := (0x3440 + n) * 256 + 0x01
abbrev cap_QUEUE (n : Nat) : Nat := (0x3440 + n) * 256 + 0x02
abbrev cap_PLANE (n : Nat) : Nat := (0x3440 + n) * 256 + 0x03
abbrev cap_PACKING (n : Nat) : Nat := (0x3440 + n) * 256 + 0x04
abbrev cap_BLOCK_TG (n : Nat) : Nat := (0x3440 + n) * 256 + 0x05
abbrev cap_CHANNELS (n : Nat) : Nat := (0x3440 + n) * 256 + 0x06
abbrev cap_CH_SOURCE (n : Nat) (i : Nat) : Nat := (0x3440 + n) * 256 + (0x07 + i)
abbrev cap_CAP_STATE (n : Nat) : Nat := (0x3440 + n) * 256 + 0x27
abbrev cap_CAP_BLOCKS (n : Nat) : Nat := (0x3440 + n) * 256 + 0x28
abbrev cap_DISCONTINUITIES (n : Nat) : Nat := (0x3440 + n) * 256 + 0x29
abbrev cap_LAST_BLOCK_STC (n : Nat) : Nat := (0x3440 + n) * 256 + 0x2A

/-! Object [pb] (R535). -/

abbrev pb_PB_ENABLE (n : Nat) : Nat := (0x3480 + n) * 256 + 0x01
abbrev pb_QUEUE (n : Nat) : Nat := (0x3480 + n) * 256 + 0x02
abbrev pb_PLANE (n : Nat) : Nat := (0x3480 + n) * 256 + 0x03
abbrev pb_CHANNELS (n : Nat) : Nat := (0x3480 + n) * 256 + 0x04
abbrev pb_PB_STATE (n : Nat) : Nat := (0x3480 + n) * 256 + 0x05
abbrev pb_LATE_BLOCKS (n : Nat) : Nat := (0x3480 + n) * 256 + 0x06
abbrev pb_OVERLAP_SAMPLES (n : Nat) : Nat := (0x3480 + n) * 256 + 0x07
abbrev pb_PLAYED_UNTIL_STC (n : Nat) : Nat := (0x3480 + n) * 256 + 0x08
abbrev pb_PB_BLOCKS (n : Nat) : Nat := (0x3480 + n) * 256 + 0x09

/-! Object [ea] (R500). -/

abbrev ea_SRC_MASK (n : Nat) : Nat := (0x3500 + n) * 256 + 0x01
abbrev ea_GROUPS_PRESENT (n : Nat) : Nat := (0x3500 + n) * 256 + 0x02
abbrev ea_CH_VALID (n : Nat) : Nat := (0x3500 + n) * 256 + 0x03
abbrev ea_SRC_STATE (n : Nat) : Nat := (0x3500 + n) * 256 + 0x04
abbrev ea_SYNC (n : Nat) : Nat := (0x3500 + n) * 256 + 0x05
abbrev ea_ECC_ERRORS (n : Nat) : Nat := (0x3500 + n) * 256 + 0x06
abbrev ea_GROUP_LOSSES (n : Nat) : Nat := (0x3500 + n) * 256 + 0x07
abbrev ea_LAST_BLOCK_STC (n : Nat) : Nat := (0x3500 + n) * 256 + 0x08
abbrev ea_BLOCK_SAMPLES (n : Nat) : Nat := (0x3500 + n) * 256 + 0x09
abbrev ea_COUNT_CLEAR (n : Nat) : Nat := (0x3500 + n) * 256 + 0x0A

/-! Object [eo] (R508). -/

abbrev eo_CH_SOURCE (n : Nat) (i : Nat) : Nat := (0x3580 + n) * 256 + (0x01 + i)
abbrev eo_SLOT_MASK (n : Nat) : Nat := (0x3580 + n) * 256 + 0x21
abbrev eo_AUDIO_DELAY_US (n : Nat) : Nat := (0x3580 + n) * 256 + 0x22
abbrev eo_DELAY_USED_US (n : Nat) : Nat := (0x3580 + n) * 256 + 0x23
abbrev eo_GROUPS_ACTIVE (n : Nat) : Nat := (0x3580 + n) * 256 + 0x24
abbrev eo_ACTIVE_MASK (n : Nat) : Nat := (0x3580 + n) * 256 + 0x25
abbrev eo_SLIPS (n : Nat) : Nat := (0x3580 + n) * 256 + 0x26
abbrev eo_INVALID_CH (n : Nat) : Nat := (0x3580 + n) * 256 + 0x27

/-! Object [3800] (R583). -/

abbrev x3800_MEM_MODE : Nat := 0x3800 * 256 + 0x01
abbrev x3800_PAGES_TOTAL : Nat := 0x3800 * 256 + 0x02
abbrev x3800_PAGES_RESERVED : Nat := 0x3800 * 256 + 0x03
abbrev x3800_PAGES_ALLOCATED : Nat := 0x3800 * 256 + 0x04
abbrev x3800_PAGES_FREE : Nat := 0x3800 * 256 + 0x05
abbrev x3800_SPARES_LEFT : Nat := 0x3800 * 256 + 0x06
abbrev x3800_RETIRED_PAGES : Nat := 0x3800 * 256 + 0x07
abbrev x3800_POISON_STATE : Nat := 0x3800 * 256 + 0x08
abbrev x3800_INNER_CORRECTED (i : Nat) : Nat := 0x3800 * 256 + (0x09 + i)
abbrev x3800_OUTER_CORRECTED (i : Nat) : Nat := 0x3800 * 256 + (0x0B + i)
abbrev x3800_ERASURE_DECODES (i : Nat) : Nat := 0x3800 * 256 + (0x0D + i)
abbrev x3800_POISONED (i : Nat) : Nat := 0x3800 * 256 + (0x0F + i)
abbrev x3800_COUNT_CLEAR : Nat := 0x3800 * 256 + 0x11
abbrev x3800_RETIRED_LIST : Nat := 0x3800 * 256 + 0x12

/-! Object [3806] (R584). -/

abbrev x3806_FAULT_COUNT : Nat := 0x3806 * 256 + 0x01
abbrev x3806_LAST_PAGE : Nat := 0x3806 * 256 + 0x02
abbrev x3806_LAST_DOMAIN : Nat := 0x3806 * 256 + 0x03
abbrev x3806_LAST_UNIT : Nat := 0x3806 * 256 + 0x04
abbrev x3806_LAST_CAUSE : Nat := 0x3806 * 256 + 0x05
abbrev x3806_LAST_STC : Nat := 0x3806 * 256 + 0x06
abbrev x3806_LAST_KIND : Nat := 0x3806 * 256 + 0x07
abbrev x3806_CLEAR : Nat := 0x3806 * 256 + 0x08

/-! Object [3808] (R585). -/

abbrev x3808_QUERY : Nat := 0x3808 * 256 + 0x01
abbrev x3808_ENTRY : Nat := 0x3808 * 256 + 0x02
abbrev x3808_QUERY_LPN : Nat := 0x3808 * 256 + 0x03

/-! Object [3810] (R586). -/

abbrev x3810_PATROL_HOURS : Nat := 0x3810 * 256 + 0x01
abbrev x3810_PATROL_ENABLE : Nat := 0x3810 * 256 + 0x02
abbrev x3810_PASS_PAGES : Nat := 0x3810 * 256 + 0x03
abbrev x3810_PASS_COUNT : Nat := 0x3810 * 256 + 0x04
abbrev x3810_LAST_PASS_S : Nat := 0x3810 * 256 + 0x05
abbrev x3810_LAG_PAGES : Nat := 0x3810 * 256 + 0x06
abbrev x3810_SUSPECT_ENTRIES : Nat := 0x3810 * 256 + 0x07

/-! Object [dom] (R587). -/

abbrev dom_WINDOW_PAGES (n : Nat) : Nat := (0x3840 + n) * 256 + 0x01
abbrev dom_WINDOW_READY (n : Nat) : Nat := (0x3840 + n) * 256 + 0x02
abbrev dom_DOMAIN_PAGES (n : Nat) : Nat := (0x3840 + n) * 256 + 0x03
abbrev dom_DOMAIN_FAULTS (n : Nat) : Nat := (0x3840 + n) * 256 + 0x04

/-! Object [3C00] (R633). -/

abbrev x3C00_LINK_STATE : Nat := 0x3C00 * 256 + 0x01
abbrev x3C00_LINK_WIDTH : Nat := 0x3C00 * 256 + 0x02
abbrev x3C00_LINK_SPEED : Nat := 0x3C00 * 256 + 0x03
abbrev x3C00_GUAR_SCALE : Nat := 0x3C00 * 256 + 0x04
abbrev x3C00_NUM_VFS : Nat := 0x3C00 * 256 + 0x05
abbrev x3C00_LINK_DOWNS : Nat := 0x3C00 * 256 + 0x06
abbrev x3C00_TAGS_IN_USE : Nat := 0x3C00 * 256 + 0x07
abbrev x3C00_TAGS_MAX : Nat := 0x3C00 * 256 + 0x08
abbrev x3C00_DOORBELL_DISCARDS : Nat := 0x3C00 * 256 + 0x09
abbrev x3C00_LAST_DISCARD : Nat := 0x3C00 * 256 + 0x0A

/-! Object [3C01] (R605). -/

abbrev x3C01_QSEL : Nat := 0x3C01 * 256 + 0x01
abbrev x3C01_Q_FUNCTION : Nat := 0x3C01 * 256 + 0x02
abbrev x3C01_Q_TYPE : Nat := 0x3C01 * 256 + 0x03
abbrev x3C01_SQ_BASE : Nat := 0x3C01 * 256 + 0x04
abbrev x3C01_SQ_LOG2 : Nat := 0x3C01 * 256 + 0x05
abbrev x3C01_CQ_BASE : Nat := 0x3C01 * 256 + 0x06
abbrev x3C01_CQ_LOG2 : Nat := 0x3C01 * 256 + 0x07
abbrev x3C01_MSIX_VECTOR : Nat := 0x3C01 * 256 + 0x08
abbrev x3C01_IRQ_HOLDOFF_US : Nat := 0x3C01 * 256 + 0x09
abbrev x3C01_GUAR_MBPS : Nat := 0x3C01 * 256 + 0x0A
abbrev x3C01_TARGET : Nat := 0x3C01 * 256 + 0x0B
abbrev x3C01_Q_ENABLE : Nat := 0x3C01 * 256 + 0x0C
abbrev x3C01_Q_STATE : Nat := 0x3C01 * 256 + 0x0D
abbrev x3C01_SQ_HEAD : Nat := 0x3C01 * 256 + 0x0E
abbrev x3C01_SQ_TAIL : Nat := 0x3C01 * 256 + 0x0F
abbrev x3C01_CQ_TAIL : Nat := 0x3C01 * 256 + 0x10
abbrev x3C01_CQ_HEAD : Nat := 0x3C01 * 256 + 0x11
abbrev x3C01_PAUSE_INFO : Nat := 0x3C01 * 256 + 0x12
abbrev x3C01_RESUME : Nat := 0x3C01 * 256 + 0x13
abbrev x3C01_Q_BYTES : Nat := 0x3C01 * 256 + 0x14

/-! Object [fn] (R634). -/

abbrev fn_GUAR_D2H_MBPS (n : Nat) : Nat := (0x3C10 + n) * 256 + 0x01
abbrev fn_GUAR_H2D_MBPS (n : Nat) : Nat := (0x3C10 + n) * 256 + 0x02
abbrev fn_QUEUE_FIRST (n : Nat) : Nat := (0x3C10 + n) * 256 + 0x03
abbrev fn_QUEUE_COUNT (n : Nat) : Nat := (0x3C10 + n) * 256 + 0x04
abbrev fn_VF_ROLE (n : Nat) : Nat := (0x3C10 + n) * 256 + 0x05
abbrev fn_FN_STATE (n : Nat) : Nat := (0x3C10 + n) * 256 + 0x06
abbrev fn_GUAR_D2H_ASSIGNED (n : Nat) : Nat := (0x3C10 + n) * 256 + 0x07
abbrev fn_GUAR_H2D_ASSIGNED (n : Nat) : Nat := (0x3C10 + n) * 256 + 0x08
abbrev fn_BYTES_D2H (n : Nat) : Nat := (0x3C10 + n) * 256 + 0x09
abbrev fn_BYTES_H2D (n : Nat) : Nat := (0x3C10 + n) * 256 + 0x0A
abbrev fn_EVENTS_LOST (n : Nat) : Nat := (0x3C10 + n) * 256 + 0x0B
abbrev fn_FLR_COUNT (n : Nat) : Nat := (0x3C10 + n) * 256 + 0x0C

/-! Object [route] (R286). -/

abbrev route_TG_SELECT (n : Nat) : Nat := (0x4000 + n) * 256 + 0x01
abbrev route_SOURCE_KIND (n : Nat) : Nat := (0x4000 + n) * 256 + 0x02
abbrev route_SOURCE_ID (n : Nat) : Nat := (0x4000 + n) * 256 + 0x03
abbrev route_ROUTE_MODE (n : Nat) : Nat := (0x4000 + n) * 256 + 0x04
abbrev route_LL_OFFSET_LINES (n : Nat) : Nat := (0x4000 + n) * 256 + 0x05
abbrev route_CHAIN (n : Nat) : Nat := (0x4000 + n) * 256 + 0x06
abbrev route_OUT_MAPPING (n : Nat) : Nat := (0x4000 + n) * 256 + 0x07
abbrev route_MISSING_POLICY (n : Nat) : Nat := (0x4000 + n) * 256 + 0x08
abbrev route_FREEZE_LIMIT (n : Nat) : Nat := (0x4000 + n) * 256 + 0x09
abbrev route_SHOWN (n : Nat) : Nat := (0x4000 + n) * 256 + 0x0A
abbrev route_MISSING_REASON (n : Nat) : Nat := (0x4000 + n) * 256 + 0x0B
abbrev route_REPEATS (n : Nat) : Nat := (0x4000 + n) * 256 + 0x0C
abbrev route_DROPS (n : Nat) : Nat := (0x4000 + n) * 256 + 0x0D
abbrev route_SUBST_FRAMES (n : Nat) : Nat := (0x4000 + n) * 256 + 0x0E
abbrev route_LAST_SOURCE_STC (n : Nat) : Nat := (0x4000 + n) * 256 + 0x0F
abbrev route_LAST_APPLIED_SEQ (n : Nat) : Nat := (0x4000 + n) * 256 + 0x10

/-! Object [5000] (R108). -/

abbrev x5000_COMMIT_REQUEST : Nat := 0x5000 * 256 + 0x01
abbrev x5000_DISCARD_BASTING : Nat := 0x5000 * 256 + 0x02
abbrev x5000_BASTING_COUNT : Nat := 0x5000 * 256 + 0x03
abbrev x5000_STAGE_FREE : Nat := 0x5000 * 256 + 0x04
abbrev x5000_LAST_COMMIT_SEQ : Nat := 0x5000 * 256 + 0x05
abbrev x5000_LAST_APPLIED_SEQ : Nat := 0x5000 * 256 + 0x06
abbrev x5000_LAST_APPLIED_REQUESTER : Nat := 0x5000 * 256 + 0x07

/-! Object [5101] (R160). -/

abbrev x5101_ENVELOPE_MW : Nat := 0x5101 * 256 + 0x01
abbrev x5101_BE_POWER_MAX_MW : Nat := 0x5101 * 256 + 0x02
abbrev x5101_BUCKET_MS : Nat := 0x5101 * 256 + 0x03

/-! Object [5102] (R180). -/

abbrev x5102_RT_OUT_MBPS : Nat := 0x5102 * 256 + 0x01
abbrev x5102_RT_IN_MBPS : Nat := 0x5102 * 256 + 0x02
abbrev x5102_RT_EV_MBPS : Nat := 0x5102 * 256 + 0x03
abbrev x5102_RT_TOTAL_MBPS : Nat := 0x5102 * 256 + 0x04
abbrev x5102_RT_LIMIT_MBPS : Nat := 0x5102 * 256 + 0x05
abbrev x5102_HOST_SHARE_D2H_MBPS : Nat := 0x5102 * 256 + 0x06
abbrev x5102_HOST_SHARE_H2D_MBPS : Nat := 0x5102 * 256 + 0x07
abbrev x5102_P_RESERVED_MW : Nat := 0x5102 * 256 + 0x08
abbrev x5102_MOTION_PXPS : Nat := 0x5102 * 256 + 0x09
abbrev x5102_UPLINK_TO_MEM_MBPS (i : Nat) : Nat := 0x5102 * 256 + (0x0A + i)

/-! Object [5103] (R180). -/

abbrev x5103_BLEND_KPXPS (i : Nat) : Nat := 0x5103 * 256 + (0x01 + i)

/-! Object [5104] (R180). -/

abbrev x5104_LB_USED (i : Nat) : Nat := 0x5104 * 256 + (0x01 + i)

/-! Object [5106] (R181). -/

abbrev x5106_COMMIT_SEQ : Nat := 0x5106 * 256 + 0x01
abbrev x5106_RT_TOTAL_MBPS : Nat := 0x5106 * 256 + 0x02
abbrev x5106_P_RESERVED_MW : Nat := 0x5106 * 256 + 0x03
abbrev x5106_FIRST_REASON : Nat := 0x5106 * 256 + 0x04
abbrev x5106_FAIL_COUNT : Nat := 0x5106 * 256 + 0x05

/-! Object [5107] (R190). -/

abbrev x5107_TOKENS_PER_MS : Nat := 0x5107 * 256 + 0x01
abbrev x5107_TOKENS_HELD : Nat := 0x5107 * 256 + 0x02
abbrev x5107_K_T : Nat := 0x5107 * 256 + 0x03
abbrev x5107_K_E : Nat := 0x5107 * 256 + 0x04
abbrev x5107_PREEMPT_COUNT (i : Nat) : Nat := 0x5107 * 256 + (0x05 + i)

end Sys2Proof.Machine.K
end

