-- ==== Sys2Proof/Machine/Dictionary.lean ====
section
/-! DEFINITION. The object dictionary: type, access, class, size, default, range and NV mark of every entry, from the
dictionary tables of the chapters (R48). -/

namespace Sys2Proof.Machine

/-- Entry types (R50). -/
inductive Ty where
  | bool | u8 | u16 | u32 | u64 | i16 | i32 | q16 | octets | string | domain
  deriving DecidableEq, Repr

/-- Access kinds (R51). -/
inductive Acc where
  | ro | rw | wo | rws | const
  deriving DecidableEq, Repr

/-- Entry classes (R51). -/
inductive Cls where
  | instant | staged | long
  deriving DecidableEq, Repr

/-- The range of a writable entry, as its table states it: any value of its size, one of some intervals, a mask of
allowed bits, or a form that its chapter defines. -/
inductive Rng where
  | any
  | iv (l : List (Nat × Nat))
  | mask (m : Nat)
  | mlMode | format | tgFormat | preset | audioSrc | query | page4k | lutBody
  deriving DecidableEq, Repr

/-- One row of a dictionary table: sub-indices `lo` to `hi`, size in bytes (0xFFFF for a DOMAIN), default of a value of
at most 8 bytes, range, and whether the entry is held in NV. -/
structure Row where
  lo : Nat
  hi : Nat
  ty : Ty
  acc : Acc
  cls : Cls
  size : Nat
  dflt : Nat
  rng : Rng
  nv : Bool
  deriving DecidableEq, Repr

/-- The identity matrix as [cp:04] lays it out (R352). -/
def identityMatrix : List Byte :=
  let one : List Byte := [0, 0, 1, 0]
  one ++ List.replicate 12 0 ++ one ++ List.replicate 12 0 ++ one ++ List.replicate 24 0

/-- The entries of [1000] (R1). -/
def rowsX1000 : List Row := [
  ⟨0x00, 0x00, .u8, .const, .instant, 1, 7, .any, false⟩,
  ⟨0x01, 0x01, .u32, .const, .instant, 4, 296, .any, false⟩,
  ⟨0x02, 0x02, .u8, .ro, .instant, 1, 177, .any, false⟩,
  ⟨0x03, 0x03, .string, .const, .instant, 8, 0, .any, false⟩,
  ⟨0x04, 0x04, .u32, .ro, .instant, 4, 0, .any, false⟩,
  ⟨0x05, 0x05, .u8, .ro, .instant, 1, 0, .any, false⟩,
  ⟨0x06, 0x06, .u8, .rw, .instant, 1, 0, .iv [(0, 1)], true⟩,
  ⟨0x07, 0x07, .u16, .ro, .instant, 2, 296, .any, false⟩]

/-- The entries of [1001] (R56). -/
def rowsX1001 : List Row := [
  ⟨0x00, 0x00, .u8, .const, .instant, 1, 2, .any, false⟩,
  ⟨0x01, 0x01, .u8, .ro, .instant, 1, 0, .any, false⟩,
  ⟨0x02, 0x02, .u16, .ro, .instant, 2, 0, .any, false⟩]

/-- The entries of [1010] (R17). -/
def rowsX1010 : List Row := [
  ⟨0x00, 0x00, .u8, .const, .instant, 1, 8, .any, false⟩,
  ⟨0x01, 0x01, .u16, .const, .instant, 2, 128, .any, false⟩,
  ⟨0x02, 0x02, .u8, .const, .instant, 1, 64, .any, false⟩,
  ⟨0x03, 0x03, .u8, .const, .instant, 1, 8, .any, false⟩,
  ⟨0x04, 0x04, .u8, .const, .instant, 1, 32, .any, false⟩,
  ⟨0x05, 0x05, .u8, .const, .instant, 1, 4, .any, false⟩,
  ⟨0x06, 0x06, .u8, .const, .instant, 1, 2, .any, false⟩,
  ⟨0x07, 0x07, .u32, .const, .instant, 4, 65536, .any, false⟩,
  ⟨0x08, 0x08, .u16, .const, .instant, 2, 32768, .any, false⟩]

/-- The entries of [1011] (R17). -/
def rowsX1011 : List Row := [
  ⟨0x00, 0x00, .u8, .const, .instant, 1, 4, .any, false⟩,
  ⟨0x01, 0x04, .u8, .ro, .instant, 1, 0, .any, false⟩]

/-- The entries of [1012] (R17). -/
def rowsX1012 : List Row := [
  ⟨0x00, 0x00, .u8, .const, .instant, 1, 38, .any, false⟩,
  ⟨0x01, 0x10, .u8, .ro, .instant, 1, 0, .any, false⟩,
  ⟨0x11, 0x20, .u8, .ro, .instant, 1, 0, .any, false⟩,
  ⟨0x21, 0x24, .u8, .ro, .instant, 1, 0, .any, false⟩,
  ⟨0x25, 0x26, .u8, .ro, .instant, 1, 0, .any, false⟩]

/-- The entries of [1020] (R841). -/
def rowsX1020 : List Row := [
  ⟨0x00, 0x00, .u8, .const, .instant, 1, 35, .any, false⟩,
  ⟨0x01, 0x01, .u32, .rw, .instant, 4, 0, .any, true⟩,
  ⟨0x02, 0x02, .u32, .rw, .instant, 4, 0, .any, true⟩,
  ⟨0x03, 0x03, .u32, .ro, .instant, 4, 0, .any, false⟩,
  ⟨0x04, 0x23, .u16, .rw, .instant, 2, 65535, .iv [(0, 127), (256, 263), (512, 512), (65535, 65535)], true⟩]

/-- The entries of [1110] (R84). -/
def rowsX1110 : List Row := [
  ⟨0x00, 0x00, .u8, .const, .instant, 1, 7, .any, false⟩,
  ⟨0x01, 0x01, .u8, .ro, .instant, 1, 0, .any, false⟩,
  ⟨0x02, 0x02, .u32, .const, .instant, 4, 1000000, .any, false⟩,
  ⟨0x03, 0x03, .u32, .rw, .instant, 4, 2000000, .iv [(1000000, 1000000), (2000000, 2000000), (4000000, 4000000), (5000000, 5000000), (8000000, 8000000)], true⟩,
  ⟨0x04, 0x04, .u8, .rw, .instant, 1, 1, .iv [(0, 1)], true⟩,
  ⟨0x05, 0x05, .u8, .ro, .instant, 1, 0, .any, false⟩,
  ⟨0x06, 0x06, .u8, .ro, .instant, 1, 0, .any, false⟩,
  ⟨0x07, 0x07, .u8, .ro, .instant, 1, 0, .any, false⟩]

/-- The entries of [slot] (R127). -/
def rowsSlot : List Row := [
  ⟨0x00, 0x00, .u8, .const, .instant, 1, 255, .any, false⟩,
  ⟨0x01, 0x01, .u32, .ro, .instant, 4, 0, .any, false⟩,
  ⟨0x02, 0x02, .u8, .wo, .instant, 1, 0, .any, false⟩,
  ⟨0x03, 0x03, .u16, .rw, .instant, 2, 0, .any, false⟩,
  ⟨0x04, 0x04, .u16, .ro, .instant, 2, 65535, .any, false⟩,
  ⟨0x05, 0x05, .u8, .ro, .instant, 1, 0, .any, false⟩,
  ⟨0x06, 0x0F, .u64, .rw, .instant, 8, 0, .any, false⟩,
  ⟨0x10, 0xFF, .u64, .ro, .instant, 8, 0, .any, false⟩]

/-- The entries of [1400] (R649). -/
def rowsX1400 : List Row := [
  ⟨0x00, 0x00, .u8, .const, .instant, 1, 4, .any, false⟩,
  ⟨0x01, 0x01, .u8, .ro, .instant, 1, 0, .any, false⟩,
  ⟨0x02, 0x02, .u32, .ro, .instant, 4, 0, .any, false⟩,
  ⟨0x03, 0x03, .u8, .ro, .instant, 1, 0, .any, false⟩,
  ⟨0x04, 0x04, .u8, .ro, .instant, 1, 0, .any, false⟩]

/-- The entries of [1401] (R640). -/
def rowsX1401 : List Row := [
  ⟨0x00, 0x00, .u8, .const, .instant, 1, 13, .any, false⟩,
  ⟨0x01, 0x0D, .u8, .ro, .instant, 1, 0, .any, false⟩]

/-- The entries of [1402] (R640). -/
def rowsX1402 : List Row := [
  ⟨0x00, 0x00, .u8, .const, .instant, 1, 13, .any, false⟩,
  ⟨0x01, 0x0D, .u32, .ro, .instant, 4, 0, .any, false⟩]

/-- The entries of [1410] (R655). -/
def rowsX1410 : List Row := [
  ⟨0x00, 0x00, .u8, .const, .instant, 1, 11, .any, false⟩,
  ⟨0x01, 0x01, .u8, .rws, .staged, 1, 0, .iv [(0, 6)], true⟩,
  ⟨0x02, 0x02, .u8, .rws, .staged, 1, 0, .iv [(0, 13), (240, 240)], true⟩,
  ⟨0x03, 0x03, .u8, .rws, .staged, 1, 0, .iv [(0, 1)], true⟩,
  ⟨0x04, 0x04, .u16, .rws, .staged, 2, 1000, .iv [(100, 10000)], true⟩,
  ⟨0x05, 0x05, .u8, .ro, .instant, 1, 0, .any, false⟩,
  ⟨0x06, 0x06, .u8, .ro, .instant, 1, 0, .any, false⟩,
  ⟨0x07, 0x07, .i32, .ro, .instant, 4, 0, .any, false⟩,
  ⟨0x08, 0x08, .u32, .ro, .instant, 4, 0, .any, false⟩,
  ⟨0x09, 0x09, .u32, .ro, .instant, 4, 0, .any, false⟩,
  ⟨0x0A, 0x0A, .u32, .ro, .instant, 4, 0, .any, false⟩,
  ⟨0x0B, 0x0B, .u64, .ro, .instant, 8, 0, .any, false⟩]

/-- The entries of [tg] (R278). -/
def rowsTg : List Row := [
  ⟨0x00, 0x00, .u8, .const, .instant, 1, 7, .any, false⟩,
  ⟨0x01, 0x01, .u32, .rws, .staged, 4, 1074331648, .tgFormat, false⟩,
  ⟨0x02, 0x02, .u16, .rws, .staged, 2, 0, .iv [(0, 1), (256, 383)], false⟩,
  ⟨0x03, 0x03, .u16, .rws, .staged, 2, 0, .any, false⟩,
  ⟨0x04, 0x04, .u32, .rws, .staged, 4, 0, .any, false⟩,
  ⟨0x05, 0x05, .u8, .ro, .instant, 1, 0, .any, false⟩,
  ⟨0x06, 0x06, .u64, .ro, .instant, 8, 0, .any, false⟩,
  ⟨0x07, 0x07, .u64, .ro, .instant, 8, 0, .any, false⟩]

/-- The entries of [tgl] (R669). -/
def rowsTgl : List Row := [
  ⟨0x00, 0x00, .u8, .const, .instant, 1, 8, .any, false⟩,
  ⟨0x01, 0x01, .u8, .rws, .staged, 1, 0, .iv [(0, 1)], false⟩,
  ⟨0x02, 0x02, .i32, .ro, .instant, 4, 0, .any, false⟩,
  ⟨0x03, 0x03, .i32, .ro, .instant, 4, 0, .any, false⟩,
  ⟨0x04, 0x04, .i32, .ro, .instant, 4, 0, .any, false⟩,
  ⟨0x05, 0x05, .u32, .ro, .instant, 4, 0, .any, false⟩,
  ⟨0x06, 0x06, .u32, .ro, .instant, 4, 0, .any, false⟩,
  ⟨0x07, 0x07, .u16, .ro, .instant, 2, 0, .any, false⟩,
  ⟨0x08, 0x08, .u32, .ro, .instant, 4, 0, .any, false⟩]

/-- The entries of [1460] (R672). -/
def rowsX1460 : List Row := [
  ⟨0x00, 0x00, .u8, .const, .instant, 1, 4, .any, false⟩,
  ⟨0x01, 0x01, .octets, .ro, .instant, 16, 0, .any, false⟩,
  ⟨0x02, 0x02, .u8, .rws, .staged, 1, 1, .iv [(0, 1)], true⟩,
  ⟨0x03, 0x03, .u8, .ro, .instant, 1, 0, .any, false⟩,
  ⟨0x04, 0x04, .i32, .ro, .instant, 4, 0, .any, false⟩]

/-- The entries of [1468] (R675). -/
def rowsX1468 : List Row := [
  ⟨0x00, 0x00, .u8, .const, .instant, 1, 7, .any, false⟩,
  ⟨0x01, 0x01, .octets, .rw, .instant, 16, 0, .any, false⟩,
  ⟨0x02, 0x02, .u16, .ro, .instant, 2, 65535, .any, false⟩,
  ⟨0x03, 0x03, .u16, .rw, .instant, 2, 60, .iv [(1, 3600)], true⟩,
  ⟨0x04, 0x04, .u8, .ro, .instant, 1, 0, .any, false⟩,
  ⟨0x05, 0x05, .octets, .ro, .instant, 16, 0, .any, false⟩,
  ⟨0x06, 0x06, .u16, .rw, .instant, 2, 100, .iv [(10, 10000)], false⟩,
  ⟨0x07, 0x07, .u32, .ro, .instant, 4, 0, .any, false⟩]

/-- The entries of [1470] (R676). -/
def rowsX1470 : List Row := [
  ⟨0x00, 0x00, .u8, .const, .instant, 1, 80, .any, false⟩,
  ⟨0x01, 0x50, .octets, .ro, .instant, 8, 0, .any, false⟩]

/-- The entries of [1600] (R752). -/
def rowsX1600 : List Row := [
  ⟨0x00, 0x00, .u8, .const, .instant, 1, 10, .any, false⟩,
  ⟨0x01, 0x01, .u8, .rw, .instant, 1, 95, .iv [(60, 110)], true⟩,
  ⟨0x02, 0x02, .u8, .rw, .instant, 1, 100, .iv [(65, 115)], true⟩,
  ⟨0x03, 0x03, .u8, .rw, .instant, 1, 110, .iv [(70, 120)], true⟩,
  ⟨0x04, 0x04, .u8, .rw, .instant, 1, 118, .iv [(80, 122)], true⟩,
  ⟨0x05, 0x05, .u8, .const, .instant, 1, 125, .any, false⟩,
  ⟨0x06, 0x06, .u8, .rw, .instant, 1, 15, .mask 0xF, true⟩,
  ⟨0x07, 0x07, .u8, .rw, .instant, 1, 30, .iv [(10, 200)], true⟩,
  ⟨0x08, 0x08, .u16, .rw, .instant, 2, 200, .iv [(0, 5000)], true⟩,
  ⟨0x09, 0x09, .u8, .rw, .instant, 1, 10, .iv [(0, 20)], true⟩,
  ⟨0x0A, 0x0A, .u32, .rw, .instant, 4, 0, .iv [(0, 200000)], true⟩]

/-- The entries of [1601] (R751). -/
def rowsX1601 : List Row := [
  ⟨0x00, 0x00, .u8, .const, .instant, 1, 36, .any, false⟩,
  ⟨0x01, 0x20, .i16, .ro, .instant, 2, 0, .any, false⟩,
  ⟨0x21, 0x24, .i16, .ro, .instant, 2, 0, .any, false⟩]

/-- The entries of [1602] (R766). -/
def rowsX1602 : List Row := [
  ⟨0x00, 0x00, .u8, .const, .instant, 1, 14, .any, false⟩,
  ⟨0x01, 0x01, .u8, .ro, .instant, 1, 0, .any, false⟩,
  ⟨0x02, 0x02, .bool, .ro, .instant, 1, 0, .iv [(0, 1)], false⟩,
  ⟨0x03, 0x03, .u8, .ro, .instant, 1, 0, .any, false⟩,
  ⟨0x04, 0x04, .u8, .ro, .instant, 1, 1, .any, false⟩,
  ⟨0x05, 0x05, .i16, .ro, .instant, 2, 0, .any, false⟩,
  ⟨0x06, 0x06, .i16, .ro, .instant, 2, 0, .any, false⟩,
  ⟨0x07, 0x07, .bool, .ro, .instant, 1, 0, .iv [(0, 1)], false⟩,
  ⟨0x08, 0x08, .u8, .ro, .instant, 1, 10, .any, false⟩,
  ⟨0x09, 0x09, .u32, .ro, .instant, 4, 4294967295, .any, false⟩,
  ⟨0x0A, 0x0A, .u32, .ro, .instant, 4, 4294967295, .any, false⟩,
  ⟨0x0B, 0x0B, .u16, .ro, .instant, 2, 0, .any, false⟩,
  ⟨0x0C, 0x0C, .u32, .ro, .instant, 4, 0, .any, false⟩,
  ⟨0x0D, 0x0D, .u64, .ro, .instant, 8, 0, .any, false⟩,
  ⟨0x0E, 0x0E, .u8, .ro, .instant, 1, 0, .any, true⟩]

/-- The entries of [1610] (R830). -/
def rowsX1610 : List Row := [
  ⟨0x00, 0x00, .u8, .const, .instant, 1, 13, .any, false⟩,
  ⟨0x01, 0x0B, .u16, .ro, .instant, 2, 0, .any, false⟩,
  ⟨0x0C, 0x0C, .u32, .ro, .instant, 4, 0, .any, true⟩,
  ⟨0x0D, 0x0D, .u8, .ro, .instant, 1, 255, .any, false⟩]

/-- The entries of [1620] (R47). -/
def rowsX1620 : List Row := [
  ⟨0x00, 0x00, .u8, .const, .instant, 1, 8, .any, false⟩,
  ⟨0x01, 0x01, .u32, .ro, .instant, 4, 0, .any, false⟩,
  ⟨0x02, 0x02, .u32, .ro, .instant, 4, 0, .any, false⟩,
  ⟨0x03, 0x03, .u32, .ro, .instant, 4, 0, .any, false⟩,
  ⟨0x04, 0x04, .u32, .ro, .instant, 4, 0, .any, false⟩,
  ⟨0x05, 0x05, .u32, .ro, .instant, 4, 0, .any, false⟩,
  ⟨0x06, 0x06, .u32, .ro, .instant, 4, 0, .any, false⟩,
  ⟨0x07, 0x07, .u32, .ro, .instant, 4, 0, .any, false⟩,
  ⟨0x08, 0x08, .u32, .ro, .instant, 4, 0, .any, false⟩]

/-- The entries of [1640] (R688). -/
def rowsX1640 : List Row := [
  ⟨0x00, 0x00, .u8, .const, .instant, 1, 17, .any, false⟩,
  ⟨0x01, 0x01, .u8, .rw, .instant, 1, 2, .iv [(0, 2)], true⟩,
  ⟨0x02, 0x02, .u32, .rw, .instant, 4, 0, .iv [(0, 1000000)], true⟩,
  ⟨0x03, 0x03, .q16, .rw, .instant, 4, 0, .iv [(0, 0), (65536, 65536000)], true⟩,
  ⟨0x04, 0x04, .u32, .rw, .instant, 4, 0, .iv [(0, 1000000)], true⟩,
  ⟨0x05, 0x05, .u8, .rw, .instant, 1, 85, .iv [(50, 100)], true⟩,
  ⟨0x06, 0x06, .u32, .rw, .instant, 4, 0, .iv [(0, 100000)], true⟩,
  ⟨0x07, 0x07, .u32, .ro, .instant, 4, 0, .any, false⟩,
  ⟨0x08, 0x08, .u32, .ro, .instant, 4, 0, .any, false⟩,
  ⟨0x09, 0x09, .u16, .ro, .instant, 2, 0, .any, false⟩,
  ⟨0x0A, 0x0A, .u32, .ro, .instant, 4, 0, .any, false⟩,
  ⟨0x0B, 0x0B, .u8, .ro, .instant, 1, 2, .any, false⟩,
  ⟨0x0C, 0x0C, .u32, .ro, .instant, 4, 0, .any, true⟩,
  ⟨0x0D, 0x0D, .u32, .ro, .instant, 4, 0, .any, false⟩,
  ⟨0x0E, 0x0E, .u32, .ro, .instant, 4, 0, .any, true⟩,
  ⟨0x0F, 0x0F, .u32, .ro, .instant, 4, 0, .any, true⟩,
  ⟨0x10, 0x10, .u8, .ro, .instant, 1, 0, .any, false⟩,
  ⟨0x11, 0x11, .u32, .ro, .instant, 4, 0, .any, false⟩]

/-- The entries of [1800] (R793). -/
def rowsX1800 : List Row := [
  ⟨0x00, 0x00, .u8, .const, .instant, 1, 6, .any, false⟩,
  ⟨0x01, 0x01, .u8, .ro, .instant, 1, 2, .any, false⟩,
  ⟨0x02, 0x02, .u8, .ro, .instant, 1, 0, .any, false⟩,
  ⟨0x03, 0x03, .u8, .ro, .instant, 1, 0, .any, false⟩,
  ⟨0x04, 0x04, .u8, .ro, .instant, 1, 0, .any, false⟩,
  ⟨0x05, 0x05, .octets, .wo, .instant, 3453, 0, .any, false⟩,
  ⟨0x06, 0x06, .u8, .wo, .instant, 1, 0, .any, false⟩]

/-- The entries of [1801] (R793). -/
def rowsX1801 : List Row := [
  ⟨0x00, 0x00, .u8, .const, .instant, 1, 9, .any, false⟩,
  ⟨0x01, 0x01, .u8, .ro, .instant, 1, 255, .any, false⟩,
  ⟨0x02, 0x03, .u8, .ro, .instant, 1, 0, .any, false⟩,
  ⟨0x04, 0x05, .u32, .ro, .instant, 4, 0, .any, false⟩,
  ⟨0x06, 0x07, .u8, .ro, .instant, 1, 0, .any, false⟩,
  ⟨0x08, 0x08, .u8, .ro, .instant, 1, 0, .any, false⟩,
  ⟨0x09, 0x09, .u8, .ro, .instant, 1, 255, .any, false⟩]

/-- The entries of [1802] (R793). -/
def rowsX1802 : List Row := [
  ⟨0x00, 0x00, .u8, .const, .instant, 1, 6, .any, false⟩,
  ⟨0x01, 0x01, .domain, .ro, .instant, 65535, 0, .any, false⟩,
  ⟨0x02, 0x02, .octets, .ro, .instant, 1984, 0, .any, false⟩,
  ⟨0x03, 0x03, .octets, .ro, .instant, 32, 0, .any, false⟩,
  ⟨0x04, 0x04, .domain, .ro, .instant, 65535, 0, .any, false⟩,
  ⟨0x05, 0x05, .domain, .ro, .instant, 65535, 0, .any, false⟩,
  ⟨0x06, 0x06, .u8, .wo, .instant, 1, 0, .any, false⟩]

/-- The entries of [1808] (R797). -/
def rowsX1808 : List Row := [
  ⟨0x00, 0x00, .u8, .const, .instant, 1, 1, .any, false⟩,
  ⟨0x01, 0x01, .domain, .ro, .long, 65535, 0, .any, false⟩]

/-- The entries of [1830] (R479). -/
def rowsX1830 : List Row := [
  ⟨0x00, 0x00, .u8, .const, .instant, 1, 7, .any, false⟩,
  ⟨0x01, 0x01, .u16, .rws, .staged, 2, 1000, .iv [(100, 10000)], true⟩,
  ⟨0x02, 0x02, .u32, .ro, .instant, 4, 0, .any, true⟩,
  ⟨0x03, 0x03, .u64, .ro, .instant, 8, 0, .any, false⟩,
  ⟨0x04, 0x04, .u16, .ro, .instant, 2, 0, .any, false⟩,
  ⟨0x05, 0x05, .u16, .ro, .instant, 2, 0, .any, false⟩,
  ⟨0x06, 0x06, .u64, .ro, .instant, 8, 0, .any, false⟩,
  ⟨0x07, 0x07, .domain, .ro, .instant, 65535, 0, .any, true⟩]

/-- The entries of [ec] (R480). -/
def rowsEc : List Row := [
  ⟨0x00, 0x00, .u8, .const, .instant, 1, 10, .any, false⟩,
  ⟨0x01, 0x01, .u16, .rws, .staged, 2, 1024, .iv [(64, 8192)], false⟩,
  ⟨0x02, 0x02, .u8, .ro, .instant, 1, 0, .any, false⟩,
  ⟨0x03, 0x03, .u64, .ro, .instant, 8, 0, .any, false⟩,
  ⟨0x04, 0x04, .octets, .ro, .instant, 32, 0, .any, false⟩,
  ⟨0x05, 0x05, .u64, .ro, .instant, 8, 0, .any, false⟩,
  ⟨0x06, 0x06, .u64, .ro, .instant, 8, 0, .any, false⟩,
  ⟨0x07, 0x07, .u64, .ro, .instant, 8, 0, .any, false⟩,
  ⟨0x08, 0x08, .u32, .ro, .instant, 4, 0, .any, false⟩,
  ⟨0x09, 0x09, .u32, .ro, .instant, 4, 0, .any, false⟩,
  ⟨0x0A, 0x0A, .u32, .ro, .instant, 4, 0, .any, false⟩]

/-- The entries of [1A00] (R745). -/
def rowsX1A00 : List Row := [
  ⟨0x00, 0x00, .u8, .const, .instant, 1, 14, .any, false⟩,
  ⟨0x01, 0x01, .u8, .ro, .instant, 1, 0, .any, false⟩,
  ⟨0x02, 0x02, .octets, .ro, .instant, 8, 0, .any, false⟩,
  ⟨0x03, 0x03, .u16, .ro, .instant, 2, 0, .any, false⟩,
  ⟨0x04, 0x04, .u16, .ro, .instant, 2, 0, .any, false⟩,
  ⟨0x05, 0x05, .u16, .ro, .instant, 2, 0, .any, false⟩,
  ⟨0x06, 0x06, .u16, .ro, .instant, 2, 0, .any, false⟩,
  ⟨0x07, 0x07, .u32, .ro, .instant, 4, 0, .any, false⟩,
  ⟨0x08, 0x08, .u32, .ro, .instant, 4, 0, .any, false⟩,
  ⟨0x09, 0x09, .u32, .ro, .instant, 4, 0, .any, false⟩,
  ⟨0x0A, 0x0A, .u32, .ro, .instant, 4, 0, .any, false⟩,
  ⟨0x0B, 0x0B, .u16, .ro, .instant, 2, 0, .any, false⟩,
  ⟨0x0C, 0x0C, .u32, .ro, .instant, 4, 0, .any, false⟩,
  ⟨0x0D, 0x0D, .u32, .ro, .instant, 4, 0, .any, false⟩,
  ⟨0x0E, 0x0E, .u16, .ro, .instant, 2, 0, .any, false⟩]

/-- The entries of [1A1u] (R744). -/
def rowsUp : List Row := [
  ⟨0x00, 0x00, .u8, .const, .instant, 1, 9, .any, false⟩,
  ⟨0x01, 0x01, .domain, .rws, .staged, 65535, 0, .any, true⟩,
  ⟨0x02, 0x02, .u8, .ro, .instant, 1, 0, .any, false⟩,
  ⟨0x03, 0x03, .octets, .wo, .instant, 34, 0, .any, false⟩,
  ⟨0x04, 0x04, .octets, .wo, .instant, 33, 0, .any, false⟩,
  ⟨0x05, 0x05, .u8, .wo, .instant, 1, 0, .any, false⟩,
  ⟨0x06, 0x06, .bool, .ro, .instant, 1, 0, .iv [(0, 1)], false⟩,
  ⟨0x07, 0x07, .u16, .ro, .instant, 2, 0, .any, false⟩,
  ⟨0x08, 0x08, .u32, .ro, .instant, 4, 0, .any, false⟩,
  ⟨0x09, 0x09, .u8, .wo, .instant, 1, 0, .any, false⟩]

/-- The entries of [1C10] (R821). -/
def rowsX1C10 : List Row := [
  ⟨0x00, 0x00, .u8, .const, .instant, 1, 8, .any, false⟩,
  ⟨0x01, 0x01, .u32, .ro, .instant, 4, 0, .any, false⟩,
  ⟨0x02, 0x02, .domain, .ro, .instant, 65535, 0, .any, true⟩,
  ⟨0x03, 0x03, .octets, .ro, .instant, 64, 0, .any, false⟩,
  ⟨0x04, 0x04, .u8, .wo, .instant, 1, 0, .any, false⟩,
  ⟨0x05, 0x05, .u64, .ro, .instant, 8, 0, .any, false⟩,
  ⟨0x06, 0x06, .u32, .ro, .instant, 4, 0, .any, false⟩,
  ⟨0x07, 0x07, .u32, .ro, .instant, 4, 0, .any, false⟩,
  ⟨0x08, 0x08, .u32, .ro, .instant, 4, 0, .any, false⟩]

/-- The entries of [1C11] (R821). -/
def rowsX1C11 : List Row := [
  ⟨0x00, 0x00, .u8, .const, .instant, 1, 7, .any, false⟩,
  ⟨0x01, 0x01, .u32, .const, .instant, 4, 2000, .any, false⟩,
  ⟨0x02, 0x02, .u32, .const, .instant, 4, 10, .any, false⟩,
  ⟨0x03, 0x03, .u32, .const, .instant, 4, 250, .any, false⟩,
  ⟨0x04, 0x04, .u32, .const, .instant, 4, 750, .any, false⟩,
  ⟨0x05, 0x05, .u32, .const, .instant, 4, 3000, .any, false⟩,
  ⟨0x06, 0x06, .u32, .const, .instant, 4, 9000, .any, false⟩,
  ⟨0x07, 0x07, .u32, .const, .instant, 4, 100000, .any, false⟩]

/-- The entries of [1C20] (R41). -/
def rowsX1C20 : List Row := [
  ⟨0x00, 0x00, .u8, .const, .instant, 1, 6, .any, false⟩,
  ⟨0x01, 0x01, .u32, .ro, .instant, 4, 0, .any, false⟩,
  ⟨0x02, 0x02, .u64, .ro, .instant, 8, 0, .any, false⟩,
  ⟨0x03, 0x03, .u8, .ro, .instant, 1, 0, .any, false⟩,
  ⟨0x04, 0x04, .u8, .ro, .instant, 1, 0, .any, false⟩,
  ⟨0x05, 0x05, .u64, .ro, .instant, 8, 0, .any, false⟩,
  ⟨0x06, 0x06, .u8, .wo, .instant, 1, 0, .any, false⟩]

/-- The entries of [1C21] (R73). -/
def rowsX1C21 : List Row := [
  ⟨0x00, 0x00, .u8, .const, .instant, 1, 6, .any, false⟩,
  ⟨0x01, 0x01, .u32, .ro, .instant, 4, 0, .any, false⟩,
  ⟨0x02, 0x02, .u32, .ro, .instant, 4, 0, .any, false⟩,
  ⟨0x03, 0x03, .u16, .ro, .instant, 2, 0, .any, false⟩,
  ⟨0x04, 0x04, .u8, .ro, .instant, 1, 0, .any, false⟩,
  ⟨0x05, 0x05, .u64, .ro, .instant, 8, 0, .any, false⟩,
  ⟨0x06, 0x06, .u8, .wo, .instant, 1, 0, .any, false⟩]

/-- The entries of [1C30] (R709). -/
def rowsX1C30 : List Row := [
  ⟨0x00, 0x00, .u8, .const, .instant, 1, 9, .any, false⟩,
  ⟨0x01, 0x01, .u16, .ro, .instant, 2, 0, .any, false⟩,
  ⟨0x02, 0x02, .u16, .ro, .instant, 2, 0, .any, false⟩,
  ⟨0x03, 0x03, .u32, .ro, .instant, 4, 0, .any, false⟩,
  ⟨0x04, 0x04, .u32, .ro, .instant, 4, 0, .any, false⟩,
  ⟨0x05, 0x05, .u64, .ro, .instant, 8, 0, .any, false⟩,
  ⟨0x06, 0x06, .u32, .ro, .instant, 4, 0, .any, false⟩,
  ⟨0x07, 0x07, .u8, .ro, .instant, 1, 0, .any, false⟩,
  ⟨0x08, 0x08, .u64, .ro, .instant, 8, 0, .any, false⟩,
  ⟨0x09, 0x09, .u32, .ro, .instant, 4, 0, .any, false⟩]

/-- The entries of [1C40] (R780). -/
def rowsX1C40 : List Row := [
  ⟨0x00, 0x00, .u8, .const, .instant, 1, 9, .any, false⟩,
  ⟨0x01, 0x01, .u32, .ro, .instant, 4, 0, .any, false⟩,
  ⟨0x02, 0x02, .u8, .ro, .instant, 1, 1, .any, false⟩,
  ⟨0x03, 0x03, .u32, .ro, .instant, 4, 0, .any, false⟩,
  ⟨0x04, 0x04, .u8, .ro, .instant, 1, 1, .any, false⟩,
  ⟨0x05, 0x05, .domain, .ro, .instant, 65535, 0, .any, false⟩,
  ⟨0x06, 0x06, .u32, .ro, .instant, 4, 0, .any, false⟩,
  ⟨0x07, 0x07, .u32, .ro, .instant, 4, 0, .any, false⟩,
  ⟨0x08, 0x08, .u8, .rw, .instant, 1, 0, .iv [(0, 1)], true⟩,
  ⟨0x09, 0x09, .u8, .ro, .instant, 1, 0, .any, false⟩]

/-- The entries of [rx] (R204). -/
def rowsRx : List Row := [
  ⟨0x00, 0x00, .u8, .const, .instant, 1, 20, .any, false⟩,
  ⟨0x01, 0x01, .bool, .rws, .staged, 1, 0, .iv [(0, 1)], false⟩,
  ⟨0x02, 0x02, .u16, .rws, .staged, 2, 15935, .mask 0x3E3F, false⟩,
  ⟨0x03, 0x03, .u8, .wo, .instant, 1, 0, .any, false⟩,
  ⟨0x04, 0x04, .u16, .rw, .instant, 2, 20, .iv [(1, 10000)], false⟩,
  ⟨0x05, 0x05, .u16, .rw, .instant, 2, 1000, .iv [(1, 10000)], false⟩,
  ⟨0x06, 0x06, .u16, .rw, .instant, 2, 10, .iv [(1, 10000)], false⟩,
  ⟨0x07, 0x07, .u16, .rw, .instant, 2, 1000, .iv [(1, 10000)], false⟩,
  ⟨0x08, 0x08, .u8, .rw, .instant, 1, 0, .iv [(0, 2)], false⟩,
  ⟨0x09, 0x09, .u8, .rw, .instant, 1, 0, .iv [(0, 2)], false⟩,
  ⟨0x0A, 0x0A, .u8, .ro, .instant, 1, 0, .any, false⟩,
  ⟨0x0B, 0x0B, .u8, .ro, .instant, 1, 0, .any, false⟩,
  ⟨0x0C, 0x0C, .u8, .ro, .instant, 1, 15, .any, false⟩,
  ⟨0x0D, 0x0D, .u32, .ro, .instant, 4, 0, .any, false⟩,
  ⟨0x0E, 0x0E, .u32, .ro, .instant, 4, 0, .any, false⟩,
  ⟨0x0F, 0x0F, .u32, .ro, .instant, 4, 0, .any, false⟩,
  ⟨0x10, 0x10, .u8, .ro, .instant, 1, 0, .any, false⟩,
  ⟨0x11, 0x11, .u64, .ro, .instant, 8, 0, .any, false⟩,
  ⟨0x12, 0x12, .u64, .ro, .instant, 8, 0, .any, false⟩,
  ⟨0x13, 0x13, .u8, .wo, .instant, 1, 0, .any, false⟩,
  ⟨0x14, 0x14, .domain, .ro, .long, 65535, 0, .any, false⟩]

/-- The entries of [tx] (R206). -/
def rowsTx : List Row := [
  ⟨0x00, 0x00, .u8, .const, .instant, 1, 9, .any, false⟩,
  ⟨0x01, 0x01, .bool, .rws, .staged, 1, 0, .iv [(0, 1)], false⟩,
  ⟨0x02, 0x02, .u8, .rws, .staged, 1, 0, .iv [(0, 6), (18, 22)], false⟩,
  ⟨0x03, 0x03, .u8, .rw, .instant, 1, 0, .iv [(0, 3)], false⟩,
  ⟨0x04, 0x04, .u8, .wo, .instant, 1, 0, .any, false⟩,
  ⟨0x05, 0x05, .u8, .ro, .instant, 1, 0, .any, false⟩,
  ⟨0x06, 0x06, .u8, .ro, .instant, 1, 255, .any, false⟩,
  ⟨0x07, 0x07, .i16, .ro, .instant, 2, 0, .any, false⟩,
  ⟨0x08, 0x08, .u32, .ro, .instant, 4, 0, .any, false⟩,
  ⟨0x09, 0x09, .u16, .ro, .instant, 2, 0, .any, false⟩]

/-- The entries of [quad] (R210). -/
def rowsQuad : List Row := [
  ⟨0x00, 0x00, .u8, .const, .instant, 1, 8, .any, false⟩,
  ⟨0x01, 0x01, .u8, .ro, .instant, 1, 0, .any, false⟩,
  ⟨0x02, 0x02, .u8, .ro, .instant, 1, 0, .any, false⟩,
  ⟨0x03, 0x03, .u8, .ro, .instant, 1, 0, .any, false⟩,
  ⟨0x04, 0x04, .u8, .ro, .instant, 1, 0, .any, false⟩,
  ⟨0x05, 0x05, .u32, .ro, .instant, 4, 0, .any, false⟩,
  ⟨0x06, 0x06, .u32, .ro, .instant, 4, 0, .any, false⟩,
  ⟨0x07, 0x07, .u8, .ro, .instant, 1, 2, .any, false⟩,
  ⟨0x08, 0x08, .u16, .ro, .instant, 2, 0, .any, false⟩]

/-- The entries of [2120] (R223). -/
def rowsX2120 : List Row := [
  ⟨0x00, 0x00, .u8, .const, .instant, 1, 3, .any, false⟩,
  ⟨0x01, 0x01, .domain, .rws, .staged, 65535, 0, .any, true⟩,
  ⟨0x02, 0x02, .domain, .rws, .staged, 65535, 0, .any, true⟩,
  ⟨0x03, 0x03, .u8, .ro, .instant, 1, 1, .any, false⟩]

/-- The entries of [ml] (R216). -/
def rowsMl : List Row := [
  ⟨0x00, 0x00, .u8, .const, .instant, 1, 6, .any, false⟩,
  ⟨0x01, 0x01, .u8, .rws, .staged, 1, 0, .mlMode, false⟩,
  ⟨0x02, 0x02, .u8, .rws, .staged, 1, 0, .mlMode, false⟩,
  ⟨0x03, 0x03, .u8, .ro, .instant, 1, 0, .any, false⟩,
  ⟨0x04, 0x04, .u16, .ro, .instant, 2, 0, .any, false⟩,
  ⟨0x05, 0x05, .u16, .ro, .instant, 2, 0, .any, false⟩,
  ⟨0x06, 0x06, .u32, .ro, .instant, 4, 0, .any, false⟩]

/-- The entries of [tb] (R255). -/
def rowsTb : List Row := [
  ⟨0x00, 0x00, .u8, .const, .instant, 1, 10, .any, false⟩,
  ⟨0x01, 0x01, .bool, .rws, .staged, 1, 0, .iv [(0, 1)], false⟩,
  ⟨0x02, 0x02, .u8, .rws, .staged, 1, 255, .iv [(0, 3), (255, 255)], false⟩,
  ⟨0x03, 0x03, .u8, .rws, .staged, 1, 255, .iv [(0, 15), (255, 255)], false⟩,
  ⟨0x04, 0x04, .u8, .ro, .instant, 1, 0, .any, false⟩,
  ⟨0x05, 0x05, .u8, .ro, .instant, 1, 0, .any, false⟩,
  ⟨0x06, 0x06, .u8, .ro, .instant, 1, 0, .any, false⟩,
  ⟨0x07, 0x07, .u8, .ro, .instant, 1, 255, .any, false⟩,
  ⟨0x08, 0x08, .u64, .ro, .instant, 8, 0, .any, false⟩,
  ⟨0x09, 0x09, .u64, .ro, .instant, 8, 0, .any, false⟩,
  ⟨0x0A, 0x0A, .u16, .ro, .instant, 2, 0, .any, false⟩]

/-- The entries of [2230] (R255). -/
def rowsX2230 : List Row := [
  ⟨0x00, 0x00, .u8, .const, .instant, 1, 1, .any, false⟩,
  ⟨0x01, 0x01, .u8, .rws, .staged, 1, 0, .iv [(0, 3)], true⟩]

/-- The entries of [ip] (R277). -/
def rowsIp : List Row := [
  ⟨0x00, 0x00, .u8, .const, .instant, 1, 18, .any, false⟩,
  ⟨0x01, 0x01, .bool, .rws, .staged, 1, 0, .iv [(0, 1)], false⟩,
  ⟨0x02, 0x02, .u8, .rws, .staged, 1, 0, .iv [(0, 1)], false⟩,
  ⟨0x03, 0x03, .u8, .rws, .staged, 1, 4, .iv [(3, 8)], false⟩,
  ⟨0x04, 0x04, .u32, .rws, .staged, 4, 0, .format, false⟩,
  ⟨0x05, 0x05, .u8, .rws, .staged, 1, 16, .any, false⟩,
  ⟨0x06, 0x06, .u8, .rws, .staged, 1, 1, .iv [(0, 1)], false⟩,
  ⟨0x07, 0x07, .u8, .rws, .staged, 1, 0, .iv [(0, 1)], false⟩,
  ⟨0x08, 0x08, .u32, .ro, .instant, 4, 0, .any, false⟩,
  ⟨0x09, 0x09, .u8, .ro, .instant, 1, 0, .any, false⟩,
  ⟨0x0A, 0x0A, .u32, .ro, .instant, 4, 0, .any, false⟩,
  ⟨0x0B, 0x0B, .u32, .ro, .instant, 4, 0, .any, false⟩,
  ⟨0x0C, 0x0C, .u32, .ro, .instant, 4, 0, .any, false⟩,
  ⟨0x0D, 0x0D, .u64, .ro, .instant, 8, 0, .any, false⟩,
  ⟨0x0E, 0x0E, .u32, .ro, .instant, 4, 0, .any, false⟩,
  ⟨0x0F, 0x0F, .u32, .ro, .instant, 4, 0, .any, false⟩,
  ⟨0x10, 0x10, .u64, .ro, .instant, 8, 0, .any, false⟩,
  ⟨0x11, 0x11, .u8, .ro, .instant, 1, 0, .any, false⟩,
  ⟨0x12, 0x12, .u32, .ro, .instant, 4, 0, .any, false⟩]

/-- The entries of [cmp] (R374). -/
def rowsCmp : List Row := [
  ⟨0x00, 0x00, .u8, .const, .instant, 1, 12, .any, false⟩,
  ⟨0x01, 0x01, .u8, .rws, .staged, 1, 0, .iv [(0, 7)], false⟩,
  ⟨0x02, 0x02, .u8, .rws, .staged, 1, 0, .iv [(0, 1)], false⟩,
  ⟨0x03, 0x03, .u8, .rws, .staged, 1, 10, .iv [(8, 8), (10, 10), (12, 12)], false⟩,
  ⟨0x04, 0x04, .u16, .rws, .staged, 2, 4112, .iv [(4096, 4351), (8192, 8447)], false⟩,
  ⟨0x05, 0x05, .u64, .rws, .staged, 8, 4303357952, .iv [(0, 68719476735)], false⟩,
  ⟨0x06, 0x06, .u16, .rws, .staged, 2, 1023, .iv [(0, 1023)], false⟩,
  ⟨0x07, 0x07, .u8, .rws, .staged, 1, 255, .any, false⟩,
  ⟨0x08, 0x08, .u8, .ro, .instant, 1, 0, .any, false⟩,
  ⟨0x09, 0x09, .u64, .ro, .instant, 8, 0, .any, false⟩,
  ⟨0x0A, 0x0A, .u32, .ro, .instant, 4, 0, .any, false⟩,
  ⟨0x0B, 0x0B, .u32, .ro, .instant, 4, 0, .any, false⟩,
  ⟨0x0C, 0x0C, .u64, .ro, .instant, 8, 0, .any, false⟩]

/-- The entries of [ev] (R374). -/
def rowsEv : List Row := [
  ⟨0x00, 0x00, .u8, .const, .instant, 1, 12, .any, false⟩,
  ⟨0x01, 0x01, .u8, .rws, .staged, 1, 0, .iv [(0, 7)], false⟩,
  ⟨0x02, 0x02, .u8, .const, .instant, 1, 0, .iv [(0, 1)], false⟩,
  ⟨0x03, 0x03, .u8, .const, .instant, 1, 12, .iv [(8, 8), (10, 10), (12, 12)], false⟩,
  ⟨0x04, 0x04, .u16, .rws, .staged, 2, 4112, .iv [(4096, 4351), (8192, 8447)], false⟩,
  ⟨0x05, 0x05, .u64, .rws, .staged, 8, 4303357952, .iv [(0, 68719476735)], false⟩,
  ⟨0x06, 0x06, .u16, .rws, .staged, 2, 1023, .iv [(0, 1023)], false⟩,
  ⟨0x07, 0x07, .u8, .const, .instant, 1, 255, .any, false⟩,
  ⟨0x08, 0x08, .u8, .ro, .instant, 1, 0, .any, false⟩,
  ⟨0x09, 0x09, .u64, .ro, .instant, 8, 0, .any, false⟩,
  ⟨0x0A, 0x0A, .u32, .ro, .instant, 4, 0, .any, false⟩,
  ⟨0x0B, 0x0B, .u32, .ro, .instant, 4, 0, .any, false⟩,
  ⟨0x0C, 0x0C, .u64, .ro, .instant, 8, 0, .any, false⟩]

/-- The entries of [ly] (R386). -/
def rowsLy : List Row := [
  ⟨0x00, 0x00, .u8, .const, .instant, 1, 34, .any, false⟩,
  ⟨0x01, 0x01, .bool, .rws, .staged, 1, 0, .iv [(0, 1)], false⟩,
  ⟨0x02, 0x02, .u8, .rws, .staged, 1, 0, .iv [(0, 4)], false⟩,
  ⟨0x03, 0x03, .u16, .rws, .staged, 2, 0, .any, false⟩,
  ⟨0x04, 0x04, .u8, .rws, .staged, 1, 0, .any, false⟩,
  ⟨0x05, 0x05, .u16, .rws, .staged, 2, 1023, .iv [(0, 1023)], false⟩,
  ⟨0x06, 0x06, .u8, .rws, .staged, 1, 0, .iv [(0, 2)], false⟩,
  ⟨0x07, 0x07, .u64, .rws, .staged, 8, 4303357952, .iv [(0, 68719476735)], false⟩,
  ⟨0x08, 0x08, .u8, .rws, .staged, 1, 0, .iv [(0, 1)], false⟩,
  ⟨0x09, 0x09, .u16, .rws, .staged, 2, 0, .any, false⟩,
  ⟨0x0A, 0x0A, .u16, .rws, .staged, 2, 0, .iv [(0, 0), (16, 8192)], false⟩,
  ⟨0x0B, 0x0B, .u16, .rws, .staged, 2, 0, .iv [(0, 0), (16, 4320)], false⟩,
  ⟨0x0C, 0x0F, .u16, .rws, .staged, 2, 0, .any, false⟩,
  ⟨0x10, 0x13, .u16, .rws, .staged, 2, 0, .any, false⟩,
  ⟨0x14, 0x14, .u8, .rws, .staged, 1, 32, .iv [(0, 33)], false⟩,
  ⟨0x15, 0x15, .u8, .rws, .staged, 1, 32, .iv [(0, 33)], false⟩,
  ⟨0x16, 0x16, .u8, .rws, .staged, 1, 4, .iv [(2, 2), (4, 4), (6, 6)], false⟩,
  ⟨0x17, 0x17, .bool, .rws, .staged, 1, 0, .iv [(0, 1)], false⟩,
  ⟨0x18, 0x18, .u8, .rws, .staged, 1, 255, .iv [(0, 63), (255, 255)], false⟩,
  ⟨0x19, 0x19, .u8, .rws, .staged, 1, 0, .iv [(0, 1)], false⟩,
  ⟨0x1A, 0x1A, .u8, .rws, .staged, 1, 0, .iv [(0, 1)], false⟩,
  ⟨0x1B, 0x1B, .u8, .ro, .instant, 1, 0, .any, false⟩,
  ⟨0x1C, 0x1C, .u8, .ro, .instant, 1, 0, .any, false⟩,
  ⟨0x1D, 0x1D, .u8, .ro, .instant, 1, 0, .any, false⟩,
  ⟨0x1E, 0x1E, .u8, .ro, .instant, 1, 1, .any, false⟩,
  ⟨0x1F, 0x1F, .u32, .ro, .instant, 4, 0, .any, false⟩,
  ⟨0x20, 0x20, .u32, .ro, .instant, 4, 0, .any, false⟩,
  ⟨0x21, 0x21, .u32, .ro, .instant, 4, 0, .any, false⟩,
  ⟨0x22, 0x22, .u64, .ro, .instant, 8, 0, .any, false⟩]

/-- The entries of [sr] (R478). -/
def rowsSr : List Row := [
  ⟨0x00, 0x00, .u8, .const, .instant, 1, 55, .any, false⟩,
  ⟨0x01, 0x10, .octets, .rws, .staged, 16, 0, .any, false⟩,
  ⟨0x11, 0x20, .octets, .rws, .staged, 16, 0, .any, false⟩,
  ⟨0x21, 0x30, .octets, .ro, .instant, 16, 0, .any, false⟩,
  ⟨0x31, 0x31, .u16, .ro, .instant, 2, 0, .any, false⟩,
  ⟨0x32, 0x32, .u16, .wo, .instant, 2, 0, .any, false⟩,
  ⟨0x33, 0x37, .u32, .ro, .instant, 4, 0, .any, false⟩]

/-- The entries of [cs] (R337). -/
def rowsCs : List Row := [
  ⟨0x00, 0x00, .u8, .const, .instant, 1, 5, .any, false⟩,
  ⟨0x01, 0x01, .domain, .ro, .long, 65535, 0, .any, true⟩,
  ⟨0x02, 0x02, .u8, .ro, .instant, 1, 0, .any, false⟩,
  ⟨0x03, 0x03, .u32, .ro, .instant, 4, 0, .any, false⟩,
  ⟨0x04, 0x04, .u16, .ro, .instant, 2, 0, .any, false⟩,
  ⟨0x05, 0x05, .u32, .ro, .instant, 4, 0, .any, false⟩]

/-- The entries of [frc] (R365). -/
def rowsFrc : List Row := [
  ⟨0x00, 0x00, .u8, .const, .instant, 1, 12, .any, false⟩,
  ⟨0x01, 0x01, .u16, .rws, .staged, 2, 65535, .iv [(0, 127), (256, 831), (65535, 65535)], false⟩,
  ⟨0x02, 0x02, .u8, .rws, .staged, 1, 0, .iv [(0, 2)], false⟩,
  ⟨0x03, 0x03, .u8, .rws, .staged, 1, 0, .iv [(0, 1)], false⟩,
  ⟨0x04, 0x04, .u16, .rws, .staged, 2, 64, .iv [(0, 4095)], false⟩,
  ⟨0x05, 0x05, .u8, .ro, .instant, 1, 0, .any, false⟩,
  ⟨0x06, 0x06, .u32, .ro, .instant, 4, 0, .any, false⟩,
  ⟨0x07, 0x07, .u8, .ro, .instant, 1, 0, .any, false⟩,
  ⟨0x08, 0x08, .u64, .ro, .instant, 8, 0, .any, false⟩,
  ⟨0x09, 0x09, .u32, .ro, .instant, 4, 0, .any, false⟩,
  ⟨0x0A, 0x0A, .u32, .ro, .instant, 4, 0, .any, false⟩,
  ⟨0x0B, 0x0B, .u32, .ro, .instant, 4, 0, .any, false⟩,
  ⟨0x0C, 0x0C, .u32, .ro, .instant, 4, 0, .any, false⟩]

/-- The entries of [cp] (R352). -/
def rowsCp : List Row := [
  ⟨0x00, 0x00, .u8, .const, .instant, 1, 9, .any, false⟩,
  ⟨0x01, 0x01, .u16, .rws, .staged, 2, 0, .preset, false⟩,
  ⟨0x02, 0x02, .u8, .rws, .staged, 1, 0, .iv [(0, 3)], false⟩,
  ⟨0x03, 0x03, .domain, .rws, .staged, 65535, 0, .lutBody, false⟩,
  ⟨0x04, 0x04, .octets, .rws, .staged, 60, 0, .any, false⟩,
  ⟨0x05, 0x05, .domain, .rws, .staged, 65535, 0, .lutBody, false⟩,
  ⟨0x06, 0x06, .u8, .rws, .staged, 1, 0, .iv [(0, 3)], false⟩,
  ⟨0x07, 0x07, .u8, .rws, .staged, 1, 0, .mask 0x1F, false⟩,
  ⟨0x08, 0x08, .u16, .ro, .instant, 2, 0, .any, false⟩,
  ⟨0x09, 0x09, .u8, .ro, .instant, 1, 255, .any, false⟩]

/-- The entries of [oc] (R344). -/
def rowsOc : List Row := [
  ⟨0x00, 0x00, .u8, .const, .instant, 1, 20, .any, false⟩,
  ⟨0x01, 0x01, .u16, .rws, .staged, 2, 0, .iv [(0, 0), (16, 8192)], false⟩,
  ⟨0x02, 0x02, .u16, .rws, .staged, 2, 0, .iv [(0, 0), (16, 4320)], false⟩,
  ⟨0x03, 0x03, .u8, .rws, .staged, 1, 0, .iv [(0, 4)], false⟩,
  ⟨0x04, 0x04, .u16, .rws, .staged, 2, 0, .any, false⟩,
  ⟨0x05, 0x05, .u16, .rws, .staged, 2, 0, .any, false⟩,
  ⟨0x06, 0x06, .u16, .rws, .staged, 2, 0, .any, false⟩,
  ⟨0x07, 0x07, .u16, .rws, .staged, 2, 0, .any, false⟩,
  ⟨0x08, 0x08, .u16, .rws, .staged, 2, 0, .any, false⟩,
  ⟨0x09, 0x09, .u16, .rws, .staged, 2, 0, .any, false⟩,
  ⟨0x0A, 0x0A, .u16, .rws, .staged, 2, 0, .any, false⟩,
  ⟨0x0B, 0x0B, .u16, .rws, .staged, 2, 0, .any, false⟩,
  ⟨0x0C, 0x0C, .u8, .rws, .staged, 1, 32, .iv [(0, 33)], false⟩,
  ⟨0x0D, 0x0D, .u8, .rws, .staged, 1, 32, .iv [(0, 33)], false⟩,
  ⟨0x0E, 0x0E, .u8, .rws, .staged, 1, 4, .iv [(2, 2), (4, 4), (6, 6)], false⟩,
  ⟨0x0F, 0x0F, .bool, .rws, .staged, 1, 0, .iv [(0, 1)], false⟩,
  ⟨0x10, 0x10, .u16, .rws, .staged, 2, 65535, .iv [(0, 511), (65535, 65535)], false⟩,
  ⟨0x11, 0x11, .u8, .rws, .staged, 1, 255, .iv [(0, 63), (255, 255)], false⟩,
  ⟨0x12, 0x12, .u16, .ro, .instant, 2, 65535, .any, false⟩,
  ⟨0x13, 0x13, .u8, .ro, .instant, 1, 0, .any, false⟩,
  ⟨0x14, 0x14, .u8, .ro, .instant, 1, 1, .any, false⟩]

/-- The entries of [3400] (R485). -/
def rowsX3400 : List Row := [
  ⟨0x00, 0x00, .u8, .const, .instant, 1, 7, .any, false⟩,
  ⟨0x01, 0x01, .u8, .rws, .staged, 1, 0, .iv [(0, 7), (255, 255)], true⟩,
  ⟨0x02, 0x02, .u8, .ro, .instant, 1, 0, .any, false⟩,
  ⟨0x03, 0x06, .u8, .ro, .instant, 1, 0, .any, false⟩,
  ⟨0x07, 0x07, .i32, .ro, .instant, 4, 0, .any, false⟩]

/-- The entries of [ar] (R517). -/
def rowsAr : List Row := [
  ⟨0x00, 0x00, .u8, .const, .instant, 1, 18, .any, false⟩,
  ⟨0x01, 0x01, .bool, .rws, .staged, 1, 0, .iv [(0, 1)], false⟩,
  ⟨0x02, 0x02, .u8, .rws, .staged, 1, 0, .iv [(0, 1)], false⟩,
  ⟨0x03, 0x03, .bool, .rws, .staged, 1, 1, .iv [(0, 1)], false⟩,
  ⟨0x04, 0x04, .u8, .ro, .instant, 1, 0, .any, false⟩,
  ⟨0x05, 0x05, .u32, .ro, .instant, 4, 0, .any, false⟩,
  ⟨0x06, 0x06, .u8, .ro, .instant, 1, 0, .any, false⟩,
  ⟨0x07, 0x07, .octets, .ro, .instant, 24, 0, .any, false⟩,
  ⟨0x08, 0x08, .octets, .ro, .instant, 24, 0, .any, false⟩,
  ⟨0x09, 0x09, .octets, .ro, .instant, 24, 0, .any, false⟩,
  ⟨0x0A, 0x0A, .octets, .ro, .instant, 24, 0, .any, false⟩,
  ⟨0x0B, 0x0B, .u8, .ro, .instant, 1, 0, .any, false⟩,
  ⟨0x0C, 0x0C, .u32, .ro, .instant, 4, 0, .any, false⟩,
  ⟨0x0D, 0x0D, .u32, .ro, .instant, 4, 0, .any, false⟩,
  ⟨0x0E, 0x0E, .u32, .ro, .instant, 4, 0, .any, false⟩,
  ⟨0x0F, 0x0F, .u32, .ro, .instant, 4, 0, .any, false⟩,
  ⟨0x10, 0x10, .u32, .ro, .instant, 4, 0, .any, false⟩,
  ⟨0x11, 0x11, .u8, .wo, .instant, 1, 0, .any, false⟩,
  ⟨0x12, 0x12, .u64, .ro, .instant, 8, 0, .any, false⟩]

/-- The entries of [at] (R526). -/
def rowsAt : List Row := [
  ⟨0x00, 0x00, .u8, .const, .instant, 1, 11, .any, false⟩,
  ⟨0x01, 0x01, .bool, .rws, .staged, 1, 0, .iv [(0, 1)], false⟩,
  ⟨0x02, 0x02, .u32, .rws, .staged, 4, 48000, .iv [(32000, 32000), (44100, 44100), (48000, 48000), (88200, 88200), (96000, 96000), (176400, 176400), (192000, 192000)], false⟩,
  ⟨0x03, 0x03, .u8, .rws, .staged, 1, 0, .iv [(0, 1)], false⟩,
  ⟨0x04, 0x04, .u16, .rws, .staged, 2, 65535, .audioSrc, false⟩,
  ⟨0x05, 0x05, .u16, .rws, .staged, 2, 65535, .audioSrc, false⟩,
  ⟨0x06, 0x06, .u8, .rws, .staged, 1, 0, .iv [(0, 2)], false⟩,
  ⟨0x07, 0x07, .octets, .rws, .staged, 24, 0, .any, false⟩,
  ⟨0x08, 0x08, .u8, .ro, .instant, 1, 0, .any, false⟩,
  ⟨0x09, 0x09, .u8, .ro, .instant, 1, 0, .any, false⟩,
  ⟨0x0A, 0x0A, .u64, .ro, .instant, 8, 0, .any, false⟩,
  ⟨0x0B, 0x0B, .u64, .ro, .instant, 8, 0, .any, false⟩]

/-- The entries of [et] (R539). -/
def rowsEt : List Row := [
  ⟨0x00, 0x00, .u8, .const, .instant, 1, 33, .any, false⟩,
  ⟨0x01, 0x20, .u16, .rws, .staged, 2, 65535, .audioSrc, false⟩,
  ⟨0x21, 0x21, .u8, .ro, .instant, 1, 0, .any, false⟩]

/-- The entries of [cap] (R534). -/
def rowsCap : List Row := [
  ⟨0x00, 0x00, .u8, .const, .instant, 1, 42, .any, false⟩,
  ⟨0x01, 0x01, .bool, .rws, .staged, 1, 0, .iv [(0, 1)], false⟩,
  ⟨0x02, 0x02, .u32, .rws, .staged, 4, 0, .iv [(0, 65535)], false⟩,
  ⟨0x03, 0x03, .u8, .rws, .staged, 1, 0, .iv [(0, 1)], false⟩,
  ⟨0x04, 0x04, .u8, .rws, .staged, 1, 0, .iv [(0, 2)], false⟩,
  ⟨0x05, 0x05, .u8, .rws, .staged, 1, 255, .iv [(0, 7), (255, 255)], false⟩,
  ⟨0x06, 0x06, .u8, .rws, .staged, 1, 2, .iv [(1, 32)], false⟩,
  ⟨0x07, 0x26, .u16, .rws, .staged, 2, 65535, .audioSrc, false⟩,
  ⟨0x27, 0x27, .u8, .ro, .instant, 1, 0, .any, false⟩,
  ⟨0x28, 0x28, .u64, .ro, .instant, 8, 0, .any, false⟩,
  ⟨0x29, 0x29, .u32, .ro, .instant, 4, 0, .any, false⟩,
  ⟨0x2A, 0x2A, .u64, .ro, .instant, 8, 0, .any, false⟩]

/-- The entries of [pb] (R535). -/
def rowsPb : List Row := [
  ⟨0x00, 0x00, .u8, .const, .instant, 1, 9, .any, false⟩,
  ⟨0x01, 0x01, .bool, .rws, .staged, 1, 0, .iv [(0, 1)], false⟩,
  ⟨0x02, 0x02, .u32, .rws, .staged, 4, 0, .iv [(0, 65535)], false⟩,
  ⟨0x03, 0x03, .u8, .rws, .staged, 1, 0, .iv [(0, 1)], false⟩,
  ⟨0x04, 0x04, .u8, .rws, .staged, 1, 2, .iv [(1, 32)], false⟩,
  ⟨0x05, 0x05, .u8, .ro, .instant, 1, 0, .any, false⟩,
  ⟨0x06, 0x06, .u32, .ro, .instant, 4, 0, .any, false⟩,
  ⟨0x07, 0x07, .u32, .ro, .instant, 4, 0, .any, false⟩,
  ⟨0x08, 0x08, .u64, .ro, .instant, 8, 0, .any, false⟩,
  ⟨0x09, 0x09, .u64, .ro, .instant, 8, 0, .any, false⟩]

/-- The entries of [ea] (R500). -/
def rowsEa : List Row := [
  ⟨0x00, 0x00, .u8, .const, .instant, 1, 10, .any, false⟩,
  ⟨0x01, 0x01, .u8, .rws, .staged, 1, 0, .mask 0xF, false⟩,
  ⟨0x02, 0x02, .u8, .ro, .instant, 1, 0, .any, false⟩,
  ⟨0x03, 0x03, .u32, .ro, .instant, 4, 0, .any, false⟩,
  ⟨0x04, 0x04, .u8, .ro, .instant, 1, 0, .any, false⟩,
  ⟨0x05, 0x05, .u8, .ro, .instant, 1, 0, .any, false⟩,
  ⟨0x06, 0x06, .u32, .ro, .instant, 4, 0, .any, false⟩,
  ⟨0x07, 0x07, .u32, .ro, .instant, 4, 0, .any, false⟩,
  ⟨0x08, 0x08, .u64, .ro, .instant, 8, 0, .any, false⟩,
  ⟨0x09, 0x09, .u16, .ro, .instant, 2, 0, .any, false⟩,
  ⟨0x0A, 0x0A, .u8, .wo, .instant, 1, 0, .any, false⟩]

/-- The entries of [eo] (R508). -/
def rowsEo : List Row := [
  ⟨0x00, 0x00, .u8, .const, .instant, 1, 39, .any, false⟩,
  ⟨0x01, 0x20, .u16, .rws, .staged, 2, 65535, .audioSrc, false⟩,
  ⟨0x21, 0x21, .u32, .rws, .staged, 4, 0, .any, false⟩,
  ⟨0x22, 0x22, .u32, .rws, .staged, 4, 0, .iv [(0, 0), (4000, 1000000)], false⟩,
  ⟨0x23, 0x23, .u32, .ro, .instant, 4, 0, .any, false⟩,
  ⟨0x24, 0x24, .u8, .ro, .instant, 1, 0, .any, false⟩,
  ⟨0x25, 0x25, .u32, .ro, .instant, 4, 0, .any, false⟩,
  ⟨0x26, 0x26, .u32, .ro, .instant, 4, 0, .any, false⟩,
  ⟨0x27, 0x27, .u32, .ro, .instant, 4, 0, .any, false⟩]

/-- The entries of [3800] (R583). -/
def rowsX3800 : List Row := [
  ⟨0x00, 0x00, .u8, .const, .instant, 1, 18, .any, false⟩,
  ⟨0x01, 0x01, .u8, .ro, .instant, 1, 0, .any, false⟩,
  ⟨0x02, 0x02, .u32, .ro, .instant, 4, 524288, .any, false⟩,
  ⟨0x03, 0x03, .u32, .ro, .instant, 4, 5440, .any, false⟩,
  ⟨0x04, 0x04, .u32, .ro, .instant, 4, 0, .any, false⟩,
  ⟨0x05, 0x05, .u32, .ro, .instant, 4, 518848, .any, false⟩,
  ⟨0x06, 0x06, .u16, .ro, .instant, 2, 1024, .any, false⟩,
  ⟨0x07, 0x07, .u16, .ro, .instant, 2, 0, .any, false⟩,
  ⟨0x08, 0x08, .u32, .ro, .instant, 4, 0, .any, false⟩,
  ⟨0x09, 0x0A, .u64, .ro, .instant, 8, 0, .any, false⟩,
  ⟨0x0B, 0x0C, .u64, .ro, .instant, 8, 0, .any, false⟩,
  ⟨0x0D, 0x0E, .u64, .ro, .instant, 8, 0, .any, false⟩,
  ⟨0x0F, 0x10, .u32, .ro, .instant, 4, 0, .any, false⟩,
  ⟨0x11, 0x11, .u8, .wo, .instant, 1, 0, .any, false⟩,
  ⟨0x12, 0x12, .domain, .ro, .instant, 65535, 0, .any, true⟩]

/-- The entries of [3806] (R584). -/
def rowsX3806 : List Row := [
  ⟨0x00, 0x00, .u8, .const, .instant, 1, 8, .any, false⟩,
  ⟨0x01, 0x01, .u32, .ro, .instant, 4, 0, .any, false⟩,
  ⟨0x02, 0x02, .u32, .ro, .instant, 4, 0, .any, false⟩,
  ⟨0x03, 0x03, .u8, .ro, .instant, 1, 0, .any, false⟩,
  ⟨0x04, 0x04, .u32, .ro, .instant, 4, 0, .any, false⟩,
  ⟨0x05, 0x05, .u8, .ro, .instant, 1, 0, .any, false⟩,
  ⟨0x06, 0x06, .u64, .ro, .instant, 8, 0, .any, false⟩,
  ⟨0x07, 0x07, .u8, .ro, .instant, 1, 0, .any, false⟩,
  ⟨0x08, 0x08, .u8, .wo, .instant, 1, 0, .any, false⟩]

/-- The entries of [3808] (R585). -/
def rowsX3808 : List Row := [
  ⟨0x00, 0x00, .u8, .const, .instant, 1, 3, .any, false⟩,
  ⟨0x01, 0x01, .u32, .rw, .instant, 4, 0, .query, false⟩,
  ⟨0x02, 0x02, .octets, .ro, .instant, 16, 0, .any, false⟩,
  ⟨0x03, 0x03, .u32, .ro, .instant, 4, 4294967295, .any, false⟩]

/-- The entries of [3810] (R586). -/
def rowsX3810 : List Row := [
  ⟨0x00, 0x00, .u8, .const, .instant, 1, 7, .any, false⟩,
  ⟨0x01, 0x01, .u8, .rw, .instant, 1, 24, .iv [(1, 168)], true⟩,
  ⟨0x02, 0x02, .bool, .rw, .instant, 1, 1, .iv [(0, 1)], true⟩,
  ⟨0x03, 0x03, .u32, .ro, .instant, 4, 0, .any, false⟩,
  ⟨0x04, 0x04, .u32, .ro, .instant, 4, 0, .any, false⟩,
  ⟨0x05, 0x05, .u32, .ro, .instant, 4, 0, .any, false⟩,
  ⟨0x06, 0x06, .u32, .ro, .instant, 4, 0, .any, false⟩,
  ⟨0x07, 0x07, .u16, .ro, .instant, 2, 0, .any, false⟩]

/-- The entries of [dom] (R587). -/
def rowsDom : List Row := [
  ⟨0x00, 0x00, .u8, .const, .instant, 1, 4, .any, false⟩,
  ⟨0x01, 0x01, .u32, .rws, .staged, 4, 0, .iv [(0, 262144)], false⟩,
  ⟨0x02, 0x02, .u32, .ro, .instant, 4, 0, .any, false⟩,
  ⟨0x03, 0x03, .u32, .ro, .instant, 4, 0, .any, false⟩,
  ⟨0x04, 0x04, .u32, .ro, .instant, 4, 0, .any, false⟩]

/-- The entries of [3C00] (R633). -/
def rowsX3C00 : List Row := [
  ⟨0x00, 0x00, .u8, .const, .instant, 1, 10, .any, false⟩,
  ⟨0x01, 0x01, .u8, .ro, .instant, 1, 0, .any, false⟩,
  ⟨0x02, 0x02, .u8, .ro, .instant, 1, 0, .any, false⟩,
  ⟨0x03, 0x03, .u8, .ro, .instant, 1, 0, .any, false⟩,
  ⟨0x04, 0x04, .u16, .ro, .instant, 2, 1024, .any, false⟩,
  ⟨0x05, 0x05, .u8, .ro, .instant, 1, 0, .any, false⟩,
  ⟨0x06, 0x06, .u32, .ro, .instant, 4, 0, .any, false⟩,
  ⟨0x07, 0x07, .u16, .ro, .instant, 2, 0, .any, false⟩,
  ⟨0x08, 0x08, .u16, .ro, .instant, 2, 0, .any, false⟩,
  ⟨0x09, 0x09, .u32, .ro, .instant, 4, 0, .any, false⟩,
  ⟨0x0A, 0x0A, .u32, .ro, .instant, 4, 0, .any, false⟩]

/-- The entries of [3C01] (R605). -/
def rowsX3C01 : List Row := [
  ⟨0x00, 0x00, .u8, .const, .instant, 1, 20, .any, false⟩,
  ⟨0x01, 0x01, .u32, .rw, .instant, 4, 0, .iv [(0, 65535)], false⟩,
  ⟨0x02, 0x02, .u8, .ro, .instant, 1, 0, .any, false⟩,
  ⟨0x03, 0x03, .u8, .rw, .instant, 1, 0, .iv [(0, 7)], false⟩,
  ⟨0x04, 0x04, .u64, .rw, .instant, 8, 0, .page4k, false⟩,
  ⟨0x05, 0x05, .u8, .rw, .instant, 1, 6, .iv [(4, 16)], false⟩,
  ⟨0x06, 0x06, .u64, .rw, .instant, 8, 0, .page4k, false⟩,
  ⟨0x07, 0x07, .u8, .rw, .instant, 1, 6, .iv [(4, 16)], false⟩,
  ⟨0x08, 0x08, .u16, .rw, .instant, 2, 65535, .any, false⟩,
  ⟨0x09, 0x09, .u16, .rw, .instant, 2, 0, .iv [(0, 1000)], false⟩,
  ⟨0x0A, 0x0A, .u32, .rw, .instant, 4, 0, .iv [(0, 200000)], false⟩,
  ⟨0x0B, 0x0B, .u32, .rw, .instant, 4, 0, .any, false⟩,
  ⟨0x0C, 0x0C, .u8, .rw, .instant, 1, 0, .iv [(0, 1)], false⟩,
  ⟨0x0D, 0x0D, .u8, .ro, .instant, 1, 0, .any, false⟩,
  ⟨0x0E, 0x0E, .u16, .ro, .instant, 2, 0, .any, false⟩,
  ⟨0x0F, 0x0F, .u16, .ro, .instant, 2, 0, .any, false⟩,
  ⟨0x10, 0x10, .u16, .ro, .instant, 2, 0, .any, false⟩,
  ⟨0x11, 0x11, .u16, .ro, .instant, 2, 0, .any, false⟩,
  ⟨0x12, 0x12, .u32, .ro, .instant, 4, 0, .any, false⟩,
  ⟨0x13, 0x13, .u8, .wo, .instant, 1, 0, .any, false⟩,
  ⟨0x14, 0x14, .u64, .ro, .instant, 8, 0, .any, false⟩]

/-- The entries of [fn] (R634). -/
def rowsFn : List Row := [
  ⟨0x00, 0x00, .u8, .const, .instant, 1, 12, .any, false⟩,
  ⟨0x01, 0x01, .u32, .rws, .staged, 4, 0, .iv [(0, 200000)], true⟩,
  ⟨0x02, 0x02, .u32, .rws, .staged, 4, 0, .iv [(0, 200000)], true⟩,
  ⟨0x03, 0x03, .u32, .rw, .instant, 4, 0, .iv [(0, 65535)], true⟩,
  ⟨0x04, 0x04, .u32, .rw, .instant, 4, 0, .iv [(0, 65536)], true⟩,
  ⟨0x05, 0x05, .u8, .rw, .instant, 1, 0, .iv [(0, 1)], false⟩,
  ⟨0x06, 0x06, .u8, .ro, .instant, 1, 0, .any, false⟩,
  ⟨0x07, 0x07, .u32, .ro, .instant, 4, 0, .any, false⟩,
  ⟨0x08, 0x08, .u32, .ro, .instant, 4, 0, .any, false⟩,
  ⟨0x09, 0x09, .u64, .ro, .instant, 8, 0, .any, false⟩,
  ⟨0x0A, 0x0A, .u64, .ro, .instant, 8, 0, .any, false⟩,
  ⟨0x0B, 0x0B, .u32, .ro, .instant, 4, 0, .any, false⟩,
  ⟨0x0C, 0x0C, .u32, .ro, .instant, 4, 0, .any, false⟩]

/-- The entries of [route] (R286). -/
def rowsRoute : List Row := [
  ⟨0x00, 0x00, .u8, .const, .instant, 1, 16, .any, false⟩,
  ⟨0x01, 0x01, .u8, .rws, .staged, 1, 0, .iv [(0, 7)], false⟩,
  ⟨0x02, 0x02, .u8, .rws, .staged, 1, 0, .iv [(0, 3)], false⟩,
  ⟨0x03, 0x03, .u16, .rws, .staged, 2, 0, .any, false⟩,
  ⟨0x04, 0x04, .u8, .rws, .staged, 1, 0, .iv [(0, 1)], false⟩,
  ⟨0x05, 0x05, .u16, .rws, .staged, 2, 16, .any, false⟩,
  ⟨0x06, 0x06, .u8, .rws, .staged, 1, 0, .mask 7, false⟩,
  ⟨0x07, 0x07, .u8, .rws, .staged, 1, 0, .iv [(0, 5), (128, 133)], false⟩,
  ⟨0x08, 0x08, .u8, .rws, .staged, 1, 0, .iv [(0, 2)], false⟩,
  ⟨0x09, 0x09, .u16, .rws, .staged, 2, 0, .any, false⟩,
  ⟨0x0A, 0x0A, .u8, .ro, .instant, 1, 2, .any, false⟩,
  ⟨0x0B, 0x0B, .u8, .ro, .instant, 1, 0, .any, false⟩,
  ⟨0x0C, 0x0C, .u32, .ro, .instant, 4, 0, .any, false⟩,
  ⟨0x0D, 0x0D, .u32, .ro, .instant, 4, 0, .any, false⟩,
  ⟨0x0E, 0x0E, .u32, .ro, .instant, 4, 0, .any, false⟩,
  ⟨0x0F, 0x0F, .u64, .ro, .instant, 8, 0, .any, false⟩,
  ⟨0x10, 0x10, .u32, .ro, .instant, 4, 0, .any, false⟩]

/-- The entries of [5000] (R108). -/
def rowsX5000 : List Row := [
  ⟨0x00, 0x00, .u8, .const, .instant, 1, 7, .any, false⟩,
  ⟨0x01, 0x01, .u8, .wo, .instant, 1, 0, .any, false⟩,
  ⟨0x02, 0x02, .u8, .wo, .instant, 1, 0, .any, false⟩,
  ⟨0x03, 0x03, .u16, .ro, .instant, 2, 0, .any, false⟩,
  ⟨0x04, 0x04, .u16, .ro, .instant, 2, 16384, .any, false⟩,
  ⟨0x05, 0x05, .u32, .ro, .instant, 4, 0, .any, false⟩,
  ⟨0x06, 0x06, .u32, .ro, .instant, 4, 0, .any, false⟩,
  ⟨0x07, 0x07, .u16, .ro, .instant, 2, 0, .any, false⟩]

/-- The entries of [5101] (R160). -/
def rowsX5101 : List Row := [
  ⟨0x00, 0x00, .u8, .const, .instant, 1, 3, .any, false⟩,
  ⟨0x01, 0x01, .u32, .rws, .staged, 4, 150000, .iv [(43000, 185000)], true⟩,
  ⟨0x02, 0x02, .u32, .rw, .instant, 4, 20000, .iv [(0, 40000)], true⟩,
  ⟨0x03, 0x03, .u8, .rw, .instant, 1, 10, .iv [(1, 100)], false⟩]

/-- The entries of [5102] (R180). -/
def rowsX5102 : List Row := [
  ⟨0x00, 0x00, .u8, .const, .instant, 1, 15, .any, false⟩,
  ⟨0x01, 0x01, .u32, .ro, .instant, 4, 0, .any, false⟩,
  ⟨0x02, 0x02, .u32, .ro, .instant, 4, 0, .any, false⟩,
  ⟨0x03, 0x03, .u32, .ro, .instant, 4, 0, .any, false⟩,
  ⟨0x04, 0x04, .u32, .ro, .instant, 4, 0, .any, false⟩,
  ⟨0x05, 0x05, .u32, .ro, .instant, 4, 1600000, .any, false⟩,
  ⟨0x06, 0x06, .u32, .ro, .instant, 4, 0, .any, false⟩,
  ⟨0x07, 0x07, .u32, .ro, .instant, 4, 0, .any, false⟩,
  ⟨0x08, 0x08, .u32, .ro, .instant, 4, 43000, .any, false⟩,
  ⟨0x09, 0x09, .u64, .ro, .instant, 8, 0, .any, false⟩,
  ⟨0x0A, 0x0D, .u32, .ro, .instant, 4, 0, .any, false⟩,
  ⟨0x0E, 0x0F, .u32, .ro, .instant, 4, 0, .any, false⟩]

/-- The entries of [5103] (R180). -/
def rowsX5103 : List Row := [
  ⟨0x00, 0x00, .u8, .const, .instant, 1, 72, .any, false⟩,
  ⟨0x01, 0x48, .u32, .ro, .instant, 4, 0, .any, false⟩]

/-- The entries of [5104] (R180). -/
def rowsX5104 : List Row := [
  ⟨0x00, 0x00, .u8, .const, .instant, 1, 72, .any, false⟩,
  ⟨0x01, 0x48, .u32, .ro, .instant, 4, 0, .any, false⟩]

/-- The entries of [5106] (R181). -/
def rowsX5106 : List Row := [
  ⟨0x00, 0x00, .u8, .const, .instant, 1, 5, .any, false⟩,
  ⟨0x01, 0x01, .u32, .ro, .instant, 4, 0, .any, false⟩,
  ⟨0x02, 0x02, .u32, .ro, .instant, 4, 0, .any, false⟩,
  ⟨0x03, 0x03, .u32, .ro, .instant, 4, 0, .any, false⟩,
  ⟨0x04, 0x04, .u16, .ro, .instant, 2, 0, .any, false⟩,
  ⟨0x05, 0x05, .u16, .ro, .instant, 2, 0, .any, false⟩]

/-- The entries of [5107] (R190). -/
def rowsX5107 : List Row := [
  ⟨0x00, 0x00, .u8, .const, .instant, 1, 9, .any, false⟩,
  ⟨0x01, 0x01, .u32, .ro, .instant, 4, 0, .any, false⟩,
  ⟨0x02, 0x02, .u32, .ro, .instant, 4, 0, .any, false⟩,
  ⟨0x03, 0x03, .u16, .ro, .instant, 2, 1024, .any, false⟩,
  ⟨0x04, 0x04, .u16, .ro, .instant, 2, 1024, .any, false⟩,
  ⟨0x05, 0x09, .u32, .ro, .instant, 4, 0, .any, false⟩]

/-- The rows of the object with index `i`; none when no object has it (R53). -/
def objRows (i : Nat) : List Row :=
  if i < 0x2080 then
    (if i < 0x1602 then
      (if i < 0x1401 then
        (if i < 0x1012 then
          (if i < 0x1010 then
            (if i < 0x1001 then
              (if i = 0x1000 then rowsX1000 else [])
            else
              (if i = 0x1001 then rowsX1001 else []))
          else
            (if i < 0x1011 then
              (if i = 0x1010 then rowsX1010 else [])
            else
              (if i = 0x1011 then rowsX1011 else [])))
        else
          (if i < 0x1110 then
            (if i < 0x1020 then
              (if i = 0x1012 then rowsX1012 else [])
            else
              (if i = 0x1020 then rowsX1020 else []))
          else
            (if i < 0x1200 then
              (if i = 0x1110 then rowsX1110 else [])
            else
              (if i < 0x1400 then
                (if 0x1200 ≤ i ∧ i < 0x1240 then rowsSlot else [])
              else
                (if i = 0x1400 then rowsX1400 else [])))))
      else
        (if i < 0x1460 then
          (if i < 0x1410 then
            (if i < 0x1402 then
              (if i = 0x1401 then rowsX1401 else [])
            else
              (if i = 0x1402 then rowsX1402 else []))
          else
            (if i < 0x1440 then
              (if i = 0x1410 then rowsX1410 else [])
            else
              (if i < 0x1450 then
                (if 0x1440 ≤ i ∧ i < 0x1448 then rowsTg else [])
              else
                (if 0x1450 ≤ i ∧ i < 0x1458 then rowsTgl else []))))
        else
          (if i < 0x1470 then
            (if i < 0x1468 then
              (if i = 0x1460 then rowsX1460 else [])
            else
              (if i = 0x1468 then rowsX1468 else []))
          else
            (if i < 0x1600 then
              (if i = 0x1470 then rowsX1470 else [])
            else
              (if i < 0x1601 then
                (if i = 0x1600 then rowsX1600 else [])
              else
                (if i = 0x1601 then rowsX1601 else []))))))
    else
      (if i < 0x1840 then
        (if i < 0x1800 then
          (if i < 0x1620 then
            (if i < 0x1610 then
              (if i = 0x1602 then rowsX1602 else [])
            else
              (if i = 0x1610 then rowsX1610 else []))
          else
            (if i < 0x1640 then
              (if i = 0x1620 then rowsX1620 else [])
            else
              (if i = 0x1640 then rowsX1640 else [])))
        else
          (if i < 0x1802 then
            (if i < 0x1801 then
              (if i = 0x1800 then rowsX1800 else [])
            else
              (if i = 0x1801 then rowsX1801 else []))
          else
            (if i < 0x1808 then
              (if i = 0x1802 then rowsX1802 else [])
            else
              (if i < 0x1830 then
                (if i = 0x1808 then rowsX1808 else [])
              else
                (if i = 0x1830 then rowsX1830 else [])))))
      else
        (if i < 0x1C20 then
          (if i < 0x1A10 then
            (if i < 0x1A00 then
              (if 0x1840 ≤ i ∧ i < 0x1848 then rowsEc else [])
            else
              (if i = 0x1A00 then rowsX1A00 else []))
          else
            (if i < 0x1C10 then
              (if 0x1A10 ≤ i ∧ i < 0x1A14 then rowsUp else [])
            else
              (if i < 0x1C11 then
                (if i = 0x1C10 then rowsX1C10 else [])
              else
                (if i = 0x1C11 then rowsX1C11 else []))))
        else
          (if i < 0x1C30 then
            (if i < 0x1C21 then
              (if i = 0x1C20 then rowsX1C20 else [])
            else
              (if i = 0x1C21 then rowsX1C21 else []))
          else
            (if i < 0x1C40 then
              (if i = 0x1C30 then rowsX1C30 else [])
            else
              (if i < 0x2000 then
                (if i = 0x1C40 then rowsX1C40 else [])
              else
                (if 0x2000 ≤ i ∧ i < 0x2080 then rowsRx else [])))))))
  else
    (if i < 0x3440 then
      (if i < 0x2900 then
        (if i < 0x2220 then
          (if i < 0x2120 then
            (if i < 0x2100 then
              (if 0x2080 ≤ i ∧ i < 0x2100 then rowsTx else [])
            else
              (if 0x2100 ≤ i ∧ i < 0x2120 then rowsQuad else []))
          else
            (if i < 0x2200 then
              (if i = 0x2120 then rowsX2120 else [])
            else
              (if 0x2200 ≤ i ∧ i < 0x2220 then rowsMl else [])))
        else
          (if i < 0x2400 then
            (if i < 0x2230 then
              (if 0x2220 ≤ i ∧ i < 0x2230 then rowsTb else [])
            else
              (if i = 0x2230 then rowsX2230 else []))
          else
            (if i < 0x2800 then
              (if 0x2400 ≤ i ∧ i < 0x2480 then rowsIp else [])
            else
              (if i < 0x2840 then
                (if 0x2800 ≤ i ∧ i < 0x2840 then rowsCmp else [])
              else
                (if 0x2840 ≤ i ∧ i < 0x2848 then rowsEv else [])))))
      else
        (if i < 0x3080 then
          (if i < 0x3000 then
            (if i < 0x2C00 then
              (if 0x2900 ≤ i ∧ i < 0x2B40 then rowsLy else [])
            else
              (if 0x2C00 ≤ i ∧ i < 0x2C48 then rowsSr else []))
          else
            (if i < 0x3020 then
              (if 0x3000 ≤ i ∧ i < 0x3020 then rowsCs else [])
            else
              (if i < 0x3040 then
                (if 0x3020 ≤ i ∧ i < 0x3040 then rowsFrc else [])
              else
                (if 0x3040 ≤ i ∧ i < 0x3080 then rowsCp else []))))
        else
          (if i < 0x3410 then
            (if i < 0x3400 then
              (if 0x3080 ≤ i ∧ i < 0x3100 then rowsOc else [])
            else
              (if i = 0x3400 then rowsX3400 else []))
          else
            (if i < 0x3420 then
              (if 0x3410 ≤ i ∧ i < 0x3420 then rowsAr else [])
            else
              (if i < 0x3430 then
                (if 0x3420 ≤ i ∧ i < 0x3430 then rowsAt else [])
              else
                (if 0x3430 ≤ i ∧ i < 0x3438 then rowsEt else []))))))
    else
      (if i < 0x3C01 then
        (if i < 0x3806 then
          (if i < 0x3500 then
            (if i < 0x3480 then
              (if 0x3440 ≤ i ∧ i < 0x3480 then rowsCap else [])
            else
              (if 0x3480 ≤ i ∧ i < 0x34A0 then rowsPb else []))
          else
            (if i < 0x3580 then
              (if 0x3500 ≤ i ∧ i < 0x3580 then rowsEa else [])
            else
              (if i < 0x3800 then
                (if 0x3580 ≤ i ∧ i < 0x3600 then rowsEo else [])
              else
                (if i = 0x3800 then rowsX3800 else []))))
        else
          (if i < 0x3810 then
            (if i < 0x3808 then
              (if i = 0x3806 then rowsX3806 else [])
            else
              (if i = 0x3808 then rowsX3808 else []))
          else
            (if i < 0x3840 then
              (if i = 0x3810 then rowsX3810 else [])
            else
              (if i < 0x3C00 then
                (if 0x3840 ≤ i ∧ i < 0x3880 then rowsDom else [])
              else
                (if i = 0x3C00 then rowsX3C00 else [])))))
      else
        (if i < 0x5102 then
          (if i < 0x4000 then
            (if i < 0x3C10 then
              (if i = 0x3C01 then rowsX3C01 else [])
            else
              (if 0x3C10 ≤ i ∧ i < 0x3C50 then rowsFn else []))
          else
            (if i < 0x5000 then
              (if 0x4000 ≤ i ∧ i < 0x4080 then rowsRoute else [])
            else
              (if i < 0x5101 then
                (if i = 0x5000 then rowsX5000 else [])
              else
                (if i = 0x5101 then rowsX5101 else []))))
        else
          (if i < 0x5104 then
            (if i < 0x5103 then
              (if i = 0x5102 then rowsX5102 else [])
            else
              (if i = 0x5103 then rowsX5103 else []))
          else
            (if i < 0x5106 then
              (if i = 0x5104 then rowsX5104 else [])
            else
              (if i < 0x5107 then
                (if i = 0x5106 then rowsX5106 else [])
              else
                (if i = 0x5107 then rowsX5107 else [])))))))

/-- The first row that holds sub-index `s`. -/
def rowIn (s : Nat) : List Row → Option Row
  | [] => none
  | r :: l => if r.lo ≤ s ∧ s ≤ r.hi then some r else rowIn s l

/-- The row of entry `k`, none when the entry does not exist. -/
def rowOf (k : Nat) : Option Row := rowIn (k % 256) (objRows (k / 256))

/-- The reset default of entry `k` as a number (R48, R63); the function objects of function 0 differ from the others
(R634). -/
def dflt (k : Nat) : Nat :=
  if k = K.fn_QUEUE_COUNT 0 then 65536 else if k = K.fn_VF_ROLE 0 then 2 else if k = K.fn_FN_STATE 0 then 1
  else match rowOf k with
    | some r => r.dflt
    | none => 0

/-- The bytes a body entry has at reset: nothing for a DOMAIN, the ordering code (R1), the identity matrix (R352), the vendor
certificate from manufacture (R793), zeros for other OCTETS. -/
def dfltBody (k : Nat) : List Byte :=
  if k = K.x1802_IDENTITY_CERT then Config.identityCert else
  if k = K.x1000_ORDERING_CODE then [0x56, 0x58, 0x2D, 0x50, 0x4D, 0x31, 0x32, 0x38]
  else match rowOf k with
    | some r =>
      match r.ty with
      | .domain => []
      | _ =>
        if r.size = 60 then identityMatrix
        else List.replicate r.size 0
    | none => []

/-- Is the entry held as a body rather than as a number? -/
def Ty.isBody : Ty → Bool
  | .octets => true
  | .string => true
  | .domain => true
  | _ => false

/-- The type codes of R50. -/
def Ty.code : Ty → Nat
  | .bool => 1
  | .u8 => 2
  | .u16 => 3
  | .u32 => 4
  | .u64 => 5
  | .i16 => 6
  | .i32 => 7
  | .q16 => 8
  | .octets => 9
  | .string => 10
  | .domain => 11

/-- The access codes of R51. -/
def Acc.code : Acc → Nat
  | .ro => 0
  | .rw => 1
  | .wo => 2
  | .rws => 3
  | .const => 4

/-- The class codes of R51. -/
def Cls.code : Cls → Nat
  | .instant => 0
  | .staged => 1
  | .long => 2

end Sys2Proof.Machine
end

