-- ==== Sys2Proof/Machine/Store.lean ====
section
/-! DEFINITION. Sparse tables: data held by number as a list of pairs, and frame-memory bytes in one canonical form. -/

namespace Sys2Proof.Machine

/-- A sparse table: values by number, keys rising. A key that is not listed has the value its reader names. -/
abbrev Tab (α : Type) := List (Nat × α)

/-- The value listed under `n`, if any. -/
def tabFind {α : Type} : Tab α → Nat → Option α
  | [], _ => none
  | (k, v) :: r, n => if k = n then some v else tabFind r n

/-- The value under `n`, `x` when it is not listed. -/
def tabGet {α : Type} (x : α) (m : Tab α) (n : Nat) : α := (tabFind m n).getD x

/-- The table with `v` under `n`. -/
def tabSet {α : Type} (n : Nat) (v : α) : Tab α → Tab α
  | [] => [(n, v)]
  | (k, w) :: r => if n = k then (n, v) :: r else if n < k then (n, v) :: (k, w) :: r else (k, w) :: tabSet n v r

/-- The table without `n`. -/
def tabDel {α : Type} (n : Nat) : Tab α → Tab α
  | [] => []
  | (k, w) :: r => if n = k then tabDel n r else (k, w) :: tabDel n r

/-- The table with the value under `n` changed by `f`, from `x` when it is not listed. -/
def tabMod {α : Type} (x : α) (n : Nat) (f : α → α) (m : Tab α) : Tab α := tabSet n (f (tabGet x m n)) m

/-- Frame memory as (physical byte address, byte) pairs: addresses strictly rising, no entry 0x00, which is what an
unlisted address reads as (DESIGN CHOICE, log entry 5). -/
abbrev Mem := List (Nat × Byte)

/-- One byte of frame memory. -/
def memGet (m : Mem) (a : Nat) : Byte := tabGet 0 m a

/-- Frame memory with byte `b` at `a`. -/
def memSet (a : Nat) (b : Byte) (m : Mem) : Mem := if b = 0 then tabDel a m else tabSet a b m

/-- Frame memory with `bs` from address `a` on. -/
def memWrite (a : Nat) : List Byte → Mem → Mem
  | [], m => m
  | b :: r, m => memWrite (a + 1) r (memSet a b m)

/-- `n` bytes of frame memory from address `a` on. -/
def memRead (m : Mem) (a : Nat) : Nat → List Byte
  | 0 => []
  | n + 1 => memGet m a :: memRead m (a + 1) n

/-- Frame memory with the `n` bytes from `a` on reading 0x00. -/
def memClear (a n : Nat) : Mem → Mem
  | [] => []
  | (k, b) :: r => if a ≤ k ∧ k < a + n then memClear a n r else (k, b) :: memClear a n r

/-- Keys strictly rising. -/
def tabSorted {α : Type} : Tab α → Bool
  | [] => true
  | [_] => true
  | (a, _) :: (b, w) :: r => decide (a < b) && tabSorted ((b, w) :: r)

/-- The canonical form of frame memory. -/
def memWf (m : Mem) : Bool := tabSorted m && m.all fun c => decide (c.2 ≠ 0)

end Sys2Proof.Machine
end

