-- ==== Sys2Proof/Machine/State.lean ====
section
/-! DEFINITION. The state of the block: every dictionary entry, and what the chapters name beside them. -/

namespace Sys2Proof.Machine

/-- Why a step stops with a fault. -/
inductive Fault where
  /-- An operand that no event of the hardware can carry, such as a descriptor that is not 64 bytes long. Raised by the
  meaning of a command whose operands are not well formed. Safe: the hardware never sees such a command. -/
  | badOperand (what : String)
  deriving DecidableEq, Repr

/-- Why a step is refused. -/
inductive Refusal where
  /-- The model has no meaning for the command yet. Raised by `exec` alone. Safe: no claim about the command can be
  proved. -/
  | notModelled (mnemonic : String)
  deriving DecidableEq, Repr

/-! ## Events and what leaves the block -/

/-- An event record (R816). -/
structure Event where
  stc : Nat
  seq : Nat
  code : Nat
  cls : Nat
  sev : Nat
  entry : Nat
  domain : Nat
  queue : Nat
  old : Nat
  new : Nat
  detail : List Byte
  deriving DecidableEq, Repr

/-- One transaction toward the host: a write to host memory, a read of it, an MSI-X message, each with its Relaxed Ordering attribute
(R590); the answer to a read, an Unsupported Request answer or error report, a DOE response. -/
inductive HostTxn where
  | write (fn addr : Nat) (relaxed : Bool) (bytes : List Byte)
  | read (fn addr length : Nat) (relaxed : Bool)
  | msix (fn vector : Nat) (relaxed : Bool)
  | readData (fn : Nat) (bytes : List Byte) (poisoned : Bool)
  | unsupported (fn : Nat)
  | doe (bytes : List Byte)
  deriving DecidableEq, Repr

/-! ## Control paths (02) -/

/-- A staged value: its entry and its bytes; for a DOMAIN the whole staged body (R105). -/
structure Staged where
  key : Nat
  val : List Byte
  deriving DecidableEq, Repr

/-- The basting of one requester (R105, R106). -/
structure Basting where
  items : List Staged := []
  overflow : Bool := false
  deriving DecidableEq, Repr

/-- A commit that has a place in the order (R110): its slot, requester, sequence number, snapshot, the items still to
apply and the instant of entry to ARMED. `arming` is the number of the last NV record it waits for, `armFrom` of the first (R678, R685). -/
structure Commit where
  slot : Nat := 0
  req : Nat := 0
  seq : Nat := 0
  phase : Nat := 0
  validateOnly : Bool := false
  overflow : Bool := false
  snap : List Staged := []
  left : List (Nat × Staged) := []
  touched : Nat := 0
  applied : Nat := 0
  arming : Option Nat := none
  armFrom : Nat := 0
  armedAt : Ps := 0
  granted : Nat := 0
  deriving DecidableEq, Repr

/-- A segmented transfer (R95 to R100): its requester node, direction, tag, entry, offset, length, the body (to send,
or received so far), the next segment, the segments acknowledged, and the instant of its latest frame. -/
structure SegXfer where
  write : Bool
  tag : Nat
  key : Nat
  offset : Nat
  length : Nat
  body : List Byte
  next : Nat
  acked : Nat
  lastDone : Bool
  lastAt : Ps
  deriving DecidableEq, Repr

/-- The CAN FD port and the DDP engine (R83 to R100): open segmented transfers by node, frames in the transmit queue, frames sent (newest
first), the data rate in use, whether the port is in use. -/
structure DdpState where
  segs : Tab SegXfer := []
  txWait : List CanFrame := []
  sent : List CanFrame := []
  rate : Nat := 2000000
  enabled : Bool := false
  deriving DecidableEq, Repr

/-- A descriptor from its start to its retirement (R622, R632): ring index, bytes, and what its completion will say.
`status` is none while it runs; `wrote` is what a buffer has written to host memory, by address; `waits` says that its transfer has stopped for want of tokens (R187), `moved` bytes done. `need` is the NV record a completion or fence waits for. `hold` is the store or ring
slot it reads, `written` the completion write. -/
structure Descr where
  ring : Nat := 0
  bytes : List Byte := []
  status : Option Nat := none
  moved : Nat := 0
  detail : Nat := 0
  result : Nat := 0
  wrote : List (Nat × List Byte) := []
  poisoned : Bool := false
  replayed : Bool := false
  retried : Bool := false
  written : Bool := false
  waits : Bool := false
  need : Option Nat := none
  hold : Option (Nat × Nat) := none
  deriving DecidableEq, Repr

/-- How a descriptor starts: `from_` is the byte it runs from, and whether it runs again under RESUME 0x02 or replay, or goes on after a
wait for tokens; `done` is the descriptor as it finished before, when it runs again by replay. -/
structure StartInfo where
  from_ : Nat := 0
  retried : Bool := false
  replayed : Bool := false
  resumed : Bool := false
  done : Option Descr := none
  cancelled : Bool := false
  deriving DecidableEq, Repr

/-- What an access asks of the shared port of its target (R34): a write of bytes to a slot, a read of [1460:01], a mailbox command of a
descriptor that has started, a DDP request frame, or the staging of a segmented write that is complete, by its node. -/
inductive BusReq where
  | write (acc : Access) (key start : Nat) (bytes : List Byte) (sigOk : Bool)
  | readStc (acc : Access)
  | mailbox (op : Nat) (cmd : MailboxCmd) (info : StartInfo)
  | ddp (frame : List Byte)
  | stage (node : Nat)
  deriving DecidableEq, Repr

/-- An access that waits for its target: the target, the master, the CK_CTL cycle since which it waits, what it asks. -/
structure Held where
  target : Nat
  master : Nat
  since : Nat
  req : BusReq
  deriving DecidableEq, Repr

/-- What runs in a long-operation slot, beside its entries (R131 to R140): claim and end instants, the code read at
RUNNING, and the checkpoint its chapter defines. -/
structure SlotRun where
  claimedAt : Ps := 0
  endedAt : Ps := 0
  op : Nat := 0
  pos : Nat := 0
  aux : List Nat := []
  abortAsked : Bool := false
  deriving DecidableEq, Repr

/-- Commit and admission engine, slots, staging store, bus matrix records, budget governor (02, 03). `unsettled` lists the
generators whose scalers have not taken the taps and pre-decimation of the plan in force (R340), `lenders` the lender changes of outputs
whose generator the commit did not touch: generator, entry to ARMED, value (R320). Of the governor: the
latest tick, k_T in 160ths (R183), units of each kind paid and not yet done, those of host DMA by queue, with the function and the
queue of each function served last (R609), kinds stopped for want of tokens, and the
tokens issued and used in the running 100 ms (R186). Of the bus matrix: accesses that wait, oldest first, the CK_CTL cycle in which
each target's shared port was granted last, the control processor granted last (R34), masters that go first at a target (R35), and
the answers with a bus error, newest first (R39): master and address. -/
structure Ctl where
  basting : Tab Basting := []
  commits : List Commit := []
  seqNext : Nat := 1
  granted : Nat := 0
  slots : Tab SlotRun := []
  ddp : DdpState := {}
  missCycle : Option (Nat × Nat) := none
  refuseCycle : Option (Nat × Nat) := none
  preferred : List (Nat × Nat) := []
  held : List Held := []
  ports : Tab Nat := []
  procLast : Nat := 5
  busErrors : List (Nat × Nat) := []
  dryRun : Tab (List Nat) := []
  query : Tab (List Nat) := []
  qsel : Tab Nat := []
  report : Tab (List Byte) := []
  tokensAt : Ps := 0
  kT160 : Nat := 160
  paid : List Nat := [0, 0, 0, 0, 0, 0]
  hostPaid : Tab Nat := []
  hostFn : Nat := 63
  hostQ : Tab Nat := []
  stopped : List Bool := [false, false, false, false, false, false]
  shareAt : Ps := 0
  shareIssued : Nat := 0
  shareUsed : List Nat := [0, 0, 0, 0, 0, 0]
  estimateAt : Ps := 0
  unsettled : List Nat := []
  lenders : List (Nat × Ps × Staged) := []
  deriving DecidableEq, Repr

/-! ## Host attachment (11) -/

/-- A plane frame (R616): its number, size, GFX_FORMAT and bytes; `got` counts the bytes written. -/
structure PlaneFrame where
  num : Nat := 0
  w : Nat := 0
  h : Nat := 0
  fmt : Nat := 0
  data : List Byte := []
  got : Nat := 0
  deriving DecidableEq, Repr

/-- A plane ring of an import queue (R604, R616): slot size in bytes, logical pages, plane frames published, oldest first, the
one being imported, the number of the next. -/
structure PlaneRing where
  slotBytes : Nat := 0
  pages : List Nat := []
  frames : List PlaneFrame := []
  open_ : Option PlaneFrame := none
  nextNum : Nat := 1
  deriving DecidableEq, Repr

/-- A queue context and what the queue engine holds of it (R605 to R632); `shareAt` is the instant up to which its guaranteed share is
used (R609). -/
structure Queue where
  typ : Nat := 0
  sqBase : Nat := 0
  sqLog2 : Nat := 6
  cqBase : Nat := 0
  cqLog2 : Nat := 6
  vector : Nat := 0xFFFF
  holdoff : Nat := 0
  guar : Nat := 0
  target : Nat := 0
  enable : Nat := 0
  st : Nat := 0
  head : Nat := 0
  tail : Nat := 0
  cqTail : Nat := 0
  cqHead : Nat := 0
  pause : Nat := 0
  bytes : Nat := 0
  next : Nat := 0
  phase : Bool := true
  descs : List Descr := []
  retryFrom : Option (Nat × Nat) := none
  rerun : List Nat := []
  irqUntil : Option Ps := none
  irqOwed : Bool := false
  bufFirst : Option Ps := none
  eventsLost : Bool := false
  shareAt : Ps := 0
  plane : Option PlaneRing := none
  deriving DecidableEq, Repr

/-- The host interface beside its entries: queues by number, transactions toward the host (newest first), functions
that drain and why (1 an FLR or hot reset, 2 their Bus Master Enable was cleared, 3 VF Enable was cleared), and the functions whose
Enable Relaxed Ordering is clear (R590). -/
structure HostIf where
  queues : Tab Queue := []
  out : List HostTxn := []
  draining : Tab Nat := []
  strictOrder : List Nat := []
  deriving DecidableEq, Repr

/-! ## Journal, persist buffer and flash (13, 14, 16) -/

/-- A journal entry (R698). -/
structure JEntry where
  kind : Nat := 0
  jstate : Nat := 1
  scope : Nat := 4
  replays : Nat := 0
  req : Nat := 0
  opSeq : Nat := 0
  stc : Nat := 0
  unit : Nat := 0
  ref : Nat := 0
  checkpoint : Nat := 0
  pin : Nat := 0
  deriving DecidableEq, Repr

/-- A record of the NV store (R713 to R717): key, SEQ, part number, LAST, COMMIT_SEQ of a configuration payload (0
otherwise) and payload. While it waits to drain, it is one record with the whole body. -/
structure NvRec where
  key : Nat := 0
  seq : Nat := 0
  part : Nat := 0
  last : Bool := true
  commitSeq : Nat := 0
  payload : List Byte := []
  deriving DecidableEq, Repr

/-- What waits to drain: a record, or a slot-ring value (R726). `cost` is its occupancy in bytes (R720), `inBuf` says that
the persist buffer has taken it (R685). -/
structure PbItem where
  id : Nat := 0
  slotRing : Option Nat := none
  recd : NvRec := {}
  cost : Nat := 0
  inBuf : Bool := false
  deriving DecidableEq, Repr

/-- A sector in use of a ring (R712): its place, generation, SECTOR_SEQ, records oldest first, bytes used, closed; and a record whose
program lost power, with the number of its bytes that were reached (R727). -/
structure Sector where
  place : Nat := 0
  gen : Nat := 0
  seq : Nat := 0
  recs : List NvRec := []
  used : Nat := 32
  closed : Bool := false
  torn : Option (NvRec × Nat) := none
  deriving DecidableEq, Repr

/-- One ring of sectors: sectors in use from tail to head, places freed whose erase has not ended, bad places, erase counts
and failures in a row by place (R724), the generation and the place and SECTOR_SEQ of the next sector. -/
structure Ring where
  used : List Sector := []
  pend : List Nat := []
  bad : List Nat := []
  erases : Tab Nat := []
  fails : Tab Nat := []
  gen : Nat := 0
  nextPlace : Nat := 0
  nextSeq : Nat := 1
  deriving DecidableEq, Repr

/-- A boot ledger entry (R778); `reset` marks an entry SUMR with its STEP_MASK (R798). -/
structure LedgerEntry where
  reset : Bool := false
  mask : Nat := 0
  startSeq : Nat := 0
  cause : Nat := 1
  slot : Nat := 0
  plan : List Nat := []
  outcome : List (Option Nat) := []
  abort : Bool := false
  deriving DecidableEq, Repr

/-- A firmware slot as its header describes it (R783); `valid` says that header, digest and vendor signatures hold. -/
structure FwSlot where
  present : Bool := false
  valid : Bool := false
  version : Nat := 0
  svn : Nat := 0
  digest : List Byte := []
  ownerSigned : Bool := false
  ownerKey : List Byte := []
  deriving DecidableEq, Repr

/-- The flash and the persist path. Rings are 0 record store A, 1 record store B, 2 tables A, 3 tables B. `tornSlots` are slots of slot-ring
values whose program lost power: the value bytes and the number of bytes reached (R725, R727). -/
structure Nv where
  buf : List PbItem := []
  nextId : Nat := 1
  nextSeq : Nat := 1
  posRec : Nat := 0
  posTab : Nat := 0
  rings : Tab Ring := []
  toCopy : List (Bool × NvRec) := []
  slotVals : Tab (List Byte) := []
  slotSeqs : Tab Nat := []
  tornSlots : Tab (List Byte × Nat) := []
  ledger : List LedgerEntry := []
  bootCfg : List Nat := [0, 0xFF, 0, 0, 110]
  fw : Tab FwSlot := []
  faults : List Event := []
  restartCause : Nat := 0
  lastStop : Nat := 0
  volatileOnly : Bool := false
  deriving DecidableEq, Repr

/-- A user partition beside its entries (R739 to R743): SALT and HASH of its password, requesters that unlocked it, end
of a back-off and its length. -/
structure UserPart where
  salt : List Byte := []
  hash : List Byte := []
  unlocked : List Nat := []
  backoffEnd : Option Ps := none
  backoffLen : Nat := 0
  deriving DecidableEq, Repr

/-- The operation journal (R697 to R703). -/
structure Journal where
  entries : List JEntry := []
  nextSeq : Nat := 1
  deriving DecidableEq, Repr

/-- Power inputs and the flush in progress (R680 to R696): the latest ten bulk voltages in mV x 2^28, the window figures of the
latest 100 ms, t0 of the flush with the bytes to drain and the cause (0 PFAIL_N or a rail, 1 orderly stop, 2 RESET_N, 3 PERST#,
4 internal restart), failed programs of its drain, the PSAFE pin, a reset that waits for PSAFE, THERM_TRIP_N to be driven with
PSAFE and as driven, clocks stopped under R765. -/
structure Power where
  vb : List Nat := []
  sampleAt : Ps := 0
  figs : List (Ps × Nat) := []
  reserveAt : Ps := 0
  flush : Option (Ps × Nat × Nat) := none
  flushFails : Nat := 0
  psafe : Bool := false
  resetOwed : Option Nat := none
  tripOwed : Bool := false
  thermTrip : Bool := false
  stopped : Bool := false
  deriving DecidableEq, Repr

/-- What OTP holds (R790 to R793): LIFECYCLE, OWNER_POLICY, OWNER_SLOTS and the counter as [1800] reports them, and the
OWNER_KEY_ID of each enrolled slot that is not revoked. -/
structure Otp where
  lifecycle : Nat := 2
  policy : Nat := 0
  slots : Nat := 0
  svn : Nat := 0
  keys : Tab (List Byte) := []
  deriving DecidableEq, Repr

/-- The start in progress (R767 to R782): held in reset by RESET_N or PERST#, the reset scope and compatibility mode in force,
the node ID sampled; whether boot has begun; S01 or S02 held; t0; start of the step; the cause of the start to come; when
operation 0x0010 was done in RECOVERY; fuses not read; TRY_SLOT as S05 cleared it; identity keys; the image that runs; the
committed configuration that S13 read; whether COMPAT_REQUEST is taken at this start (R2). -/
structure Boot where
  resetN : Bool := false
  perst : Bool := false
  scope : Nat := 0
  compat : Nat := 0
  nodeId : Nat := 0
  started : Bool := false
  held : Bool := false
  t0 : Ps := 0
  stepAt : Ps := 0
  nextCause : Option Nat := none
  opDone : Option Ps := none
  fuseFail : Bool := false
  tryUsed : Option Nat := none
  keys : Bool := false
  fwDigest : List Byte := []
  fwSvn : Nat := 0
  fwVersion : Nat := 0
  otp : Otp := {}
  restored : List Staged := []
  compatDue : Bool := false
  deriving DecidableEq, Repr

/-! ## Serial lanes (04) -/

/-- The built-in equalisation profile (R221) in the layout of R218. -/
def builtinProfile : List Byte := [1, 8, 12, 0, 0, 0, 0, 0, 12, 16, 0, 8, 0, 0, 0, 0]

/-- A receiver beside its entries: the rate of its last LOCKED state (R199), when its candidate and ALIGN began, when its debounce times
end (R201), when raw LOL last changed, headers or EAVs in a row that fit, that miss and that are foreign, its receive profile, the raw
detectors of its balls (true: asserted), the loop and the checker last reported (R230), and since when its checker counts (R229). -/
structure Rx where
  lastLocked : Nat := 0
  candAt : Ps := 0
  alignAt : Ps := 0
  losDue : Ps := 0
  lolDue : Ps := 0
  lolClearAt : Ps := 0
  good : Nat := 0
  miss : Nat := 0
  foreign : Nat := 0
  profile : List Byte := builtinProfile
  ballLos : Bool := true
  ballLol : Bool := true
  loop : Nat := 0
  check : Nat := 0
  prbsAt : Ps := 0
  deriving DecidableEq, Repr

/-- A transmitter beside its entries: t0 of its squelch by a PLL and that PLL's family (R207), since when it reads SQUELCHED, whether
its interpolator is realigned, whether it was in TEST, the drive it uses, one that a tie transmitter takes at an instant to come
(R222), and the test pattern last reported, its start and the bits of it inverted so far (R206, R230). -/
structure Tx where
  squelchAt : Option Ps := none
  sqFamily : Nat := 0
  sqSince : Ps := 0
  realigned : Bool := false
  wasTest : Bool := false
  drive : List Byte := builtinProfile
  driveNext : Option (Ps × List Byte) := none
  test : Nat := 0
  testAt : Ps := 0
  inverted : List Nat := []
  deriving DecidableEq, Repr

/-- A lane quad beside its entries: t0 of the relock of its integer and its /1.001 PLL (R207). -/
structure Quad where
  intAt : Option Ps := none
  fracAt : Option Ps := none
  deriving DecidableEq, Repr

/-- A tie bundle beside its entries (R240 to R249): since when it sends; of each lane its BLOCK position, the blocks kept for deskew (BLOCK
and payload, none for a bad CRC), whether it is deskewed, lost, its erased and good runs, its arrival in ns; the front of the
deskewed lanes; the payload rebuilt last; whether the bundle has been UP or UP_DEGRADED since enable; and the channels whose frame in
progress lost data. -/
structure TieBundle where
  sendFrom : Ps := 0
  place : List (Option Nat) := [none, none, none, none, none]
  bufs : List (List (Nat × Option (List Byte))) := [[], [], [], [], []]
  deskewed : List Bool := [false, false, false, false, false]
  lost : List Bool := [false, false, false, false, false]
  erased : List Nat := [0, 0, 0, 0, 0]
  good : List Nat := [0, 0, 0, 0, 0]
  skew : List Nat := [0, 0, 0, 0, 0]
  front : Nat := 0
  rebuilt : List Byte := []
  beenUp : Bool := false
  dataLost : List Nat := []
  deriving DecidableEq, Repr

structure Lanes where
  rx : Tab Rx := []
  tx : Tab Tx := []
  quad : Tab Quad := []
  tie : Tab TieBundle := []
  deriving DecidableEq, Repr

/-! ## Frames, stores, timing generators and routes (05, 12) -/

/-- A frame as a store holds it (R265): its number in the store, its place among those published, its stamp in whole nanoseconds, the instant of its frame
boundary and its period, its format word, ATC timecodes, payload ID, damaged lines, provenance map (one class per
64 × 64 tile, R429), MARK flag (R446), and pixels. `origStamp` is the sender's stamp of a tie channel, `inputs` the inputs that a composed frame shows (R842). -/
structure Frame where
  num : Nat := 0
  ord : Nat := 0
  stamp : Nat := 0
  startAt : Ps := 0
  periodPs : Nat := 0
  format : Nat := 0
  ltc : Nat := 0
  vitc : Nat := 0
  payload : Nat := 0
  damaged : List Nat := []
  map : List Nat := []
  mark : Bool := false
  origStamp : Nat := 0
  inputs : List Nat := []
  pic : Picture := []
  deriving DecidableEq, Repr

/-- A ring of frame slots (R272 to R276): published frames oldest first, the frame written and not yet published, the
frame in progress by number, start and period, whether it has a slot (R273), frames published in all, the last complete frame (R314),
and the logical pages of its slots. -/
structure Store where
  depth : Nat := 0
  frames : List Frame := []
  pending : Option Frame := none
  prog : Option (Nat × Ps × Nat) := none
  room : Bool := false
  nextNum : Nat := 1
  pubs : Nat := 0
  complete : Option Frame := none
  pages : List Nat := []
  deriving DecidableEq, Repr

/-- An input pipeline beside its entries: the run of frames of one structure (R262), the structure, whether the events of
R258 and R260 were raised, the run of frames within the skew limit (R308), links whose payload ID names another link (R307), frame
boundaries of the latest second by generator, newest first, with their phase in ps, while the periods agree (R281), the input as a lock
reference: since when its frames qualify, its latest accepted boundary and its period, the odd boundary and the extra ones since (R653,
R655); its latest boundary, and the state from which a signal was lost whose cut frame has not come yet (R270). -/
structure Inp where
  run : Nat := 0
  struct : Nat := 0
  badEvent : Bool := false
  mismatch : Bool := false
  skewed : Bool := false
  skewGood : Nat := 2
  mlWrong : List Nat := []
  lockHist : Tab (List (Ps × Int)) := []
  refSince : Ps := 0
  refLast : Ps := 0
  refPeriod : Ps := 0
  oddAt : Option Ps := none
  extra : Bool := false
  extraIntervals : Nat := 0
  lastBoundary : Ps := 0
  cut : Bool := false
  lostFrom : Nat := 0
  deriving DecidableEq, Repr

/-- A timing generator beside its entries (R656 to R667): the instant of its latest seam, the frequency against the root
in ppb that it follows or holds, without slew, and since when; the slew offset it goes to; the frequency and the offset it had at an
instant, from which it moves on (R657); whether the input it follows is LOCKED as a reference (R655), since when it reads LOCKED, the times it
read LOCKED with their frequency, the phase error, the realignment that waits (m and the instant of evaluation), the
alignment point, the entry to bivouac. -/
structure Tg where
  lastSeam : Ps := 0
  freqPpb : Int := 0
  freqSince : Ps := 0
  offPpb : Int := 0
  runFrom : Int := 0
  offFrom : Int := 0
  runAt : Ps := 0
  inLocked : Bool := false
  lockedSince : Option Ps := none
  hist : List (Ps × Ps × Int) := []
  err : Int := 0
  realign : Option (Nat × Ps × Int) := none
  extraLines : Nat := 0
  alignAt : Option Ps := none
  bivouacAt : Option Ps := none
  deriving DecidableEq, Repr

/-- What an output shows from its latest seam on: 0 fill, 1 a source frame, 2 black, 3 a swatch. A frame is named by
store and number; `frame` is its content where it stands in no ring (direct path, converter) or is frozen, then as it was shown. `again`
marks a repeat or freeze, `frozen` a freeze, `subst` that SUBST_FRAMES has counted this output frame, `seams` is [tg:06] at the seam. -/
structure Shown where
  what : Nat := 0
  store : Nat := 0
  num : Nat := 0
  frame : Option Frame := none
  again : Bool := false
  frozen : Bool := false
  subst : Bool := false
  seams : Nat := 0
  deriving DecidableEq, Repr

/-- A route beside its entries (R294 to R306): its source, what is shown, the order key of the frame selected at the latest
seam and of the latest selection, the last frame shown since the source changed, as shown, with its store and number, frames frozen so far,
second of the last
COUNT_REPORT and counts in it, and whether the low-latency offset may be in force (R302). -/
structure Route where
  src : Nat := 0
  shown : Shown := {}
  sel : Option Nat := none
  lastSel : Option Nat := none
  last : Option Frame := none
  lastRef : Nat × Nat := (0, 0)
  frozenFor : Nat := 0
  second : Option Nat := none
  inSecond : Nat := 0
  ll : Bool := true
  deriving DecidableEq, Repr

/-- A frame-rate converter beside its entries (R355 to R364): its source, frames selected at the latest seam, frames written
unchanged, seams until its first frame, the frame produced for the latest seam, tiles refined for the next one. -/
structure Conv where
  src : Nat := 0
  sel : Option Nat := none
  lastSel : Option Nat := none
  wrote : List Nat := []
  wait : Nat := 0
  out : Option Frame := none
  refined : List Nat := []
  num : Nat := 0
  fallback : Bool := false
  deriving DecidableEq, Repr

/-- A layer beside its entries (R388 to R410): its source, the order key of the frame selected at the latest seam and of the
latest selection, the last complete frame with its place, frames frozen so far, the latest plane frame shown, and the
second of the latest event of R410. -/
structure LayerSt where
  src : Nat := 0
  sel : Option Nat := none
  lastSel : Option Nat := none
  whole : Option (Nat × Frame) := none
  frozen : Nat := 0
  plane : Option Nat := none
  second : Option Nat := none
  inSecond : Nat := 0
  deriving DecidableEq, Repr

/-- What one layer presents to a composition: its position, 1 source, 2 frozen or 3 fill, the store and number of its source
frame, its content when it stands in no ring, whether it is a repeat and whether it is counted as substituted, and the input that a layer of
kind INPUT shows (R842). -/
structure LayerJob where
  layer : Nat := 0
  what : Nat := 3
  store : Nat := 0
  num : Nat := 0
  frame : Option Frame := none
  again : Bool := false
  subst : Bool := false
  input : Option Nat := none
  deriving DecidableEq, Repr

/-- A composition from its seam to its end (R369): the stamp, when it leaves, [tg:06] at the seam, the layers; `rep` marks a seam
at which the frame composed before is repeated (R760). -/
structure Job where
  seam : Nat := 0
  stamp : Nat := 0
  leaves : Ps := 0
  seams : Nat := 0
  layers : List LayerJob := []
  rep : Bool := false
  deriving DecidableEq, Repr

/-- A signature region beside its entries (R440 to R447): results other than MATCH in a row, MATCH results in a row that
count, whether its action is in force and released. -/
structure RegionRun where
  bad : Nat := 0
  good : Nat := 0
  acting : Bool := false
  released : Bool := false
  deriving DecidableEq, Repr

/-- A compositor beside its entries: the composition that runs, its frame once it has ended, the frame composed before, the
frame that leaves on the direct path, the frame composed last, seams since it reads STARTING, its settings that start it anew (R376), the next frame number, its regions,
and the freeze reference (R443). -/
structure Comp where
  job : Option Job := none
  done : Option Frame := none
  ready : Option Frame := none
  out : Option Frame := none
  lastOut : Option Frame := none
  starting : Option Nat := none
  setup : List Nat := []
  num : Nat := 1
  regions : Tab RegionRun := []
  freezeRef : Option Nat := none
  deriving DecidableEq, Repr

/-- A coefficient set in LOADING (R334): its old body, the new one, the slot, users at the completion point, and users that
have not switched. -/
structure SetLoad where
  old : List Byte := []
  slot : Nat := 0
  users : Nat := 0
  left : List (Nat × Ps) := []
  deriving DecidableEq, Repr

/-- Frame stores by number: input p, 0x100 + compositor, 0x200 + converter; the slots each reading unit holds, by unit key
(R275), and for a unit that reads to a known instant that instant. -/
structure Video where
  stores : Tab Store := []
  holds : Tab (List (Nat × Nat)) := []
  holdEnds : Tab Ps := []
  inp : Tab Inp := []
  tg : Tab Tg := []
  route : Tab Route := []
  conv : Tab Conv := []
  layer : Tab LayerSt := []
  comp : Tab Comp := []
  sets : Tab SetLoad := []
  deriving DecidableEq, Repr

/-- Clocks beside their entries (R641 to R655, R670 to R675): t0 of each relock, XTAL_IN return, pulses of the genlock
reference: instant of the latest accepted pulse, an early or late pulse seen once, an extra pulse in the latest interval and the
intervals with one in a row, start of qualification, code of the frequency found; STC rate target and slew start. -/
structure Clocks where
  relockAt : Tab Ps := []
  xtalBackAt : Option Ps := none
  lastPulse : Option Ps := none
  oddPulse : Option Ps := none
  extra : Bool := false
  extraIntervals : Nat := 0
  qualifySince : Ps := 0
  clkFound : Nat := 0
  everSteered : Bool := false
  slewStart : Ps := 0
  slewFrom : Int := 0
  slewTo : Int := 0
  ptmAt : Ps := 0
  deriving DecidableEq, Repr

/-- What a reference pulse is (R653). -/
inductive Pulse where
  | inPlace (periods extras : Nat)
  | jump
  | late
  | glitch (extra : Bool)
  deriving DecidableEq, Repr

/-! ## Frame memory (10) -/

/-- A page table entry (R553). -/
structure Pte where
  lockSeq : Nat := 0
  gen : Nat := 0
  okind : Nat := 0
  onum : Nat := 0
  dom : Nat := 0
  cls : Nat := 0
  poisonAll : Bool := false
  lock : Bool := false
  x : Bool := false
  w : Bool := false
  r : Bool := false
  v : Bool := false
  ppn : Nat := 0
  deriving DecidableEq, Repr

/-- A page retirement in progress (R548): the logical page and the spare that takes over. -/
structure PageCopy where
  lpn : Nat := 0
  spare : Nat := 0
  deriving DecidableEq, Repr

/-- Frame memory beside its entries: the page table by LPN, the free pages (a list, then every number from a cursor on),
spares used, retirements in progress and waiting (R548, R550), the poison table and suspect list as granule numbers PPN x
1024 + granule (R545, R547), pages of each window in order (R570), pages freed and not yet FREE with the store and frame
number that readers may hold (R563), patrol position, start and hours of the present pass (R586), units that met poison or a fault in their present frame
(R552), lines that failed in the present frame of a unit (kind x 65536 + number, 2^24 more for a write), and the unit kind
of a fault recorded in the present CK_CTL cycle (R584). -/
structure FrameMem where
  pt : Tab Pte := []
  freeLpn : List Nat := []
  nextLpn : Nat := 0
  freePpn : List Nat := []
  nextPpn : Nat := 5440
  spareFree : List Nat := []
  nextSpare : Nat := 4416
  copies : Tab PageCopy := []
  waiting : List Nat := []
  poison : List Nat := []
  suspects : List Nat := []
  windows : Tab (List Nat) := []
  freeing : Tab (Nat × Nat) := []
  patrolPos : Nat := 0
  passStart : Ps := 0
  passHours : Nat := 24
  lagging : Bool := false
  met : List Nat := []
  bad : List (Nat × Nat) := []
  faultCycle : Option (Nat × Nat) := none
  deriving DecidableEq, Repr

/-! ## Thermal management (15) -/

/-- What the thermal unit holds beside its entries: latest samples with their instants, for each of T_WARN, T_SLOW, T_CRIT,
T_TRIP and the rate-of-rise limit and each sensor the runs of samples toward entry and exit (R754), what is entered, the
run of quiet samples (R747), the end of the grace time, the latest step change, and whether a step was enforced under the
request in force (R761). -/
structure Thermal where
  samples : List (Ps × List (Option Int)) := []
  dwell : List (List (Nat × Nat)) := []
  entered : List Bool := [false, false, false, false, false]
  quiet : Nat := 0
  graceEnd : Ps := 0
  stepAt : Ps := 0
  enforced : Bool := false
  deriving DecidableEq, Repr


/-! ## Fault handling (17) -/

/-- A recovery in progress of one unit (R799 to R804): the instant it started, whether its commit point passed, its cause, and the
unit whose recovery was in progress when it started (R14; 0 none). Units: 0x000 + block sub-index of [1012], 0x100 + region,
0x200 the chip. -/
structure Recov where
  startedAt : Ps := 0
  committed : Bool := false
  cause : Nat := 0
  fromUnit : Nat := 0
  deriving DecidableEq, Repr

/-- Recoveries in progress, and the instants at which each unit started one (R803), newest first. -/
structure FaultState where
  recov : Tab Recov := []
  restarts : Tab (List Ps) := []
  deriving DecidableEq, Repr
/-! ## Evidence chains (08) -/

/-- A record of a chain that is not exported and freed: its SEQ and bytes, the logical pages of its frame, its pixels, and the
MANIFEST_SEQ of the manifest that covers it. -/
structure Cairn where
  seq : Nat := 0
  bytes : List Byte := []
  pages : List Nat := []
  pic : Picture := []
  sealed : Option Nat := none
  exported : Bool := false
  deriving DecidableEq, Repr

/-- A signed manifest that stands in the record area; `sent` says that an export has written it. -/
structure Manifest where
  seq : Nat := 0
  bytes : List Byte := []
  sent : Bool := false
  deriving DecidableEq, Repr

/-- A manifest between its boundary and its second signature (R465, R474): its bytes 0 to 159, the boundary, the slot of a
forced seal, the highest SEQ it covers. -/
structure Sealing where
  seq : Nat := 0
  head : List Byte := []
  boundary : Ps := 0
  slot : Option Nat := none
  upTo : Nat := 0
  deriving DecidableEq, Repr

/-- Missed seams not yet in a GAP record (R457, R458): reason, count, stamps of the first and the last. -/
structure Gap where
  reason : Nat := 1
  count : Nat := 0
  first : Nat := 0
  last : Nat := 0
  deriving DecidableEq, Repr

/-- An evidence chain beside its entries. `nextSeq`, `digest`, `nextMan`, `manDigest`, `startSeq` and `exportedTo` are the persisted
state (R475), `formed` says that it exists. `pending` is the CHAIN_START that precedes the next record: cause, digest of the
power-loss record, first and last SEQ lost. `epoch` signs the chain, `opened` is STC_OPEN of the interval, `records` and
`manifests` stand in the record area (pages `area`). Frame pages: `pool` in order, `free` of them unlocked and not reserved, `taken`
reserved for the frame being composed. `reserved` is the room of R856, `boundary` the latest seal boundary. -/
structure Chain where
  formed : Bool := false
  nextSeq : Nat := 0
  digest : List Byte := []
  nextMan : Nat := 0
  manDigest : List Byte := []
  startSeq : Nat := 0
  exportedTo : Nat := 0
  pending : Option (Nat × List Byte × Nat × Nat) := some (1, [], 0, 0)
  epoch : Nat := 0
  enabled : Bool := false
  opened : Nat := 0
  records : List Cairn := []
  manifests : List Manifest := []
  sealing : List Sealing := []
  gap : Option Gap := none
  area : List Nat := []
  pool : List Nat := []
  free : List Nat := []
  taken : List Nat := []
  reserved : Bool := false
  boundary : Nat := 0
  deriving DecidableEq, Repr

/-- The evidence unit: chains 0 to 7, the newest KEY_EPOCH (R789), the salt that each epoch began with (R787), the SEQ and digest of the
power-loss series. -/
structure Evid where
  chains : Tab Chain := []
  epoch : Nat := 0
  salts : Tab Nat := []
  lossSeq : Nat := 0
  lossDigest : List Byte := []
  deriving DecidableEq, Repr

/-! ## Audio (09) -/

/-- One crosspoint sample: its instant in its plane (log entry 17), its value, and whether it is valid. -/
structure Smp where
  k : Nat := 0
  v : Int := 0
  ok : Bool := true
  deriving DecidableEq, Repr

/-- A source that shares one clock, beside its entries: an embedded group (port × 8 + group), receiver 0x1000 + a, stream
0x2000 + n. Present; latest packet; packets in the running frame and frames in a row with packets; muted; converting; the
instant at which its ramp from zero starts; a crossfade between bypass and conversion by its first instant, true when it
leaves conversion; since when it is asynchronous. -/
structure AudioUnit where
  present : Bool := false
  lastAt : Ps := 0
  seen : Bool := false
  run : Nat := 0
  muted : Bool := false
  conv : Bool := false
  fade : Option Nat := none
  cross : Option (Nat × Bool) := none
  asyncAt : Ps := 0
  deriving DecidableEq, Repr

/-- An AES3 receiver beside its entries: its previous rate, the bits of the running block newest first, whether the block
began with preamble Z, its first sample time, frames in error in a row. -/
structure AesRx where
  lastRate : Nat := 0
  c1 : List Bool := []
  c2 : List Bool := []
  u1 : List Bool := []
  u2 : List Bool := []
  inBlock : Bool := false
  blockAt : Nat := 0
  deriving DecidableEq, Repr

/-- An AES3 transmitter beside its entries (R520 to R524): 0 off, 1 the zero block of a start, 2 data, 3 the block that ramps to
zero, 4 the zero block of a stop; the rate, plane and sources in force, the sources before, the stamp of the running block. -/
structure AesTx where
  phase : Nat := 0
  rate : Nat := 0
  plane : Nat := 0
  src : List Nat := [0xFFFF, 0xFFFF]
  was : List Nat := [0xFFFF, 0xFFFF]
  mode : Nat := 0
  template : List Byte := []
  stamp : Nat := 0
  deriving DecidableEq, Repr

/-- A capture stream beside its entries (R529): first instant of the running block, ends of blocks by seams, BLOCK_SEQ, whether
blocks were discarded, and the settings in force with the sources before and since when. -/
structure CapSt where
  next : Nat := 0
  ends : List Nat := []
  seq : Nat := 0
  lost : Bool := false
  plane : Nat := 0
  packing : Nat := 0
  channels : Nat := 2
  src : List Nat := []
  was : List Nat := []
  since : Nat := 0
  deriving DecidableEq, Repr

/-- A playback stream beside its entries (R530 to R533): the latest instant published, none before the first. -/
structure PlaySt where
  until_ : Option Nat := none
  deriving DecidableEq, Repr

/-- An embedder beside its entries (R503 to R507): sources in force and before, channels removed, the instant of the change, the
samples omitted (repeated when negative) before and after the latest slip with its instant, since when the computed delay
departs, the route source the delay belongs to. -/
structure EmbedSt where
  src : List Nat := []
  was : List Nat := []
  removed : Nat := 0
  since : Nat := 0
  shift : Int := 0
  shiftWas : Int := 0
  shiftAt : Nat := 0
  departs : Option Ps := none
  routed : Nat := 0
  delayWas : Nat := 0
  delayAt : Nat := 0
  deriving DecidableEq, Repr

/-- The audio unit: samples of each source code, newest first; units; the frequency of the audio clock in ppb against the root,
with its value when it began to follow the present one. -/
structure Audio where
  feed : Tab (List Smp) := []
  unit : Tab AudioUnit := []
  rx : Tab AesRx := []
  tx : Tab AesTx := []
  cap : Tab CapSt := []
  play : Tab PlaySt := []
  embed : Tab EmbedSt := []
  ppbFrom : Int := 0
  ppbTo : Int := 0
  slewAt : Ps := 0
  deriving DecidableEq, Repr


/-! ## The whole state -/

/-- Everything of the block but frame memory and the command queue. `now` is device time (DESIGN CHOICE, log entry 1), `stcFp`
the STC in units of 2^-48 ns (R670), `stcRun` whether it runs. `od` holds the entries of at most 8 bytes, `body` the
others, `free` counts free values (log entry 3). -/
structure Dev where
  now : Ps := 0
  stcFp : Nat := 0
  stcRun : Bool := false
  od : Tab Nat := []
  body : Tab (List Byte) := []
  evLog : List Event := []
  evSeq : Nat := 0
  evClearedAt : Nat := 0
  oldFaults : List Event := []
  free : Nat := 0
  ctl : Ctl := {}
  host : HostIf := {}
  nv : Nv := {}
  user : Tab UserPart := []
  jr : Journal := {}
  power : Power := {}
  boot : Boot := {}
  lanes : Lanes := {}
  video : Video := {}
  clk : Clocks := {}
  flt : FaultState := {}
  fm : FrameMem := {}
  therm : Thermal := {}
  ev : Evid := {}
  aud : Audio := {}
  deriving DecidableEq, Repr

/-- The block: commands that wait, first in first out; frame memory by physical byte address; everything else. -/
structure State where
  pending : List Instr
  mem : Mem
  dev : Dev
  deriving DecidableEq, Repr

/-- The machine right after reset: no command waits, nothing is listed in memory, every entry has its default (R63) and
boot is at step S01 ([1C40:04] reads 0x01, [1001:01] reads 0x00). -/
def State.reset : State := { pending := [], mem := [], dev := {} }

end Sys2Proof.Machine
end

