-- ==== Sys2Proof/Machine/Ops.lean ====
section
/-! DEFINITION. Shared operations: entries, time, events, host transactions, the persist path, the journal and the
long-operation slots. -/

namespace Sys2Proof.Machine

/-! ## Entries -/

/-- The number an entry holds (R48, R63). -/
def rd (d : Dev) (k : Nat) : Nat := (tabFind d.od k).getD (dflt k)

/-- The block with number `v` in entry `k`. -/
def wr (k v : Nat) (d : Dev) : Dev := { d with od := tabSet k v d.od }

/-- The body an entry holds. -/
def rdB (d : Dev) (k : Nat) : List Byte := (tabFind d.body k).getD (dfltBody k)

/-- The block with body `v` in entry `k`. -/
def wrB (k : Nat) (v : List Byte) (d : Dev) : Dev := { d with body := tabSet k v d.body }

/-- Is an entry of BOOL or flag kind true? -/
def on (d : Dev) (k : Nat) : Bool := rd d k != 0

/-- One more in an entry of `w` bits that saturates. -/
def incSat (w k : Nat) (d : Dev) : Dev := wr k (Nat.min (rd d k + 1) (2 ^ w - 1)) d

/-- `n` more in an entry of `w` bits that saturates. -/
def addSat (w k n : Nat) (d : Dev) : Dev := wr k (Nat.min (rd d k + n) (2 ^ w - 1)) d

/-- One more in a 64-bit count. -/
def inc64 (k : Nat) (d : Dev) : Dev := wr k ((rd d k + 1) % 2 ^ 64) d

/-- Zero in each of the entries. -/
def clearAll (ks : List Nat) (d : Dev) : Dev := ks.foldl (fun d k => wr k 0 d) d

/-- `f` on the block where `c` holds. -/
def onlyIf (c : Bool) (f : Dev → Dev) (d : Dev) : Dev := if c then f d else d

/-- `f` for each member of a list, in order. -/
def forAll {α : Type} (l : List α) (f : α → Dev → Dev) (d : Dev) : Dev := l.foldl (fun d a => f a d) d

/-! ## Time -/

/-- The rate of the STC against nominal, in ppb (R671). -/
def stcRate (d : Dev) : Int := sx 32 (rd d K.x1460_STC_RATE_PPB)

/-- The rate that a slew of the STC has reached at `t`: it moves by at most 1 ppm per second (R671). -/
def slewRateAt (d : Dev) (t : Ps) : Int :=
  let c := d.clk
  let m : Int := ((t - c.slewStart) * 1000 / 1000000000000 : Nat)
  if c.slewFrom ≤ c.slewTo then min (c.slewFrom + m) c.slewTo else max (c.slewFrom - m) c.slewTo

/-- Device time moves on to `t` and the STC with it (R670); time never runs backward. -/
def advance (t : Ps) (d : Dev) : Dev :=
  let n := max d.now t
  let r : Int :=
    if rd d K.x1460_STC_STATE = 2 then (slewRateAt d d.now + slewRateAt d n) / 2 else stcRate d
  { d with
    now := n
    stcFp := if d.stcRun then d.stcFp + (n - d.now) * 2 ^ 48 * (1000000000 + r).toNat / 1000000000000 else d.stcFp }

/-- The STC in whole nanoseconds. -/
def stcNs (d : Dev) : Nat := d.stcFp / 2 ^ 48 % 2 ^ 64

/-- The STC in whole nanoseconds at instant `t`, earlier or yet to come, as its present rate or slew gives it (R265, R670). -/
def stcAt (d : Dev) (t : Ps) : Nat :=
  let r : Int := if rd d K.x1460_STC_STATE = 2 then (slewRateAt d (min t d.now) + slewRateAt d (max t d.now)) / 2 else stcRate d
  let k : Int := (1000000000 + r) * 2 ^ 48
  let fp : Int := (d.stcFp : Int) + (if d.stcRun then ((t : Int) - (d.now : Int)) * k / 1000000000000 else 0)
  (fp / 2 ^ 48 % 2 ^ 64).toNat

/-- The 16-bit fraction of the STC. -/
def stcFrac (d : Dev) : Nat := d.stcFp / 2 ^ 32 % 2 ^ 16

/-- A free value and the block with the next one in line (log entry 3). -/
def fresh (d : Dev) : Nat × Dev := ((Config.freeValue d.free).toNat, { d with free := d.free + 1 })

/-- Microseconds, milliseconds and seconds in picoseconds. -/
def us (n : Nat) : Ps := n * 1000000

def ms (n : Nat) : Ps := n * 1000000000

def sec (n : Nat) : Ps := n * 1000000000000

/-! ## Requesters and functions -/

/-- The requester ID (R54, R55). -/
def reqId : Requester → Nat
  | .pcie f => f.val
  | .ddp n => 0x1000 + n.val
  | .internal s => 0x2000 + s.val

/-- Is it a PCIe requester? -/
def isPcie (r : Nat) : Bool := decide (r < 0x1000)

/-- The function that owns queue `q` (R607). -/
def qFnFrom (d : Dev) (q : Nat) : Nat → Nat → Option Nat
  | 0, _ => none
  | n + 1, f =>
    let a := rd d (K.fn_QUEUE_FIRST f)
    if a ≤ q ∧ q < a + rd d (K.fn_QUEUE_COUNT f) then some f else qFnFrom d q n (f + 1)

def qFn (d : Dev) (q : Nat) : Option Nat := qFnFrom d q 64 0

/-- A queue context (R605). -/
def queue (d : Dev) (q : Nat) : Queue := tabGet {} d.host.queues q

/-- The block with queue `q` changed. -/
def modQ (q : Nat) (f : Queue → Queue) (d : Dev) : Dev :=
  { d with host := { d.host with queues := tabMod {} q f d.host.queues } }

/-- One more transaction toward the host. -/
def toHost (x : HostTxn) (d : Dev) : Dev := { d with host := { d.host with out := x :: d.host.out } }

/-- The Relaxed Ordering attribute of a function's DMA data writes and reads (R590). -/
def relaxedOk (d : Dev) (fn : Nat) : Bool := !d.host.strictOrder.contains fn

/-- Data is written to host memory for a function. -/
def dmaWrite (fn addr : Nat) (bytes : List Byte) (d : Dev) : Dev := toHost (.write fn addr (relaxedOk d fn) bytes) d

/-- The read requests for `n` bytes of host memory: none crosses a 4 KiB boundary (R589). -/
def dmaReads (fn : Nat) (relaxed : Bool) : Nat → Nat → Nat → List HostTxn
  | 0, _, _ => []
  | k + 1, addr, n =>
    let m := Nat.min n (4096 - addr % 4096)
    if n = 0 then [] else .read fn addr m relaxed :: dmaReads fn relaxed k (addr + m) (n - m)

/-- Data is read from host memory for a function. -/
def dmaRead (fn addr n : Nat) (d : Dev) : Dev := forAll (dmaReads fn (relaxedOk d fn) (n / 4096 + 2) addr n) toHost d

/-! ## Events -/

/-- The class of an event (R818). -/
def classOf (code entry : Nat) : Nat :=
  let i := entry / 256
  if code = 0x15 then 0
  else if code = 0x16 ∨ (0x10 ≤ code ∧ code ≤ 0x14) then 12
  else if 0x2000 ≤ i ∧ i ≤ 0x22FF then 0
  else if 0x2400 ≤ i ∧ i ≤ 0x247F then 1
  else if 0x4000 ≤ i ∧ i ≤ 0x4FFF then 2
  else if (0x2800 ≤ i ∧ i ≤ 0x2C47) ∨ (0x3000 ≤ i ∧ i ≤ 0x30FF) then 3
  else if 0x1830 ≤ i ∧ i ≤ 0x18FF then 4
  else if 0x3400 ≤ i ∧ i ≤ 0x35FF then 5
  else if 0x3800 ≤ i ∧ i ≤ 0x38FF then 6
  else if (0x1100 ≤ i ∧ i ≤ 0x11FF) ∨ (0x3C00 ≤ i ∧ i ≤ 0x3CFF) then 7
  else if 0x1400 ≤ i ∧ i ≤ 0x14FF then 8
  else if 0x1600 ≤ i ∧ i ≤ 0x163F then 9
  else if (0x1640 ≤ i ∧ i ≤ 0x16FF) ∨ (0x1A00 ≤ i ∧ i ≤ 0x1AFF) then 10
  else if 0x1C00 ≤ i ∧ i ≤ 0x1CFF then 12
  else if 0x1800 ≤ i ∧ i ≤ 0x182F then 13
  else 11

/-- The 64 bytes of an event record (R816). -/
def eventBytes (e : Event) (lost : Bool) : List Byte :=
  natLE 8 e.stc ++ natLE 8 e.seq ++ natLE 2 e.code ++ natLE 1 e.cls ++ natLE 1 e.sev ++ natLE 4 e.entry ++
    natLE 1 e.domain ++ natLE 1 (if lost then 1 else 0) ++ [0, 0] ++ natLE 4 e.queue ++ natLE 8 e.old ++
    natLE 8 e.new ++ padTo 16 e.detail

/-- Bytes that go to host memory: an address and what is written there. -/
abbrev Placed := Nat × List Byte

/-- The transfer without its first `n` bytes. -/
def dropPlaced : Nat → List Placed → List Placed
  | _, [] => []
  | n, (a, b) :: r => if b.length ≤ n then dropPlaced (n - b.length) r else (a + n, b.drop n) :: r

/-- The first `n` bytes of the transfer. -/
def takePlaced : Nat → List Placed → List Placed
  | 0, _ => []
  | _, [] => []
  | n, (a, b) :: r => if b.length ≤ n then (a, b) :: takePlaced (n - b.length) r else [(a, b.take n)]

def placedLength (l : List Placed) : Nat := l.foldl (fun a x => a + x.2.length) 0

/-- Fields of a descriptor (R612, R614). -/
def dOpcode (b : List Byte) : Nat := leAt b 0 2

def dIrq (b : List Byte) : Bool := bitAt (leAt b 2 1) 0

def dTag (b : List Byte) : Nat := leAt b 8 8

def dAddr (b : List Byte) : Nat := leAt b 16 8

def dLength (b : List Byte) : Nat := leAt b 24 4

/-- The list with the first member that `p` selects changed by `f`. -/
def modFirst {α : Type} (p : α → Bool) (f : α → α) : List α → List α
  | [] => []
  | a :: r => if p a then f a :: r else a :: modFirst p f r

/-- Is this an event buffer with room for a record? -/
def eventRoom (x : Descr) : Bool :=
  x.status.isNone && dOpcode x.bytes == 0x0501 && decide (x.moved + 64 ≤ dLength x.bytes)

/-- May queue `q` with context `c` receive the event (R617, R819)? -/
def eventFor (d : Dev) (e : Event) (q : Nat) (c : Queue) : Bool :=
  c.typ == 5 && c.st == 1 && bitAt c.target e.cls &&
    (match qFn d q with
     | none => false
     | some 0 => true
     | some f => e.domain == f || (e.queue != 0xFFFFFFFF && qFn d e.queue == some f) ||
        (e.domain == 0xFF && e.queue == 0xFFFFFFFF))

/-- An event is written to one queue: into its oldest buffer with room, or counted as lost (R617, R819). -/
def deliverTo (e : Event) (q : Nat) (d : Dev) : Dev :=
  let c := queue d q
  match c.descs.find? eventRoom with
  | some x =>
    let full := decide (dLength x.bytes < x.moved + 128)
    let b := eventBytes e c.eventsLost
    let f := (qFn d q).getD 0
    dmaWrite f (dAddr x.bytes + x.moved) b (wr (K.fn_BYTES_D2H f) ((rd d (K.fn_BYTES_D2H f) + 64) % 2 ^ 64)
      (modQ q (fun c => { c with
        eventsLost := false
        bufFirst := if full then none else some (c.bufFirst.getD d.now)
        bytes := c.bytes + 64
        descs := modFirst eventRoom (fun x => { x with
          moved := x.moved + 64, wrote := x.wrote ++ [(dAddr x.bytes + x.moved, b)]
          status := if full then some 0 else none }) c.descs }) d))
  | none =>
    incSat 32 (K.fn_EVENTS_LOST ((qFn d q).getD 0)) (modQ q (fun c => { c with eventsLost := true }) d)

/-- An event is written to every queue that selects it (R819). -/
def deliver (e : Event) (d : Dev) : Dev :=
  forAll (d.host.queues.filter fun p => eventFor d e p.1 p.2) (fun p d => deliverTo e p.1 d) d

/-- An event of any code is raised (R816). `sev` is its severity where the manual gives one. -/
def raiseX (code entry old new domain q : Nat) (detail : List Byte) (sev : Option Nat) (d : Dev) : Dev :=
  let cls := classOf code entry
  let e : Event := {
    stc := stcNs d, seq := d.evSeq + 1, code := code, cls := cls
    sev := sev.getD (Config.severity code entry cls)
    entry := entry, domain := domain, queue := q, old := old, new := new, detail := detail }
  deliver e { d with evLog := e :: d.evLog, evSeq := d.evSeq + 1 }

/-- A device-wide event without OLD, NEW and DETAIL of its own. -/
def raise (code entry old new : Nat) (d : Dev) : Dev := raiseX code entry old new 0xFF 0xFFFFFFFF [] none d

/-- A CONDITION event (R817): its entry, with that entry's value. -/
def condition (k : Nat) (d : Dev) : Dev := raise 3 k 0 (rd d k) d

/-- Entry `k` takes value `v`; a change raises a STATE_CHANGE event (R817). -/
def change (k v : Nat) (d : Dev) : Dev :=
  if rd d k = v then d else raise 1 k (rd d k) v (wr k v d)

/-- The fault record that every status code INTERNAL has (R75, R820). -/
def internalFault (k : Nat) (d : Dev) : Dev := raiseX 3 k 0 (rd d k) 0xFF 0xFFFFFFFF [] (some 3) d

/-! ## Journal (R697 to R699) -/

/-- A journal entry is opened, or counted as waiting when none is free (R697). -/
def jOpen (kind scope req unit ref pin : Nat) (d : Dev) : Dev :=
  if 32768 ≤ d.jr.entries.length then incSat 32 K.x1C30_JOURNAL_WAITS d
  else
    let e : JEntry := {
      kind := kind, scope := scope, req := req, opSeq := d.jr.nextSeq, stc := stcNs d, unit := unit, ref := ref, pin := pin }
    let d := { d with jr := { entries := d.jr.entries ++ [e], nextSeq := d.jr.nextSeq + 1 } }
    wr K.x1C30_JOURNAL_MAX_USED (max (rd d K.x1C30_JOURNAL_MAX_USED) d.jr.entries.length) d

/-- The entries that `p` selects close. -/
def jClose (p : JEntry → Bool) (d : Dev) : Dev :=
  { d with jr := { d.jr with entries := d.jr.entries.filter fun e => !p e } }

/-- The entries that `p` selects change. -/
def jMod (p : JEntry → Bool) (f : JEntry → JEntry) (d : Dev) : Dev :=
  { d with jr := { d.jr with entries := d.jr.entries.map fun e => if p e then f e else e } }

/-! ## The persist path (R678 to R687, R712 to R720) -/

/-- The bytes that a record holds for an entry, as its row says; for KEY_EPOCH the newest epoch (R789). -/
def entryBytes (d : Dev) (k : Nat) (r : Row) : List Byte :=
  if r.ty.isBody then rdB d k else natLE r.size (if k = K.x1830_KEY_EPOCH then d.ev.epoch else rd d k)

/-- Does a configuration record hold this row (R717)? -/
def rowStored (r : Row) : Bool := r.nv || (r.cls == .staged && r.acc == .rws)

/-- The items of a configuration payload: SUB, TYPE, LEN and the value (R717). -/
def objItems (d : Dev) (i : Nat) : List Byte :=
  ((objRows i).filter rowStored).flatMap fun r =>
    (List.range (r.hi + 1 - r.lo)).flatMap fun j =>
      let v := entryBytes d (i * 256 + r.lo + j) r
      natLE 1 (r.lo + j) ++ natLE 1 r.ty.code ++ natLE 4 v.length ++ v

/-- The configuration payload of object `i` (R717). -/
def objPayload (d : Dev) (i commitSeq : Nat) : List Byte := natLE 4 commitSeq ++ objItems d i

/-- Is a key kept in the tables rings (R711)? -/
def isTables (key : Nat) : Bool := key == 0x2120 || (decide (0x3000 ≤ key) && decide (key ≤ 0x301F))

/-- The parts of a body (R715). -/
def partsFrom : Nat → Nat → NvRec → List NvRec
  | 0, _, _ => []
  | n + 1, i, r =>
    if r.payload.length ≤ 4040 then [{ r with part := i }]
    else { r with part := i, last := false, payload := r.payload.take 4040 } ::
      partsFrom n (i + 1) { r with payload := r.payload.drop 4040 }

def parts (r : NvRec) : List NvRec := partsFrom (r.payload.length / 4040 + 1) 0 r

/-- Page programs of one record of `len` payload bytes placed after position `pos` of the open sector (0: none open), and
the position after it (R713, R720). -/
def recPrograms (pos len : Nat) : Nat × Nat :=
  let opens := pos = 0 ∨ 4096 < pos + 17 + len
  let p := if opens then 32 else pos
  ((p + 15 + len) / 256 - p / 256 + 2 + (if opens then 1 else 0), (p + 17 + len + 7) / 8 * 8)

/-- Page programs of a body's parts, and the position after them. -/
def bodyPrograms (pos : Nat) : List Nat → Nat × Nat
  | [] => (0, pos)
  | l :: r =>
    let a := recPrograms pos l
    let b := bodyPrograms a.2 r
    (a.1 + b.1, b.2)

/-- Occupancy of some items of the persist buffer in bytes (R720). -/
def itemBytes (l : List PbItem) : Nat := (l.filter (·.inBuf)).foldl (fun a x => a + x.cost) 0

/-- Occupancy of the persist buffer in bytes (R720). -/
def occupancy (d : Dev) : Nat := itemBytes d.nv.buf

/-- The persist window in bytes. -/
def windowBytes (d : Dev) : Nat := rd d K.x1640_WINDOW_KIB * 1024

/-- Number of sectors of a ring (R711). -/
def ringSectors (r : Nat) : Nat := if r < 2 then 3072 else 256

def ring (d : Dev) (r : Nat) : Ring := tabGet {} d.nv.rings r

/-- Erased sectors ahead of the head of a ring. -/
def erasedAhead (d : Dev) (r : Nat) : Nat :=
  let x := ring d r
  ringSectors r - x.used.length - x.pend.length - (x.bad.filter fun p => x.used.all fun s => s.place != p).length

/-- The erased sectors that the buffer will still open in ring A of the record store. -/
def sectorsOwed (d : Dev) : Nat :=
  itemBytes (d.nv.buf.filter fun x => x.slotRing.isNone && !isTables x.recd.key) / 4096 + 1

/-- May the buffer take an item of `cost` bytes now: within the window, or under WRITE_THROUGH within the buffer, and with 72
erased sectors left (R685 to R687, R722)? -/
def bufferTakes (d : Dev) (tables : Bool) (cost : Nat) : Bool :=
  decide (rd d K.x1640_PB_STATE ≠ 1) &&
    decide (occupancy d + cost ≤ if rd d K.x1640_PB_STATE = 2 then 253952 else windowBytes d) &&
    (tables || decide (72 + sectorsOwed d + cost / 4096 ≤ erasedAhead d 0))

/-- Is NV-class effect `id` persistent: programmed, or in the buffer with all before it within the window (R679, R686,
R687)? -/
def persisted (d : Dev) (id : Nat) : Bool :=
  match d.nv.buf.find? fun x => x.id == id with
  | none => true
  | some x => x.inBuf && decide (itemBytes (d.nv.buf.filter fun y => decide (y.id ≤ id)) ≤ windowBytes d)

/-- The journal entry of the NV write with record number `seq` (R699). -/
def jNv (seq : Nat) (e : JEntry) : Bool := e.kind == 4 && e.ref == seq

/-- An item enters the persist path: taken at once when nothing waits before it and it fits, else it waits and is counted
(R685). -/
def persistItem (slotRing : Option Nat) (r : NvRec) (cost : Nat) (d : Dev) : Dev :=
  if d.nv.volatileOnly then d
  else
    let take := d.nv.buf.all (·.inBuf) && bufferTakes d (isTables r.key) cost
    let x : PbItem := { id := d.nv.nextId, slotRing := slotRing, recd := r, cost := cost, inBuf := take }
    let d := { d with nv := { d.nv with buf := d.nv.buf ++ [x], nextId := d.nv.nextId + 1 } }
    if take then jMod (fun e => slotRing.isNone && jNv r.seq e) (fun e => { e with checkpoint := 1 }) d
    else incSat 32 K.x1640_WINDOW_STALLS d

/-- A record is written to the NV store through the persist buffer (R678, R713, R720). -/
def persist (key commitSeq : Nat) (payload : List Byte) (req : Nat) (d : Dev) : Dev :=
  let r : NvRec := { key := key, seq := d.nv.nextSeq, commitSeq := commitSeq, payload := payload }
  let tbl := isTables key
  let p := bodyPrograms (if tbl then d.nv.posTab else d.nv.posRec) ((parts r).map fun x => x.payload.length)
  let d := { d with nv := { d.nv with
    nextSeq := d.nv.nextSeq + 1
    posTab := if tbl then p.2 else d.nv.posTab
    posRec := if tbl then d.nv.posRec else p.2 } }
  persistItem none r (p.1 * 256) (onlyIf (!d.nv.volatileOnly) (jOpen 4 4 req key r.seq 0) d)

/-- Items that `p` picks leave the persist path before they are programmed; their journal entries close. -/
def withdraw (p : PbItem → Bool) (d : Dev) : Dev :=
  forAll (d.nv.buf.filter p) (fun x => jClose (jNv x.recd.seq))
    { d with nv := { d.nv with buf := d.nv.buf.filter fun x => !p x } }

/-- The configuration record of object `i` after an INSTANT write (R678, R717). -/
def persistObj (i req : Nat) (d : Dev) : Dev := persist i 0 (objPayload d i 0) req d

/-- A slot-ring value is written (R725, R726): one page for the slot and one for COMMIT. -/
def persistValue (v : Nat) (bytes : List Byte) (d : Dev) : Dev :=
  persistItem (some v) { payload := bytes } 512 d

/-- The highest commit sequence number among commit records (R718, R730). -/
def maxCommit (l : List NvRec) : Nat := l.foldl (fun a r => if r.key = 0xF001 then max a (leAt r.payload 0 4) else a) 0

/-- Is record `r` current among the records of its ring (R737)? A newer confirmed body of its key supersedes it. -/
def isCurrent (l : List NvRec) (c : Nat) (r : NvRec) : Bool :=
  l.all fun x => !(x.key == r.key && decide (r.seq < x.seq) && (x.key == 0xF001 || decide (x.commitSeq ≤ c)))

def recSize (r : NvRec) : Nat := (r.payload.length + 17 + 7) / 8 * 8

/-- The records of a ring, oldest first. -/
def ringRecs (d : Dev) (r : Nat) : List NvRec := (ring d r).used.flatMap (·.recs)

/-- Bytes of the current records of a ring (R723, R745). -/
def liveBytes (d : Dev) (r : Nat) : Nat :=
  let l := ringRecs d r
  let c := maxCommit (ringRecs d 0)
  (l.filter (isCurrent l c)).foldl (fun a x => a + recSize x) 0

/-- Bytes that the records of a body of `len` bytes take (R713, R715). -/
def bodySize (len : Nat) : Nat := (len - 1) / 4040 * 4064 + (len - (len - 1) / 4040 * 4040 + 24) / 8 * 8

/-- Bytes of the current records of a pair of rings, and of those in the buffer, outside some keys (R723). -/
def keptBytes (d : Dev) (tables : Bool) (keys : List Nat) : Nat :=
  let l := ringRecs d (if tables then 2 else 0) ++
    (d.nv.buf.filter fun x => x.slotRing.isNone && isTables x.recd.key == tables).map (·.recd)
  let c := maxCommit (ringRecs d 0)
  ((l.filter (isCurrent l c)).filter fun x => !keys.contains x.key).foldl (fun a x => a + recSize x) 0

/-- The limit of current records (R723). -/
def storeLimit (tables : Bool) : Nat := if tables then 524288 else 8388608

/-- Does a body of `len` bytes under `key` fit the limit of current records beside those of the other keys (R723)? -/
def storeFits (d : Dev) (key len : Nat) : Bool :=
  decide (keptBytes d (isTables key) [key] + bodySize len ≤ storeLimit (isTables key))

/-! ## Long-operation slots (R127 to R137) -/

def slotRun (d : Dev) (s : Nat) : SlotRun := tabGet {} d.ctl.slots s

def modSlot (s : Nat) (f : SlotRun → SlotRun) (d : Dev) : Dev :=
  { d with ctl := { d.ctl with slots := tabMod {} s f d.ctl.slots } }

/-- STATE of a slot: 0 IDLE, 1 QUEUED, 2 RUNNING, 3 DONE, 4 FAILED, 5 ABORTED (R128). -/
def slotState (d : Dev) (s : Nat) : Nat := fld (rd d (K.slot_STATUS s)) 28 4

/-- A slot moves to a state; SEQ counts every change of STATE (R128). -/
def setSlot (s st : Nat) (d : Dev) : Dev :=
  let w := rd d (K.slot_STATUS s)
  let q := if fld w 28 4 = st then fld w 24 4 else (fld w 24 4 + 1) % 16
  wr (K.slot_STATUS s) (setFld (setFld w 28 4 st) 24 4 q) d

def setProgress (s p : Nat) (d : Dev) : Dev := wr (K.slot_STATUS s) (setFld (rd d (K.slot_STATUS s)) 16 8 p) d

def slotCount (d : Dev) (s : Nat) : Nat := fld (rd d (K.slot_STATUS s)) 0 16

def setCount (s n : Nat) (d : Dev) : Dev :=
  wr (K.slot_STATUS s) (setFld (rd d (K.slot_STATUS s)) 0 16 (Nat.min n 0xFFFF)) d

/-- One more partial result (R133). -/
def pushResult (s v : Nat) (d : Dev) : Dev :=
  let n := slotCount d s
  setCount s (n + 1) (onlyIf (decide (n < 240)) (wr (K.slot_RESULT s n) v) d)

/-- The argument at sub-index `a` (06 to 0F). -/
def arg (d : Dev) (s a : Nat) : Nat := rd d (K.slot_ARG s (a - 6))

def setArg (s a v : Nat) (d : Dev) : Dev := wr (K.slot_ARG s (a - 6)) v d

/-- The journal entry of the operation in a slot. -/
def jSlot (s : Nat) (e : JEntry) : Bool := (e.kind == 6 || e.kind == 2) && e.unit == s

/-- An operation ends in state `st`; its journal entry closes (R131, R699). -/
def endSlot (s st : Nat) (d : Dev) : Dev :=
  modSlot s (fun x => { x with endedAt := d.now }) (jClose (jSlot s) (setSlot s st d))

/-- An operation ends with a RESULT_CODE in [slot:0F]; an abort that it outran reads TOO_LATE (R136). -/
def finishSlot (s st code : Nat) (d : Dev) : Dev :=
  endSlot s st (onlyIf (slotRun d s).abortAsked (wr (K.slot_ABORT_RESULT s) 2)
    (setArg s 0xF code (onlyIf (st == 3) (setProgress s 100) d)))

/-- Is operation `op` RUNNING in slot `s`? -/
def running (d : Dev) (s op : Nat) : Bool := slotState d s == 2 && (slotRun d s).op == op

/-- The slots in which an operation is QUEUED or RUNNING. -/
def busySlots (d : Dev) : List Nat :=
  (List.range 64).filter fun s => slotState d s == 1 || slotState d s == 2

/-- An abort takes effect (R135): the slot reads ABORTED and [slot:05] 0x01. -/
def abortSlot (s : Nat) (d : Dev) : Dev := endSlot s 5 (wr (K.slot_ABORT_RESULT s) 1 d)

/-! ## Where the block stands -/

/-- Is the block held in reset: RESET_N low, or PERST# low under scope DEVICE (R767)? -/
def inReset (d : Dev) : Bool := d.boot.resetN || (d.boot.perst && d.boot.scope == 0)

/-- Does the block take part in anything: not in a flush, not held in reset, not stopped (R689, R767, R765)? -/
def alive (d : Dev) : Bool := d.power.flush.isNone && !d.power.psafe && !d.power.stopped && !inReset d

/-- Has boot handed over: [1C40:04] reads 0x19? -/
def booted (d : Dev) : Bool := rd d K.x1C40_BOOT_STEP == 0x19

/-- A command whose operands are not well formed stops with a fault, before anything else. -/
def wellFormed (c : Bool) (what : String) (o : Host.Outcome State Fault Refusal) : Host.Outcome State Fault Refusal :=
  if c then o else .fault (.badOperand what)

end Sys2Proof.Machine
end

