-- ==== Sys2Proof/Machine/Lanes.lean ====
section
/-! DEFINITION. Serial ports and lanes (04): receivers, transmitters, quad PLLs, test modes, tie bundles, eye scan. -/

namespace Sys2Proof.Machine

def rx (d : Dev) (p : Nat) : Rx := tabGet {} d.lanes.rx p

def modRx (p : Nat) (f : Rx → Rx) (d : Dev) : Dev := { d with lanes := { d.lanes with rx := tabMod {} p f d.lanes.rx } }

def tx (d : Dev) (p : Nat) : Tx := tabGet {} d.lanes.tx p

def modTx (p : Nat) (f : Tx → Tx) (d : Dev) : Dev := { d with lanes := { d.lanes with tx := tabMod {} p f d.lanes.tx } }

def quad (d : Dev) (q : Nat) : Quad := tabGet {} d.lanes.quad q

def modQuad (q : Nat) (f : Quad → Quad) (d : Dev) : Dev :=
  { d with lanes := { d.lanes with quad := tabMod {} q f d.lanes.quad } }

def tie (d : Dev) (b : Nat) : TieBundle := tabGet {} d.lanes.tie b

def modTie (b : Nat) (f : TieBundle → TieBundle) (d : Dev) : Dev :=
  { d with lanes := { d.lanes with tie := tabMod {} b f d.lanes.tie } }

/-! ## Roles of a port -/

/-- The bundle that uses port `p` when it is enabled (R238). -/
def tieOf (d : Dev) (p : Nat) : Option Nat :=
  if p % 8 < 5 ∧ on d (K.tb_TIE_ENABLE (p / 8)) then some (p / 8) else none

/-- LAYOUT of a multi-link mode byte (R211). -/
def mlLayout (m : Nat) : Nat := m / 16

/-- The lanes of the assembly that lane `l` belongs to under mode byte `m`, first lane first; none for a single link (R211). -/
def mlMembers (m l : Nat) : Option (List Nat) :=
  let a := mlLayout m
  if a = 4 ∨ a = 5 then some [0, 1, 2, 3]
  else if (a = 1 ∨ a = 3) ∧ l < 2 then some [0, 1]
  else if (a = 2 ∨ a = 3) ∧ 2 ≤ l then some [2, 3]
  else none

/-- The integer rate code of each link of an assembly under mode byte `m` (R212). -/
def mlRate (m : Nat) : Nat := if mlLayout m = 5 then 5 else if mlLayout m = 4 then 3 else if m % 2 = 0 then 3 else 6

/-- The receive assembly of port `p`: its ports, first member first (R211, R213). -/
def rxAssembly (d : Dev) (p : Nat) : Option (List Nat) :=
  (mlMembers (rd d (K.ml_RX_ML_MODE (p / 4))) (p % 4)).map fun l => l.map fun i => p / 4 * 4 + i

/-- The transmit assembly of port `p`. -/
def txAssembly (d : Dev) (p : Nat) : Option (List Nat) :=
  (mlMembers (rd d (K.ml_TX_ML_MODE (p / 4))) (p % 4)).map fun l => l.map fun i => p / 4 * 4 + i

/-- The port whose route drives output `p`: the first member of its assembly (R289). -/
def outFirst (d : Dev) (p : Nat) : Nat := ((txAssembly d p).getD [p]).headD p

/-- Does output `p` send content of its own route: a channel of an enabled bundle, an enabled transmitter, or the first member of
an assembly with an enabled member (R251, R289)? -/
def outputOn (d : Dev) (p : Nat) : Bool :=
  if (tieOf d p).isSome then true
  else outFirst d p == p && ((txAssembly d p).getD [p]).any fun m => on d (K.tx_TX_ENABLE m)

/-! ## Candidates (R199) -/

/-- The order in which candidates are tried. -/
def rateOrder : List Nat := [0x06, 0x16, 0x05, 0x15, 0x04, 0x14, 0x03, 0x13, 0x02, 0x12, 0x01]

/-- Does RATE_MASK hold rate code `c` (R204)? -/
def maskHas (m c : Nat) : Bool := if c < 0x10 then bitAt m (c - 1) else bitAt m (8 + (c - 0x10) - 1)

/-- The accepted set of receiver `p`, in the order tried: a tie lane has 0x20 alone (R243), an assembly member its link
rate in both families (R212), every other receiver its RATE_MASK. -/
def accepted (d : Dev) (p : Nat) : List Nat :=
  if (tieOf d p).isSome then [0x20]
  else match rxAssembly d p with
    | some _ => let r := mlRate (rd d (K.ml_RX_ML_MODE (p / 4))); [r, r + 0x10]
    | none => rateOrder.filter (maskHas (rd d (K.rx_RATE_MASK p)))

/-- The first candidate: the rate of the last LOCKED state when it is accepted, else the first of the order. -/
def firstCandidate (d : Dev) (p : Nat) : Nat :=
  let a := accepted d p
  if a.contains (rx d p).lastLocked then (rx d p).lastLocked else a.headD 0

/-- The member of a list after `x`; the first after the last. -/
def afterIn (x : Nat) (l : List Nat) : Nat := ((l.dropWhile (· != x)).drop 1).headD (l.headD 0)

/-- The rate class of a rate code in the assignment table (R219). -/
def rateClass (c : Nat) : Nat := if c = 0x20 then 6 else c % 16 - 1

/-- The receive or transmit profile assigned to lane `p` at rate `c`, from the tables or built in (R219, R221). -/
def profileFor (d : Dev) (p c : Nat) (transmit : Bool) : List Byte :=
  if rd d K.x2120_EQ_SOURCE = 0 then
    let a := leAt (rdB d K.x2120_EQ_ASSIGN) (p * 8 + rateClass c) 1
    slice (16 + 16 * (if transmit then a / 16 else a % 16)) 16 (rdB d K.x2120_EQ_PROFILES)
  else builtinProfile

/-! ## Keys of a quad's PLLs (R210) -/

/-- Integer or /1.001 PLL state, relocks and band entries of a quad. -/
def kPllState (q f : Nat) : Nat := if f = 0 then K.quad_PLL_INT_STATE q else K.quad_PLL_FRAC_STATE q

def kPllBand (q f : Nat) : Nat := if f = 0 then K.quad_PLL_INT_BAND q else K.quad_PLL_FRAC_BAND q

def kPllRelocks (q f : Nat) : Nat := if f = 0 then K.quad_PLL_INT_RELOCKS q else K.quad_PLL_FRAC_RELOCKS q

def pllT0 (d : Dev) (q f : Nat) : Option Ps := if f = 0 then (quad d q).intAt else (quad d q).fracAt

def setPllT0 (q f : Nat) (t : Option Ps) (d : Dev) : Dev :=
  modQuad q (fun x => if f = 0 then { x with intAt := t } else { x with fracAt := t }) d

/-- The family of a rate code: 0 integer, 1 /1.001 (R192, R193). -/
def famOf (c : Nat) : Nat := if c = 0x20 then 0 else c / 16

/-- Is the PLL of family `f` beside port `p` LOCKED? -/
def pllLocked (d : Dev) (p f : Nat) : Bool := rd d (kPllState (p / 4) f) == 2

/-- Microseconds from `t0` to now, saturating in 16 bits. -/
def usSince (d : Dev) (t0 : Ps) : Nat := Nat.min ((d.now - t0) / 1000000) 0xFFFF

/-! ## PRBS (R229) -/

/-- The terms of the pattern with code `c`: x^7 + x^6 + 1 or x^31 + x^28 + 1. -/
def prbsTerms (c : Nat) : Nat × Nat := if c = 1 then (7, 6) else (31, 28)

/-- The next bit of pattern `c` after the bits sent so far, newest first. -/
def prbsNext (c : Nat) (past : List Bool) : Bool :=
  (past.getD ((prbsTerms c).1 - 1) false) != (past.getD ((prbsTerms c).2 - 1) false)

/-- `n` more bits of pattern `c` after `past`, oldest first. -/
def prbsBits (c : Nat) : Nat → List Bool → List Bool
  | 0, _ => []
  | n + 1, past =>
    let b := prbsNext c past
    b :: prbsBits c n (b :: past.take 30)

/-- Do 64 consecutive bits agree with pattern `c`: each that has its terms among them follows from them, and not all are 0 (R229)? -/
def prbsAgrees (c : Nat) (bits : List Bool) : Bool :=
  let n := (prbsTerms c).1
  bits.length == 64 && bits.any (· == true) && bits.drop n == prbsBits c (64 - n) (bits.take n).reverse

/-- The bits per second of a rate code (R192), in units of 1/1001 b/s. -/
def rateBits (c : Nat) : Nat :=
  let base := [270000000, 1485000000, 2970000000, 5940000000, 11880000000, 23760000000].getD (c % 16 - 1) 0
  if c = 0x20 then 47520000000 * 1001 else if c < 0x10 then base * 1001 else base * 1000

/-- Bits at rate `c` in a time. -/
def bitsIn (c : Nat) (dt : Ps) : Nat := dt * rateBits c / 1001 / 1000000000000

/-- PRBS_BITS and PRBS_ERRORS while synchronised (R204): bits checked so far, and a count that the link decides. -/
def prbsBitsNow (d : Dev) (p : Nat) : Nat :=
  if rd d (K.rx_PRBS_STATUS p) = 1 then bitsIn (rd d (K.rx_RX_RATE p)) (d.now - (rx d p).prbsAt) % 2 ^ 64 else rd d (K.rx_PRBS_BITS p)

def prbsErrorsNow (d : Dev) (p : Nat) : Nat :=
  if rd d (K.rx_PRBS_STATUS p) = 1 then (Config.prbsErrors p (rx d p).prbsAt d.now).toNat else rd d (K.rx_PRBS_ERRORS p)

/-- The checker of a port is no longer synchronised; its counts stay as they read. -/
def prbsStop (p : Nat) (d : Dev) : Dev :=
  if rd d (K.rx_PRBS_STATUS p) = 0 then d
  else wr (K.rx_PRBS_BITS p) (prbsBitsNow d p) (wr (K.rx_PRBS_ERRORS p) (prbsErrorsNow d p) (wr (K.rx_PRBS_STATUS p) 0 d))

/-! ## Transmitters (R205, R206, R226, R227) -/

/-- Bits of SIGNAL (R204): 0 debounced LOS, 1 debounced LOL, 2 raw LOS, 3 raw LOL. -/
def sig (d : Dev) (p i : Nat) : Bool := bitAt (rd d (K.rx_SIGNAL p)) i

def setSig (p i : Nat) (b : Bool) (d : Dev) : Dev := wr (K.rx_SIGNAL p) (setBitAt (rd d (K.rx_SIGNAL p)) i b) d

/-- Does the far-end loop of port `p` take effect (R226, R227)? -/
def farEnd (d : Dev) (p : Nat) : Bool := rd d (K.tx_TX_TEST p) == 3 && !on d (K.rx_RX_TEST p)

/-- Does receiver `p` recover bits: enabled, without LOL? -/
def recovers (d : Dev) (p : Nat) : Bool := rd d (K.rx_RX_STATE p) != 0 && !sig d p 1 && !sig d p 3

/-- The rate code at which transmitter `p` sends: tie mode, the recovered rate in the far-end loop, else TX_RATE (R226, R239). -/
def txRate (d : Dev) (p : Nat) : Nat :=
  if (tieOf d p).isSome then 0x20
  else if farEnd d p && recovers d p then rd d (K.rx_RX_RATE p) else rd d (K.tx_TX_RATE p)

/-- The PLL of a transmitter: 0 integer, 1 /1.001, of the family of its rate; the far-end loop sends the recovered family
(R193, R226). -/
def txFamily (d : Dev) (p : Nat) : Nat := famOf (txRate d p)

/-- Is the PLL that a transmitter uses LOCKED? -/
def txPllLocked (d : Dev) (p : Nat) : Bool := pllLocked d p (txFamily d p)

/-- Is the transmitter in TEST: a pattern or the far-end loop is set (R226, R227)? The far-end loop squelches while the
receiver has LOL. -/
def txTesting (d : Dev) (p : Nat) : Bool := on d (K.tx_TX_TEST p)

/-- TX_STATE from the transmitter's settings (R196, R205, R206, R226, R227); a squelched one stays so until it resumes. -/
def txStateNow (d : Dev) (p : Nat) : Nat :=
  if (tieOf d p).isSome then (if (tx d p).squelchAt.isSome then 2 else 4)
  else if !on d (K.tx_TX_ENABLE p) then 0
  else if (tx d p).squelchAt.isSome then 2
  else if txTesting d p then (if farEnd d p ∧ (sig d p 1 ∨ sig d p 3) then 2 else 3)
  else 1

/-- Does the transmitter send: enabled, or a lane of a bundle? -/
def txInUse (d : Dev) (p : Nat) : Bool := (tieOf d p).isSome || on d (K.tx_TX_ENABLE p)

/-- A transmitter on a PLL that is not LOCKED is squelched (R205, R207); one that left it for a LOCKED PLL sends again as after its
realignment, a test signal at once (R855; log entry 93); one that is disabled ends its squelch. -/
def txSquelch (p : Nat) (d : Dev) : Dev :=
  let f := txFamily d p
  match (tx d p).squelchAt with
  | none =>
    if txInUse d p && !txPllLocked d p then
      modTx p (fun x => { x with squelchAt := some d.now, sqFamily := f, realigned := false, wasTest := txTesting d p }) d
    else d
  | some _ =>
    if !txInUse d p then modTx p (fun x => { x with squelchAt := none }) d
    else
      let moved := f != (tx d p).sqFamily
      let d := modTx p (fun x => { x with
        sqFamily := f, realigned := if moved then txPllLocked d p else x.realigned, wasTest := txTesting d p }) d
      onlyIf ((tieOf d p).isNone && (tx d p).realigned && (tx d p).wasTest) (modTx p fun x => { x with squelchAt := none }) d

/-- A change of the test signal of transmitter `p` is an event (R230), and its pattern starts anew (R206). -/
def reportTx (p : Nat) (d : Dev) : Dev :=
  let m := if on d (K.tx_TX_ENABLE p) && (tieOf d p).isNone then rd d (K.tx_TX_TEST p) else 0
  let old := (tx d p).test
  if old = m then d else raise 1 (K.tx_TX_TEST p) old m (modTx p (fun x => { x with test := m, testAt := d.now, inverted := [] }) d)

/-- A transmitter takes the state its settings give; entry to SQUELCHED counts, and its end is measured (R206). -/
def txEnter (p : Nat) (d : Dev) : Dev :=
  let d := txSquelch p d
  let old := rd d (K.tx_TX_STATE p)
  let st := txStateNow d p
  let d := wr (K.tx_TX_STATE p) st d
  let d := onlyIf (st == 2 && old != 2) (fun d => incSat 32 (K.tx_SQUELCH_COUNT p)
    (modTx p (fun x => { x with sqSince := x.squelchAt.getD d.now }) d)) d
  let d := onlyIf (old == 2 && st != 2 && st != 0) (fun d => wr (K.tx_LAST_SQUELCH_US p) (usSince d (tx d p).sqSince) d) d
  reportTx p (wr (K.tx_TX_PLL p) (if st = 0 then 0xFF else txFamily d p) d)

/-! ## Raw detectors (R201, R202) -/

/-- Raw LOL of a receiver asserts or clears; its debounce time starts (R201). The far-end loop follows (R226). -/
def rawLol (p : Nat) (b : Bool) (d : Dev) : Dev :=
  if sig d p 3 = b then d
  else
    let due := d.now + us (rd d (if b then K.rx_LOL_ASSERT_US p else K.rx_LOL_CLEAR_US p))
    txEnter p (modRx p (fun x => { x with lolDue := due, lolClearAt := d.now }) (setSig p 3 b d))

/-- Raw LOS asserts or clears; raw LOL asserts with it (R201, R202). -/
def rawLos (p : Nat) (b : Bool) (d : Dev) : Dev :=
  let d := onlyIf b (rawLol p true) d
  if sig d p 2 = b then d
  else
    let due := d.now + us (rd d (if b then K.rx_LOS_ASSERT_US p else K.rx_LOS_CLEAR_US p))
    modRx p (fun x => { x with losDue := due }) (setSig p 2 b d)

/-- Raw LOS and raw LOL as given; LOL does not clear under LOS, nor while the candidate's PLL is not LOCKED (R195, R202). -/
def rawBoth (p : Nat) (los lol : Bool) (d : Dev) : Dev :=
  let d := rawLos p los d
  rawLol p (los || lol || !pllLocked d p (famOf (rd d (K.rx_RX_RATE p)))) d

/-- Is the receiver of port `p` in a near-end loop (R224, R225)? -/
def looped (d : Dev) (p : Nat) : Bool := rd d (K.rx_RX_STATE p) == 4 && on d (K.rx_RX_TEST p)

/-- A receiver in a near-end loop detects its own transmitter, not its balls: in the serial loop one that drives, without LOL while it
is not squelched; in the parallel loop, without serialiser and CDR, one that is enabled (R224, R225; log entry 93). -/
def loopFollow (p : Nat) (d : Dev) : Dev :=
  if !looped d p then d
  else
    let st := rd d (K.tx_TX_STATE p)
    if rd d (K.rx_RX_TEST p) = 1 then rawBoth p (st == 0) (st == 2) d
    else if st = 0 then rawLos p true d
    else rawLol p false (rawLos p false d)

/-- The loop or the checker of a receiver in TEST changed: an event for each (R230), a checker that stops loses synchronisation, and
the detectors follow the loop or the balls again. -/
def reportRx (p : Nat) (d : Dev) : Dev :=
  let inTest := rd d (K.rx_RX_STATE p) == 4
  let l := if inTest then rd d (K.rx_RX_TEST p) else 0
  let c := if inTest then rd d (K.rx_PRBS_CHECK p) else 0
  let x := rx d p
  let d := modRx p (fun x => { x with loop := l, check := c }) d
  let d := onlyIf (x.loop != l) (raise 1 (K.rx_RX_TEST p) x.loop l) d
  let d := onlyIf (x.check != c) (fun d => raise 1 (K.rx_PRBS_CHECK p) x.check c (prbsStop p d)) d
  if l ≠ 0 then loopFollow p d else onlyIf (x.loop != 0) (rawBoth p x.ballLos x.ballLol) d

/-- The test rate of a receiver in TEST (R228). -/
def testRate (d : Dev) (p : Nat) : Nat :=
  if (tieOf d p).isSome then 0x20
  else if on d (K.tx_TX_ENABLE p) then rd d (K.tx_TX_RATE p)
  else (rateOrder.filter (maskHas (rd d (K.rx_RATE_MASK p)))).headD 0

/-- A receiver in TEST runs at its test rate (R228). -/
def testFollow (p : Nat) (d : Dev) : Dev :=
  onlyIf (rd d (K.rx_RX_STATE p) == 4) (fun d => wr (K.rx_RX_RATE p) (testRate d p) d) d

/-- Transmitter `p` follows its settings, and a receiver in TEST follows it (R206, R224, R228). -/
def txUpdate (p : Nat) (d : Dev) : Dev := loopFollow p (testFollow p (txEnter p d))

/-! ## Receiver states (R197, R198) -/

/-- The five members of a list of bits as a number, bit 0 first. -/
def bitsNat (l : List Nat) : Nat := l.foldl (fun a k => a + 2 ^ k) 0

/-- The lanes of bundle `b` that are up: LOCKED, deskewed and not declared lost (R245). -/
def lanesUp (d : Dev) (b : Nat) : List Nat :=
  (List.range 5).filter fun k =>
    rd d (K.rx_RX_STATE (8 * b + k)) == 3 && (tie d b).deskewed.getD k false && !(tie d b).lost.getD k false

/-- The bundle of a port recounts its lanes: LANES_UP, LANES_MISWIRED and BUNDLE_STATE (R244, R245). -/
def tieRecount (b : Nat) (d : Dev) : Dev :=
  let t := tie d b
  let up := lanesUp d b
  let mis := (List.range 5).filter fun k => rd d (K.rx_RX_STATE (8 * b + k)) == 5
  let n := up.length
  let en := on d (K.tb_TIE_ENABLE b)
  let been := en && (t.beenUp || decide (4 ≤ n))
  let st :=
    if !en then 0 else if n = 5 then 3 else if n = 4 then 4 else if mis.length ≠ 0 then 6 else if n = 0 then 1
    else if t.beenUp then 5 else 2
  change (K.tb_BUNDLE_STATE b) st
    (wr (K.tb_LANES_UP b) (bitsNat up) (wr (K.tb_LANES_MISWIRED b) (bitsNat mis) (modTie b (fun t => { t with beenUp := been }) d)))

/-- The links that the payload ID of input `p` contradicts (R307). -/
def wrongLinks (d : Dev) (p : Nat) : List Nat := (tabGet {} d.video.inp p).mlWrong

/-- Bit n of RX_LINK_STATE: lane n is LOCKED, in the family of its assembly's first locked member, and carries the link of its place
(R212, R216, R307). The skew of an assembly with a missing link reads 0xFFFF. -/
def linkRecount (p : Nat) (d : Dev) : Dev :=
  let q := p / 4
  let counted (l : Nat) : Bool :=
    let x := 4 * q + l
    rd d (K.rx_RX_STATE x) == 3 && (tieOf d x).isNone &&
      (match rxAssembly d x with
       | none => false
       | some ms =>
         !(wrongLinks d (ms.headD x)).contains (x - ms.headD x) &&
         (match ms.find? fun y => rd d (K.rx_RX_STATE y) == 3 with
          | some y => rd d (K.rx_RX_RATE y) / 16 == rd d (K.rx_RX_RATE x) / 16
          | none => false))
  let here := (List.range 4).filter counted
  let short (l : Nat) : Bool := (rxAssembly d (4 * q + l)).any fun ms => ms.any fun x => !here.contains (x % 4)
  wr (K.ml_RX_LINK_STATE q) (bitsNat here)
    (onlyIf (short 0) (wr (K.ml_RX_SKEW_A_NS q) 0xFFFF)
      (onlyIf (short 2 && decide (mlLayout (rd d (K.ml_RX_ML_MODE q)) < 4)) (wr (K.ml_RX_SKEW_B_NS q) 0xFFFF) d))

/-- Is a port in the condition of code 0x02 (R232)? -/
def eyeReady (d : Dev) (p : Nat) : Bool :=
  rd d (K.rx_RX_STATE p) == 3 || (rd d (K.rx_RX_STATE p) == 4 && rd d (K.rx_PRBS_STATUS p) == 1)

/-- An operation 0x0050 on port `p` ends with code 0x03 when the receiver has left the condition of a scan (R236). -/
def eyeScanLeaves (p : Nat) (d : Dev) : Dev :=
  if eyeReady d p then d
  else forAll ((List.range 64).filter fun s => running d s 0x50 && arg d s 6 == p) (fun s => finishSlot s 4 3) d

/-- Receiver `p` takes state `st`: an event on each entry to and exit from LOCKED and MISWIRED (R204); LOCK_COUNT and DROP_COUNT count
(R204); its test modes, its transmitter, its eye scan, its bundle and its assembly follow. -/
def rxState (p st : Nat) (d : Dev) : Dev :=
  let old := rd d (K.rx_RX_STATE p)
  let loud := old != st && (old == 3 || old == 5 || st == 3 || st == 5)
  let d := if loud then change (K.rx_RX_STATE p) st d else wr (K.rx_RX_STATE p) st d
  let d := onlyIf (st == 3 && old != 3) (fun d => incSat 32 (K.rx_LOCK_COUNT p)
    (modRx p (fun x => { x with lastLocked := rd d (K.rx_RX_RATE p), miss := 0 }) d)) d
  let d := onlyIf (old == 3 && st != 3 && st != 0 && st != 4) (incSat 32 (K.rx_DROP_COUNT p)) d
  let d := eyeScanLeaves p (reportRx p (testFollow p d))
  let d := onlyIf (rd d (K.tx_TX_TEST p) == 3) (txEnter p) d
  let d := match tieOf d p with
    | some b =>
      tieRecount b (onlyIf (old == 3 && st != 3)
        (modTie b (fun t => { t with lost := setAt t.lost (p % 8) true, good := setAt t.good (p % 8) 0 })) d)
    | none => d
  linkRecount p d

/-- A candidate is loaded with its receive profile (R199); while the PLL of its family is not LOCKED the CDR has LOL (R195). -/
def loadCandidate (p c : Nat) (d : Dev) : Dev :=
  let d := modRx p (fun x => { x with candAt := d.now, good := 0, miss := 0, foreign := 0, lolClearAt := max x.lolClearAt d.now
                                      profile := profileFor d p c false }) (wr (K.rx_RX_RATE p) c d)
  onlyIf (!pllLocked d p (famOf c)) (rawLol p true) d

/-- SEARCH on the first candidate (R198). -/
def rxSearch (p : Nat) (d : Dev) : Dev :=
  let d := rxState p 1 d
  loadCandidate p (firstCandidate d p) d

/-- SEARCH on the next candidate (R198). -/
def rxNext (p : Nat) (d : Dev) : Dev :=
  let d := rxState p 1 d
  loadCandidate p (afterIn (rd d (K.rx_RX_RATE p)) (accepted d p)) d

/-- Debounced LOS (`los`) or LOL has asserted: ALIGN, LOCKED and MISWIRED go to SEARCH; in SEARCH, LOS holds on the first candidate
(R198). -/
def debouncedLoss (p : Nat) (los : Bool) (d : Dev) : Dev :=
  let st := rd d (K.rx_RX_STATE p)
  if st = 2 ∨ st = 3 ∨ st = 5 then rxSearch p d
  else if st = 1 ∧ los then loadCandidate p (firstCandidate d p) d
  else d

/-! ## Test modes (R224 to R230) -/

/-- RX_TEST or PRBS_CHECK stands as it is now: into TEST while either is set, out of it to SEARCH when both read 0 (R198). -/
def rxTestApply (p : Nat) (d : Dev) : Dev :=
  let st := rd d (K.rx_RX_STATE p)
  if st = 0 then d
  else if on d (K.rx_RX_TEST p) || on d (K.rx_PRBS_CHECK p) then
    (if st = 4 then eyeScanLeaves p (reportRx p d) else rxState p 4 d)
  else if st = 4 then rxSearch p d
  else d

/-- RX_ENABLE, the bundle or the accepted set of port `p` applied (R198): DISABLED when neither enables it; from DISABLED to SEARCH, and on to
TEST where a test mode is set already; SEARCH when the locked rate left the accepted set, and likewise from a candidate that left it
(DESIGN CHOICE, log entry 89: the table's row names LOCKED alone). -/
def rxApply (p : Nat) (d : Dev) : Dev :=
  let en := on d (K.rx_RX_ENABLE p) || (tieOf d p).isSome
  let st := rd d (K.rx_RX_STATE p)
  if !en then (if st = 0 then d else wr (K.rx_RX_RATE p) 0 (rxState p 0 d))
  else if st = 0 then rxTestApply p (rxSearch p d)
  else if st = 4 then testFollow p d
  else if !(accepted d p).contains (rd d (K.rx_RX_RATE p)) then rxSearch p d
  else d

/-- PRBS_CHECK was written: the checker starts anew or stops, and TEST follows (R229). -/
def prbsApply (p : Nat) (d : Dev) : Dev :=
  let d := prbsStop p d
  let d := onlyIf (rd d (K.rx_PRBS_CHECK p) != 0) (clearAll [K.rx_PRBS_ERRORS p, K.rx_PRBS_BITS p]) d
  eyeScanLeaves p (rxTestApply p d)

/-- A checker in TEST that sees 64 bits of its pattern is synchronised, and counts from here (R229). -/
def prbsGained (p : Nat) (bits : List Bool) (d : Dev) : Dev :=
  if rd d (K.rx_RX_STATE p) = 4 ∧ prbsAgrees (rd d (K.rx_PRBS_CHECK p)) bits ∧ rd d (K.rx_PRBS_CHECK p) ≠ 0 ∧
      rd d (K.rx_PRBS_STATUS p) = 0 then
    modRx p (fun x => { x with prbsAt := d.now })
      (wr (K.rx_PRBS_STATUS p) 1 (clearAll [K.rx_PRBS_ERRORS p, K.rx_PRBS_BITS p] d))
  else d

/-- A synchronised checker with 1,024 errors in its latest 65,536 bits loses synchronisation (R229); `errors` is its count. -/
def prbsLost (p errors recent : Nat) (d : Dev) : Dev :=
  if rd d (K.rx_PRBS_STATUS p) = 1 ∧ 1024 ≤ recent then
    eyeScanLeaves p (wr (K.rx_PRBS_ERRORS p) (errors % 2 ^ 64) (prbsStop p d))
  else d

/-- COUNT_CLEAR of a receiver (R204): a synchronised checker counts from here. -/
def rxCountClear (p : Nat) (d : Dev) : Dev :=
  modRx p (fun x => { x with prbsAt := d.now })
    (clearAll [K.rx_CRC_ERRORS p, K.rx_LOCK_COUNT p, K.rx_DROP_COUNT p, K.rx_PRBS_ERRORS p, K.rx_PRBS_BITS p] d)

/-- INJECT_ERROR (R206): the bit of the pattern now on its way is inverted; ignored without a pattern. -/
def injectError (p : Nat) (d : Dev) : Dev :=
  if rd d (K.tx_TX_STATE p) = 3 ∧ (rd d (K.tx_TX_TEST p) = 1 ∨ rd d (K.tx_TX_TEST p) = 2) then
    modTx p (fun x => { x with inverted := x.inverted ++ [bitsIn (txRate d p) (d.now - x.testAt)] }) d
  else d

/-- Bit `n` of the pattern that transmitter `p` sends, from its start: the pattern after an open beginning, the inverted bits apart. -/
def testBit (d : Dev) (p n : Nat) : Bool :=
  let c := rd d (K.tx_TX_TEST p)
  let start := (List.range 31).map fun i => bitAt (Config.prbsStart p (tx d p).testAt).toNat i
  ((prbsBits c (n + 1) start).getLastD false) != (tx d p).inverted.contains n

/-- The kinds of signal on transmit balls (R205, R207, R226, R227, R230, R251). -/
inductive Sent where
  | off
  | static
  | picture (rate : Nat)
  | pattern (rate code : Nat)
  | recovered (rate : Nat)
  | blocks
  deriving DecidableEq, Repr

/-- What transmitter `p` sends: nothing, a static level while squelched, its SDI, a pattern, the bits recovered, or tie blocks; a far-end
loop that waits for a near-end loop sends the SDI (R227). -/
def txContent (d : Dev) (p : Nat) : Sent :=
  match rd d (K.tx_TX_STATE p) with
  | 1 => .picture (txRate d p)
  | 2 => .static
  | 3 =>
    if rd d (K.tx_TX_TEST p) = 3 then (if farEnd d p then .recovered (txRate d p) else .picture (txRate d p))
    else .pattern (txRate d p) (rd d (K.tx_TX_TEST p))
  | 4 => .blocks
  | _ => .off

/-! ## Tie transmission (R209, R222, R240 to R242) -/

/-- Duration of `n` blocks of 65,536 bits at 47.52 Gb/s (R240). -/
def blocksPs (n : Nat) : Ps := n * 65536 * 100000 / 4752

/-- The block in progress that bundle `b` sends, counted from its enable (R240; its first is 0, log entry 94). -/
def sentBlock (d : Dev) (b : Nat) : Nat := (d.now - (tie d b).sendFrom) * 4752 / (65536 * 100000)

/-- The next block boundary of the transmitters of bundle `b`. -/
def nextBlockAt (d : Dev) (b : Nat) : Ps := (tie d b).sendFrom + blocksPs (sentBlock d b + 1)

/-- The drive that lane `p` takes with changes to its assigned profile (R222): a tie transmitter at its next block boundary. -/
def loadDrive (p : Nat) (d : Dev) : Dev :=
  let r := if (tieOf d p).isSome then 0x20 else rd d (K.tx_TX_RATE p)
  let v := profileFor d p r true
  if r = 0 then d
  else match tieOf d p with
    | none => modTx p (fun x => { x with drive := v, driveNext := none }) d
    | some b =>
      modTx p (fun x => { x with
        drive := match x.driveNext with
          | some (t, w) => if t ≤ d.now then w else x.drive
          | none => x.drive
        driveNext := some (nextBlockAt d b, v) }) d

/-- The drive in force on transmitter `p` (R222). -/
def txDrive (d : Dev) (p : Nat) : List Byte :=
  match (tx d p).driveNext with
  | some (t, v) => if t ≤ d.now then v else (tx d p).drive
  | none => (tx d p).drive

/-- A bit list as bytes, most significant bit first. -/
def packBits : Nat → List Bool → List Byte
  | 0, _ => []
  | n + 1, l => BitVec.ofNat 8 ((l.take 8).foldl (fun a b => 2 * a + b.toNat) 0) :: packBits n (l.drop 8)

/-- The scrambling sequence of a block (R240): PRBS31 from the seed 0x10000000 + BLOCK, whose bit 30 is the oldest of the 31 bits before
the first (log entry 94). -/
def tieScramble (block n : Nat) : List Byte :=
  packBits n (prbsBits 2 (8 * n) ((List.range 31).map (bitAt (0x10000000 + block))))

/-- Exclusive-or of byte lists. -/
def xorBytes (a b : List Byte) : List Byte := List.zipWith (· ^^^ ·) a b

/-- The header of a block (R241), most significant byte first. -/
def tieHead (device bundle lane block : Nat) : List Byte :=
  natBE 8 (0x7A3C91E5 * 2 ^ 32 + device % 4 * 2 ^ 28 + bundle % 16 * 2 ^ 24 + lane % 8 * 2 ^ 21 + block % 65536)

/-- A block as it is sent (R240): header, then payload and CRC-32C scrambled. -/
def tieBlockBytes (head payload : List Byte) : List Byte :=
  let body := payload ++ natBE 4 (crc32c (head.drop 4 ++ payload))
  head ++ xorBytes body (tieScramble (beNat (head.drop 6)) body.length)

/-- The payload that lane `k` sends in block `n` of bundle `b`: a data lane's stripe of the tie channels, whose layout the manual leaves open;
the belay lane's is the exclusive-or of the four (R242, R251). -/
def tiePayload (b k n : Nat) : List Byte :=
  let data (k : Nat) := natLE 8180 (Config.tieStripe b k n).toNat
  if k < 4 then data k else xorBytes (xorBytes (data 0) (data 1)) (xorBytes (data 2) (data 3))

/-- Block `n` as lane `k` of bundle `b` sends it. -/
def tieBlockSent (d : Dev) (b k n : Nat) : List Byte :=
  tieBlockBytes (tieHead (rd d K.x2230_ROPE_ID) b k n) (tiePayload b k n)

/-- A tie bundle's settings apply: its ports' receivers and transmitters follow; one that is enabled starts sending, a disabled one
forgets (R239, R255). -/
def tieApply (b : Nat) (d : Dev) : Dev :=
  let d := if on d (K.tb_TIE_ENABLE b) then onlyIf (rd d (K.tb_BUNDLE_STATE b) == 0) (modTie b fun _ => { sendFrom := d.now }) d
    else wr (K.tb_PARTNER_SEEN b) 0xFF (modTie b (fun _ => {}) d)
  let d := forAll (List.range 5) (fun k d => loadDrive (8 * b + k) (txUpdate (8 * b + k) (rxApply (8 * b + k) d))) d
  tieRecount b d

/-! ## Quad PLLs (R207 to R210) -/

/-- The transmitters of quad `q` that run on family `f`. -/
def quadTx (d : Dev) (q f : Nat) : List Nat :=
  ((List.range 4).map (4 * q + ·)).filter fun p => rd d (K.tx_TX_STATE p) != 0 && txFamily d p == f

/-- Transmitter `p` is squelched from t0 on (R207 step 2, R855). -/
def squelch (p t0 : Nat) (d : Dev) : Dev :=
  txUpdate p (modTx p (fun x => { x with squelchAt := some t0, sqFamily := txFamily d p, realigned := false, wasTest := txTesting d p }) d)

/-- Step 2 of R207: the PLL reads RELOCKING, its transmitters squelch, its receivers see LOL; the parallel loop has no CDR. -/
def quadLoss (q f : Nat) (d : Dev) : Dev :=
  if rd d (kPllState q f) ≠ 2 then d
  else
    let txs := quadTx d q f
    let rxs := ((List.range 4).map (4 * q + ·)).filter fun p =>
      rd d (K.rx_RX_STATE p) != 0 && famOf (rd d (K.rx_RX_RATE p)) == f && !(looped d p && rd d (K.rx_RX_TEST p) == 2)
    let d := incSat 32 (kPllRelocks q f) (wr (kPllState q f) 3 (setPllT0 q f (some d.now) d))
    forAll rxs (fun p d => rawLol p true (modRx p (fun x => { x with ballLol := true }) d))
      (forAll txs (fun p => squelch p d.now) d)

/-- Step 3 of R207: lock is confirmed on a band. -/
def quadRelocked (q f band : Nat) (d : Dev) : Dev :=
  let st := rd d (kPllState q f)
  if st = 3 ∨ st = 1 then wr (kPllBand q f) band (wr (kPllState q f) 2 d) else d

/-- An interruption of a transmitter's framing has ended: it is measured, counted and raised (R815). -/
def interruption (p n : Nat) (d : Dev) : Dev :=
  let d := wr K.x1C10_MAX_INTERRUPT_US (max (rd d K.x1C10_MAX_INTERRUPT_US) n) (incSat 32 K.x1C10_INTERRUPTIONS d)
  raiseX 0x15 (K.tx_TX_STATE p) 0 n 0xFF 0xFFFFFFFF (natLE 2 p) none d

/-- Step 4 of R207 on one transmitter: its interpolator is realigned; a test signal resumes (R855). -/
def realignTx (p : Nat) (d : Dev) : Dev :=
  match (tx d p).squelchAt with
  | none => d
  | some t0 =>
    if (tx d p).wasTest then
      wr (K.tx_LAST_SQUELCH_US p) (usSince d t0) (txUpdate p (modTx p (fun x => { x with squelchAt := none, wasTest := false }) d))
    else modTx p (fun x => { x with realigned := true }) d

/-- Step 5 of R207 on one transmitter: it resumes at the first EAV; the duration and the quad's latest instant are recorded,
and an event names the quad (R855). A tie transmitter resumes at a block boundary once its PLL is LOCKED, with no EAV and no SDI
framing to measure (R209). -/
def resumeTx (p : Nat) (d : Dev) : Dev :=
  match (tx d p).squelchAt with
  | none => d
  | some t0 =>
    let n := usSince d t0
    let resumed := wr (K.tx_LAST_SQUELCH_US p) n (txUpdate p (modTx p (fun x => { x with squelchAt := none, realigned := false }) d))
    if (tieOf d p).isSome then (if txPllLocked d p then resumed else d)
    else if (tx d p).realigned && txPllLocked d p then
      interruption p n (condition (K.quad_LAST_RELOCK_US (p / 4)) (wr (K.quad_LAST_RELOCK_US (p / 4)) n resumed))
    else d

/-! ## Tie reception (R240 to R249) -/

/-- A block as it arrives: its header fields, and its payload when its CRC is good. -/
structure TieSeen where
  device : Nat
  bundle : Nat
  lane : Nat
  block : Nat
  payload : Option (List Byte)
  deriving DecidableEq, Repr

/-- What 65,536 bits at the position of a block hold (R240, R241): nothing without the alignment word in its place. -/
def tieParse (l : List Byte) : Option TieSeen :=
  let h := beNat (l.take 8)
  if l.length = 8192 ∧ fld h 32 32 = 0x7A3C91E5 then
    let body := xorBytes (l.drop 8) (tieScramble (fld h 0 16) 8184)
    let pay := body.take 8180
    some { device := fld h 28 2, bundle := fld h 24 4, lane := fld h 21 3, block := fld h 0 16
           payload := if beNat (body.drop 8180) = crc32c (slice 4 4 l ++ pay) then some pay else none }
  else none

/-- Does a header show the expected identity of lane `k` of bundle `b` (R243)? -/
def tieExpected (d : Dev) (b k : Nat) (x : TieSeen) : Bool :=
  (rd d (K.tb_PARTNER_ID b) == 0xFF || x.device == rd d (K.tb_PARTNER_ID b)) &&
    (rd d (K.tb_PARTNER_BUNDLE b) == 0xFF || x.bundle == rd d (K.tb_PARTNER_BUNDLE b)) &&
    x.lane == k && x.device != rd d K.x2230_ROPE_ID

/-- One lane takes a block position (R198): headers are counted toward LOCKED or MISWIRED, missing ones toward ALIGN. -/
def tieHeader (b k : Nat) (x : Option TieSeen) (d : Dev) : Dev :=
  let p := 8 * b + k
  let st := rd d (K.rx_RX_STATE p)
  let miss (d : Dev) : Dev :=
    if st = 3 ∧ 3 ≤ (rx d p).miss then rxState p 2 (modRx p (fun r => { r with alignAt := d.now, miss := 0 }) d) else d
  match x with
  | some h =>
    if tieExpected d b k h then
      let n := (rx d p).good + 1
      let d := modRx p (fun r => { r with good := n, miss := 0, foreign := 0 })
        (wr (K.tb_PARTNER_SEEN b) (h.device * 16 + h.bundle) d)
      onlyIf ((st == 2 || st == 5) && decide (3 ≤ n)) (rxState p 3) d
    else
      let n := (rx d p).foreign + 1
      let d := modRx p (fun r => { r with good := 0, miss := r.miss + 1, foreign := n }) d
      if st = 2 ∧ 3 ≤ n then rxState p 5 d else miss d
  | none => miss (modRx p (fun r => { r with good := 0, foreign := 0, miss := r.miss + 1 }) d)

/-- How many blocks position `n` lies after position `m`, BLOCK numbers wrapping. -/
def blocksAfter (m n : Nat) : Nat := (n + 65536 - m) % 65536

/-- The largest group of lanes at given positions that lie within 2 blocks, each with its distance from the group's rear; the first of
equal groups (R244). -/
def tieGroup (l : List (Nat × Nat)) : List (Nat × Nat) :=
  (l.map fun x => (l.map fun y => (y.1, blocksAfter x.2 y.2)).filter fun y => decide (y.2 ≤ 2)).foldl
    (fun best g => if best.length < g.length then g else best) []

/-- The lanes of bundle `b` take the blocks of one block time: their positions by BLOCK number, from the count where a block is missing or bad;
the last three blocks of each; the largest group within 2 blocks is deskewed (R244). -/
def tieDeskew (b : Nat) (seen : List (Option TieSeen)) (d : Dev) : Dev :=
  let t := tie d b
  let lanes := List.range 5
  let place (k : Nat) : Option Nat := match seen.getD k none with
    | some x => if x.payload.isSome then some x.block else (t.place.getD k none).map fun n => (n + 1) % 65536
    | none => (t.place.getD k none).map fun n => (n + 1) % 65536
  let locked := lanes.filter fun k => rd d (K.rx_RX_STATE (8 * b + k)) == 3
  let at_ := locked.filterMap fun k => (place k).map fun n => (k, n)
  let g := tieGroup at_
  let front := match g with
    | [] => (t.front + 1) % 65536
    | (k, o) :: _ => (((place k).getD 0) + 65536 - o + (g.map (·.2)).foldl max 0) % 65536
  modTie b (fun t => { t with
    place := lanes.map fun k => if locked.contains k then place k else none
    bufs := lanes.map fun k =>
      let old := (t.bufs.getD k []).take 2
      match seen.getD k none with
      | some x => if locked.contains k then (x.block, if tieExpected d b k x then x.payload else none) :: old else []
      | none => if locked.contains k then old else []
    deskewed := lanes.map fun k => g.any (·.1 == k)
    front := front }) d

/-- The payload of lane `k` at BLOCK `n`, if it arrived there with a good CRC (R246). -/
def tieAt (t : TieBundle) (k n : Nat) : Option (List Byte) :=
  ((t.bufs.getD k []).find? (·.1 == n)).bind (·.2)

/-- The five blocks of one BLOCK number, two behind the front: one erased is rebuilt by exclusive-or, more are lost with their payload while
the bundle `flowed` (R242, R246, R249); runs of erased and good blocks count, and three erased move a LOCKED lane to lost (R247). -/
def tieJudge (b : Nat) (flowed : Bool) (d : Dev) : Dev :=
  let t := tie d b
  let n := (t.front + 65534) % 65536
  let lanes := List.range 5
  let got := lanes.map fun k => tieAt t k n
  let bad := (got.filter Option.isNone).length
  let locked (k : Nat) : Bool := rd d (K.rx_RX_STATE (8 * b + k)) == 3
  let erased := lanes.map fun k => if (got.getD k none).isSome || !locked k then 0 else t.erased.getD k 0 + 1
  let d := modTie b (fun t => { t with
    erased := erased
    good := lanes.map fun k => if (got.getD k none).isSome then t.good.getD k 0 + 1 else 0
    rebuilt := if bad = 1 then (got.filterMap id).foldl (fun a x => if a.isEmpty then x else xorBytes a x) [] else t.rebuilt
    dataLost := if flowed && decide (2 ≤ bad) then lanes else t.dataLost
    lost := lanes.map fun k => t.lost.getD k false || decide (3 ≤ erased.getD k 0) }) d
  let d := onlyIf (bad == 1) (inc64 (K.tb_REBUILT_BLOCKS b)) d
  tieRecount b (onlyIf (flowed && decide (2 ≤ bad)) (inc64 (K.tb_LOST_BLOCKS b)) d)

/-- MAX_SKEW_NS (R244, R255): the largest skew between the lanes up and those LOCKED but too far from the others. -/
def tieSkew (b : Nat) (d : Dev) : Dev :=
  let t := tie d b
  let l := ((List.range 5).filter fun k =>
    rd d (K.rx_RX_STATE (8 * b + k)) == 3 && !(t.deskewed.getD k false && t.lost.getD k false)).map fun k => t.skew.getD k 0
  wr (K.tb_MAX_SKEW_NS b) (Nat.min 0xFFFF (l.foldl max 0 - l.foldl min (l.headD 0))) d

/-- The lanes of an enabled bundle take what arrived in one block time, with the arrival of each lane in ns (R240 to R249). -/
def tieBlocks (b : Nat) (blocks : List (Option (List Byte))) (skewNs : List Nat) (d : Dev) : Dev :=
  if on d (K.tb_TIE_ENABLE b) then
    let flowed := rd d (K.tb_BUNDLE_STATE b) == 3 || rd d (K.tb_BUNDLE_STATE b) == 4
    let seen := blocks.map fun x => x.bind tieParse
    let d := forAll (List.range 5) (fun k => tieHeader b k (seen.getD k none)) d
    let d := tieJudge b flowed (tieDeskew b seen (modTie b (fun x => { x with skew := skewNs }) d))
    tieSkew b d
  else d

/-- A lost lane rejoins: LOCKED, deskewed and 1,024 good blocks in a row (R248). -/
def tieRejoin (b k : Nat) (d : Dev) : Dev :=
  let t := tie d b
  if t.lost.getD k false ∧ t.deskewed.getD k false ∧ 1024 ≤ t.good.getD k 0 ∧ rd d (K.rx_RX_STATE (8 * b + k)) = 3 then
    tieSkew b (tieRecount b (modTie b (fun t => { t with lost := setAt t.lost k false }) d))
  else d

/-! ## Eye scan (R231 to R237) -/

/-- Is `v` one of the steps of R232? -/
def eyeStep (v : Nat) : Bool := v == 1 || v == 2 || v == 4 || v == 8

/-- Number of points of a scan. -/
def eyePoints (d : Dev) (s : Nat) : Nat := 64 / arg d s 7 * (128 / arg d s 8)

/-- An eye scan enters RUNNING: arguments, condition and another scan of the port are checked (R232, R236), POINTS is set
and [rx:14] emptied (R234). -/
def eyeEnter (s : Nat) (d : Dev) : Dev :=
  let p := arg d s 6
  if !(decide (p < 128) && eyeStep (arg d s 7) && eyeStep (arg d s 8) && decide (20 ≤ arg d s 9) && decide (arg d s 9 ≤ 40)) then
    finishSlot s 4 1 d
  else if !eyeReady d p then finishSlot s 4 2 d
  else if (List.range 64).any (fun x => x != s && running d x 0x50 && arg d x 6 == p) then finishSlot s 4 4 d
  else wrB (K.rx_EYE_MAP p) [] (setArg s 0xA (eyePoints d s) d)

/-- One point of a scan ends with a count of disagreements (R233, R234); an abort asked before takes effect now, else the end of the last
point is the completion point (R235). -/
def eyePoint (s errors : Nat) (d : Dev) : Dev :=
  let p := arg d s 6
  let n := (slotRun d s).pos
  let rows := 128 / arg d s 8
  let phase : Int := (n / rows * arg d s 7 : Nat) - 32
  let volt : Int := (n % rows * arg d s 8 : Nat) - 64
  let w := tc 6 phase * 2 ^ 58 + tc 7 volt * 2 ^ 51 + arg d s 9 * 2 ^ 40 + Nat.min errors 0xFFFFFFFFFF
  let d := pushResult s w (wrB (K.rx_EYE_MAP p) (rdB d (K.rx_EYE_MAP p) ++ natLE 8 w) d)
  let d := setProgress s (100 * (n + 1) / arg d s 0xA) (modSlot s (fun x => { x with pos := n + 1 }) d)
  if (slotRun d s).abortAsked then abortSlot s d
  else if n + 1 = arg d s 0xA then finishSlot s 3 0 d
  else d

end Sys2Proof.Machine
end

