-- ==== Sys2Proof/Machine/Operands.lean ====
section
/-! DEFINITION. Operand forms: format words, rasters and rates, mappings, audio source codes, and the ranges that
dictionary entries state by form. -/

namespace Sys2Proof.Machine

/-! ## Format words (R257) -/

def fmtRaster (f : Nat) : Nat := fld f 28 4

def fmtScan (f : Nat) : Nat := fld f 26 2

def fmtRate (f : Nat) : Nat := fld f 16 8

def fmtSampling (f : Nat) : Nat := fld f 12 4

def fmtDepth (f : Nat) : Nat := fld f 8 4

def fmtColour (f : Nat) : Nat := fld f 4 4

def fmtTransfer (f : Nat) : Nat := fld f 0 4

/-- The format word of its fields. -/
def mkFormat (raster scan rate sampling depth colour transfer : Nat) : Nat :=
  raster * 2 ^ 28 + scan * 2 ^ 26 + rate * 2 ^ 16 + sampling * 2 ^ 12 + depth * 2 ^ 8 + colour * 16 + transfer

/-- Active width and height of a RASTER code. -/
def rasterSize : Nat → Nat × Nat
  | 1 => (720, 486)
  | 2 => (720, 576)
  | 3 => (1280, 720)
  | 4 => (1920, 1080)
  | 5 => (2048, 1080)
  | 6 => (3840, 2160)
  | 7 => (4096, 2160)
  | 8 => (7680, 4320)
  | 9 => (8192, 4320)
  | _ => (0, 0)

/-- The RASTER code of a size, 0 when it has none. -/
def rasterOf (w h : Nat) : Nat :=
  ((List.range 10).find? fun r => r != 0 && (rasterSize r).1 == w && (rasterSize r).2 == h).getD 0

/-- Lines of a raster in all, blanking included (from the SDI standards, PRESUMED, log entry 8). -/
def rasterLines : Nat → Nat
  | 1 => 525
  | 2 => 625
  | 3 => 750
  | 4 => 1125
  | 5 => 1125
  | 6 => 2250
  | 7 => 2250
  | 8 => 4500
  | 9 => 4500
  | _ => 0

/-- Frame rate of a RATE code as numerator and denominator, frames per second. -/
def rateFrac : Nat → Nat × Nat
  | 0x01 => (24000, 1001)
  | 0x02 => (24, 1)
  | 0x03 => (25, 1)
  | 0x04 => (30000, 1001)
  | 0x05 => (30, 1)
  | 0x06 => (48000, 1001)
  | 0x07 => (48, 1)
  | 0x08 => (50, 1)
  | 0x09 => (60000, 1001)
  | 0x0A => (60, 1)
  | 0x0B => (100, 1)
  | 0x0C => (120000, 1001)
  | 0x0D => (120, 1)
  | 0xF0 => (1, 1)
  | _ => (0, 1)

/-- Nominal period of a RATE code in ps, rounded down. -/
def ratePeriod (r : Nat) : Ps := (rateFrac r).2 * 1000000000000 / (rateFrac r).1

/-- Is the rate of a /1.001 family (R283)? -/
def rateFractional (r : Nat) : Bool := (rateFrac r).2 == 1001

/-- Does a measured period lie within 500 ppm of a RATE code's nominal period (R258)? -/
def rateMatches (periodPs r : Nat) : Bool :=
  let a := periodPs * (rateFrac r).1
  let b := (rateFrac r).2 * 1000000000000
  (rateFrac r).1 != 0 && decide (a * 1000000 ≤ b * 1000500) && decide (b * 999500 ≤ a * 1000000)

/-- The RATE code of a measured period, 0 when none lies within 500 ppm (R258). -/
def rateOfPeriod (periodPs : Nat) : Nat :=
  ((List.range 14).find? fun r => r != 0 && rateMatches periodPs r).getD 0

/-- Line period of a format in ps. -/
def linePeriod (f : Nat) : Ps := ratePeriod (fmtRate f) / rasterLines (fmtRaster f)

/-- Is a word a valid EXPECT_FORMAT (R277)? -/
def formatOk (v : Nat) : Bool :=
  v == 0 || (decide (1 ≤ fmtRaster v) && decide (fmtRaster v ≤ 9) && decide (fmtScan v ≤ 2) && fld v 24 2 == 0 &&
    decide (1 ≤ fmtRate v) && decide (fmtRate v ≤ 0x0D) && fld v 0 16 == 0)

/-! ## What a rate or assembly carries (R283, R853) -/

/-- Frames per second at most `n`. -/
def rateUpTo (r n : Nat) : Bool := decide ((rateFrac r).1 ≤ n * (rateFrac r).2)

/-- The table of R283: does link kind `c` (a rate code, or 0x40 dual-link 3G, 0x41 quad-link 3G, 0x42 quad-link 12G, 0x43
dual-link 24G) bound the format? -/
def linkBound (c f : Nat) : Bool :=
  let r := fmtRaster f
  let sc := fmtScan f
  let fr := fmtRate f
  match c % 0x10 + (if c < 0x40 then 0 else 0x40) with
  | 0x01 => (r == 1 && sc == 1 && fr == 4) || (r == 2 && sc == 1 && fr == 3)
  | 0x02 => (r == 3 && sc == 0 && rateUpTo fr 60) || ((r == 4 || r == 5) && rateUpTo fr 30)
  | 0x03 => (r == 3 && sc == 0 && rateUpTo fr 60) || ((r == 4 || r == 5) && rateUpTo fr 60)
  | 0x04 => (r == 6 || r == 7) && rateUpTo fr 30
  | 0x05 => (r == 6 || r == 7) && rateUpTo fr 60
  | 0x06 => (r == 6 || r == 7) && rateUpTo fr 120
  | 0x40 => (r == 4 || r == 5) && rateUpTo fr 60
  | 0x41 => (r == 6 || r == 7) && rateUpTo fr 60
  | 0x42 => (r == 8 || r == 9) && rateUpTo fr 60
  | 0x43 => (r == 8 || r == 9) && rateUpTo fr 60
  | _ => false

/-- Does the standard of the image format define a raster, scan and frame rate (PRESUMED, log entry 8)? Interlaced at 25 to 30 frames per
second, PsF and 30 frames per second or less from 24/1.001 on; 48 frames per second for the wider rasters alone. -/
def formatDefined (f : Nat) : Bool :=
  let r := fmtRaster f
  let fr := fmtRate f
  let low := decide (1 ≤ fr) && decide (fr ≤ 5)
  let wide := r == 5 || r == 7 || r == 9
  match fmtScan f with
  | 0 => 3 ≤ r && (low || ((fr == 6 || fr == 7) && wide) || (decide (8 ≤ fr) && decide (fr ≤ 0x0D)))
  | 1 => (r == 1 && fr == 4) || (r == 2 && fr == 3) || (r == 4 && decide (3 ≤ fr) && decide (fr ≤ 5))
  | 2 => (r == 4 || r == 5) && low
  | _ => false

/-- The mapping tables of the standards that R853 binds (PRESUMED beyond R853, log entry 8): mapping 0x0 alone at 270 Mb/s, 1.485 Gb/s
and 5.94 Gb/s. At 2.97 Gb/s, 1280×720 in 10-bit 4:4:4 at level A; 1080 lines in 10-bit 4:2:2 above 30 frames per second, in the wider
mappings up to 30, at either level. Elsewhere 10-bit 4:2:2 in the upper half of the frame rates and the wider mappings in the half below;
dual-link 3G the wider mappings above 30 frames per second. -/
def mappingOk (c f m : Nat) : Bool :=
  let plain := m % 16 == 0
  let high := !rateUpTo (fmtRate f) 30
  formatDefined f && (match c % 0x10 + (if c < 0x40 then 0 else 0x40) with
    | 0x01 => plain
    | 0x02 => plain
    | 0x03 =>
      if fmtRaster f = 3 then decide (m < 0x80) && (m % 16 == 1 || m % 16 == 3 || m % 16 == 5) else plain == high
    | 0x04 => plain
    | 0x06 => if rateUpTo (fmtRate f) 60 then !plain && high else plain
    | 0x40 => !plain && high
    | _ => plain == high)

/-- Does the family of a rate code fit the frame rate (R283)? -/
def familyOk (c f : Nat) : Bool := c == 1 || ((c / 0x10 == 1) == rateFractional (fmtRate f))

/-- Does a rate code or assembly carry a format with a mapping (R283, R853)? `link` is the kind as in `linkBound`, `rate` the
rate code of its links. -/
def carries (link rate f m : Nat) : Bool := linkBound link f && mappingOk link f m && familyOk rate f

/-- Is a word a valid TG_FORMAT: a format some rate or assembly carries, bits 15..0 zero (R278)? -/
def tgFormatOk (v : Nat) : Bool :=
  v != 0 && formatOk v && [0x01, 0x02, 0x03, 0x04, 0x05, 0x06, 0x40, 0x41, 0x42, 0x43].any fun c =>
    linkBound c v && (mappingOk c v 0 || mappingOk c v 1)

/-! ## Other ranges stated by form -/

/-- A multi-link mode byte (R211). -/
def mlModeOk (v : Nat) : Bool :=
  decide (v / 16 ≤ 5) && fld v 1 3 == 0 && (v % 2 == 0 || (decide (1 ≤ v / 16) && decide (v / 16 ≤ 3)))

/-- A PRESET: 0, or source and destination with COLOUR 0 to 2 and TRANSFER 0 to 2 (R349). -/
def presetOk (v : Nat) : Bool :=
  v == 0 || (decide (fld v 12 4 ≤ 2) && decide (fld v 8 4 ≤ 2) && decide (fld v 4 4 ≤ 2) && decide (fld v 0 4 ≤ 2))

/-- An audio source code of the table of R486. -/
def audioSrcOk (v : Nat) : Bool :=
  decide (v < 0x1020) || (decide (0x1400 ≤ v) && decide (v < 0x1800)) || v == 0x1F00 || v == 0x1F01 || v == 0xFFFF

/-- The query word of [3808:01] (R585): bit 31 clear, an LPN in bits 18..0; bit 31 set, a domain in bits 29..24 and a window
page in bits 18..0. -/
def queryOk (v : Nat) : Bool := if v < 2 ^ 31 then decide (v < 2 ^ 19) else fld v 30 1 == 0 && fld v 19 5 == 0

/-- Is a number within the range of its row (R70, R112)? -/
def inRange : Rng → Nat → Bool
  | .any, _ => true
  | .iv l, v => l.any fun p => decide (p.1 ≤ v) && decide (v ≤ p.2)
  | .mask m, v => Nat.land v m == v
  | .mlMode, v => mlModeOk v
  | .format, v => formatOk v
  | .tgFormat, v => tgFormatOk v
  | .preset, v => presetOk v
  | .audioSrc, v => audioSrcOk v
  | .query, v => queryOk v
  | .page4k, v => v % 4096 == 0
  | .lutBody, _ => true

/-! ## Units of a region (R9) -/

def regionOfPort (p : Nat) : Nat := p / 32

/-- Region of compositor number `n`, evidence compositors counting from 64 (R9). -/
def regionOfComp (n : Nat) : Nat := if n < 64 then n / 16 else (n - 64) / 2

/-- The block of a compositor as its place in [1012] (R9, R17). -/
def blockOfComp (n : Nat) : Nat := if n < 64 then 0x11 + n / 4 else 0x21 + (n - 64) / 2

def blockOfPort (p : Nat) : Nat := 1 + p / 8

/-- The region of a block by its sub-index in [1012]; memory blocks belong to the chip (R9). -/
def regionOfBlock (b : Nat) : Option Nat :=
  if b < 0x11 then some ((b - 1) / 4) else if b < 0x21 then some ((b - 0x11) / 4) else if b < 0x25 then some (b - 0x21)
  else none

/-- Does block `b` read other than RUNNING, or its region ISOLATED, REPLAYING or DISABLED? -/
def blockDown (d : Dev) (b : Nat) : Bool :=
  on d (0x1012 * 256 + b) || (regionOfBlock b).any fun r => decide (2 ≤ rd d (K.x1011_REGION_STATE r))

/-- The generator a compositor or route follows. -/
def compTg (d : Dev) (n : Nat) : Nat := rd d (K.cmp_TG_SELECT n)

def routeTg (d : Dev) (p : Nat) : Nat := rd d (K.route_TG_SELECT p)

/-- The format of generator `g`. -/
def tgFormat (d : Dev) (g : Nat) : Nat := rd d (K.tg_TG_FORMAT g)

end Sys2Proof.Machine
end

