-- ==== Sys2Proof/Machine/Clocks.lean ====
section
/-! DEFINITION. Clocks, PLLs and genlock (12): PLL blocks, the genlock reference, alignment and bivouac of the timing
generators, the system time counter. -/

namespace Sys2Proof.Machine

def inp (d : Dev) (p : Nat) : Inp := tabGet {} d.video.inp p

def modInp (p : Nat) (f : Inp → Inp) (d : Dev) : Dev := { d with video := { d.video with inp := tabMod {} p f d.video.inp } }

def tg (d : Dev) (g : Nat) : Tg := tabGet {} d.video.tg g

def modTg (g : Nat) (f : Tg → Tg) (d : Dev) : Dev := { d with video := { d.video with tg := tabMod {} g f d.video.tg } }

def modClk (f : Clocks → Clocks) (d : Dev) : Dev := { d with clk := f d.clk }

/-! ## Timing generators (R656 to R667) -/

/-- Frame period of generator `g` in ps. -/
def tgPeriod (d : Dev) (g : Nat) : Ps := ratePeriod (fmtRate (tgFormat d g))

/-- A frequency in ppb on its way from `a` to `b` for a time: by at most 1 ppm per second (R657). -/
def rampPpb (a b : Int) (dt : Ps) : Int :=
  let m : Int := (dt / 1000000000 : Nat)
  if a ≤ b then min (a + m) b else max (a - m) b

/-- The frequency of generator `g` against the root, slew included, and the slew offset in force (R657, R661). -/
def tgRun (d : Dev) (g : Nat) : Int := rampPpb (tg d g).runFrom ((tg d g).freqPpb + (tg d g).offPpb) (d.now - (tg d g).runAt)

def tgOffset (d : Dev) (g : Nat) : Int := rampPpb (tg d g).offFrom (tg d g).offPpb (d.now - (tg d g).runAt)

/-- A period of a clock that runs `ppb` fast. -/
def atPpb (p : Ps) (ppb : Int) : Ps := p * 1000000000 / (1000000000 + ppb).toNat

/-- The frame period of generator `g` at its frequency, and at its source's. -/
def tgPeriodNow (d : Dev) (g : Nat) : Ps := atPpb (tgPeriod d g) (tgRun d g)

def tgPeriodSource (d : Dev) (g : Nat) : Ps := atPpb (tgPeriod d g) (tg d g).freqPpb

/-- The period of the reference pulses: that of REF_FRAME_RATE against REF_CLK, at its offset while LOCKED (R651). -/
def refPeriod (d : Dev) : Ps :=
  atPpb (ratePeriod (rd d K.x1410_REF_FRAME_RATE)) (if rd d K.x1410_REF_STATE = 3 then sx 32 (rd d K.x1410_REF_OFFSET_PPB) else 0)

/-- Generator `g` goes to frequency `f` and slew offset `off`, without a step (R657). -/
def tgAim (g : Nat) (f off : Int) (d : Dev) : Dev :=
  modTg g (fun x => { x with
    freqPpb := f, offPpb := off, runFrom := tgRun d g, offFrom := tgOffset d g, runAt := d.now
    freqSince := if f = x.freqPpb then x.freqSince else d.now
    hist := if f ≠ x.freqPpb ∧ x.lockedSince.isSome then
        (x.hist.filter fun p => decide (d.now ≤ p.2.1 + sec 11)) ++ [(max x.freqSince (x.lockedSince.getD 0), d.now, x.freqPpb)]
      else x.hist }) d

/-- The window of R667 over which LOCKED time counts: from 10 s to 100 ms before the declaration. -/
def heldMean (x : Tg) (run : Int) (now : Ps) (wasLocked : Bool) : Int :=
  let hi := now - ms 100
  let lo := hi - (sec 10 - ms 100)
  let l := x.hist ++ (match x.lockedSince with
    | some a => (if wasLocked then [(max a x.freqSince, now, x.freqPpb)] else [])
    | none => [])
  let parts := l.map fun p => (min p.2.1 hi - max p.1 lo, p.2.2)
  let total := parts.foldl (fun a p => a + p.1) 0
  if total = 0 then run else (parts.foldl (fun (a : Int) p => a + Int.ofNat p.1 * p.2) 0) / Int.ofNat total

/-- A generator stops reading LOCKED: the time it read so is kept with its frequency (R667). -/
def tgLeaveLocked (g : Nat) (d : Dev) : Dev :=
  let x := tg d g
  match x.lockedSince with
  | none => d
  | some a =>
    modTg g (fun x => { x with
      lockedSince := none
      hist := (x.hist.filter fun p => decide (d.now ≤ p.2.1 + sec 11)) ++ [(max a x.freqSince, d.now, x.freqPpb)] }) d

/-- Entry to BIVOUAC at the held frequency (R667); a slew or a waiting realignment is abandoned (R665). `held` is false for a
generator whose source was never LOCKED since LOCK_SOURCE changed: it runs at its nominal frequency (R656). -/
def tgBivouac (g : Nat) (held : Bool) (d : Dev) : Dev :=
  if rd d (K.tg_TG_STATE g) = 3 then d
  else
    let x := tg d g
    let f := if held then heldMean x (tgRun d g - tgOffset d g) d.now (rd d (K.tg_TG_STATE g) == 2) else 0
    let d := tgLeaveLocked g d
    let d := tgAim g f 0 (modTg g (fun x => { x with realign := none, alignAt := none, bivouacAt := some d.now }) d)
    let d := wr (K.tgl_HELD_PPB g) (satTc 32 f) d
    change (K.tg_TG_STATE g) 3 (incSat 32 (K.tgl_BIVOUAC_ENTRIES g) d)

/-- Duration of the present or latest bivouac in ms, saturating (R669). -/
def bivouacMs (d : Dev) (g : Nat) : Nat :=
  match (tg d g).bivouacAt with
  | some a => Nat.min ((d.now - a) / 1000000000) (2 ^ 32 - 1)
  | none => rd d (K.tgl_BIVOUAC_MS g)

/-- Bivouac ends: its duration is kept. -/
def tgEndBivouac (g : Nat) (d : Dev) : Dev :=
  modTg g (fun x => { x with bivouacAt := none }) (wr (K.tgl_BIVOUAC_MS g) (bivouacMs d g) d)

/-- The lock source of `g`: the instant of a reference pulse and the pulse period, none for a frequency reference
only (R651, R655). -/
def tgPulse (d : Dev) (g : Nat) : Option (Ps × Ps) :=
  let src := rd d (K.tg_LOCK_SOURCE g)
  if src = 1 then
    (if rd d K.x1410_REF_FRAME_RATE = 0 then none
     else d.clk.lastPulse.map fun t => (t, refPeriod d))
  else if 0x100 ≤ src then some ((inp d (src - 0x100)).refLast, tgPeriodSource d g)
  else none

/-- PHASE_LINES and PHASE_NS as a delay (R278). -/
def tgPhase (d : Dev) (g : Nat) : Ps :=
  rd d (K.tg_PHASE_LINES g) * linePeriod (tgFormat d g) + rd d (K.tg_PHASE_NS g) * 1000

/-- The pulse nearest instant `s`, pulses falling every `p` ps from `t`. -/
def nearestPulse (t p s : Nat) : Nat := if s ≤ t then t - (t - s + p / 2) / p * p else t + (s - t + p / 2) / p * p

/-- The phase error of R659 in ps: the nearest aligned seam minus the present seam, in (-T/2, T/2]. -/
def tgPhaseError (d : Dev) (g : Nat) : Int :=
  match (tg d g).alignAt with
  | none => 0
  | some a =>
    let tp : Int := max 1 (tgPeriodSource d g)
    let r := (((a + tgPhase d g : Nat) : Int) - ((tg d g).lastSeam : Int)) % tp
    if 2 * r > tp then r - tp else r

/-- Generator `g` slews off a phase error at 1 ppm beside frequency `f` (R661). -/
def tgSlew (g : Nat) (f e : Int) (d : Dev) : Dev := tgAim g f (if e.natAbs ≤ 1000 then 0 else if 0 < e then -1000 else 1000) d

/-- R660: the phase error is evaluated once, and the generator slews or a realignment is decided (R661, R662). -/
def tgAlign (g ppb : Nat) (d : Dev) : Dev :=
  let d := tgAim g (sx 32 ppb) 0 (tgEndBivouac g (tgLeaveLocked g d))
  let d := match tgPulse d g with
    | none => modTg g (fun x => { x with alignAt := none }) d
    | some (t, p) => modTg g (fun x => { x with alignAt := some (x.alignAt.getD (nearestPulse t p x.lastSeam)) }) d
  let e := tgPhaseError d g
  let lp := linePeriod (tgFormat d g)
  let ens : Int := e / 1000
  let d := modTg g (fun x => { x with err := e, realign := none }) d
  let d := wr (K.tgl_PHASE_ERROR_NS g) (satTc 32 ens) d
  let d := change (K.tg_TG_STATE g) 1 d
  if e.natAbs ≤ 2 * lp ∨ rd d (K.tgl_JUMP_POLICY g) = 1 then
    tgSlew g (sx 32 ppb) e d
  else
    let dd := (e % (tgPeriod d g : Int)).toNat
    let m := dd / lp
    let d := modTg g (fun x => { x with realign := some (m, d.now, (dd - m * lp : Nat)) }) d
    let d := wr (K.tgl_LAST_REALIGN_LINES g) m (incSat 32 (K.tgl_REALIGNS g) d)
    raiseX 3 (K.tgl_REALIGNS g) 0 (rd d (K.tgl_REALIGNS g)) 0xFF 0xFFFFFFFF
      (natLE 4 (satTc 32 ens) ++ natLE 2 m) none d

/-- Is the source of `g` LOCKED? -/
def tgSourceLocked (d : Dev) (g : Nat) : Bool :=
  let src := rd d (K.tg_LOCK_SOURCE g)
  if src = 1 then rd d K.x1410_REF_STATE == 3 else decide (0x100 ≤ src) && (tg d g).inLocked

/-- Has the input that `g` follows the RATE of its TG_FORMAT (R280, R655)? -/
def rateFits (d : Dev) (g : Nat) : Bool :=
  fmtRate (rd d (K.ip_DETECTED_FORMAT (rd d (K.tg_LOCK_SOURCE g) - 0x100))) == fmtRate (tgFormat d g)

/-- LOCK_SOURCE, TG_FORMAT or PHASE of `g` applied: a waiting realignment is cancelled and alignment evaluated anew (R660,
R664, R666); FREE_RUN without a source, BIVOUAC while the source is not LOCKED (R656). -/
def tgReconfigure (g : Nat) (newSource : Bool) (d : Dev) : Dev :=
  let d := modTg g (fun x => { x with realign := none, alignAt := none, inLocked := x.inLocked && !newSource && rateFits d g }) d
  if rd d (K.tg_LOCK_SOURCE g) = 0 then
    let d := tgEndBivouac g (tgLeaveLocked g d)
    change (K.tg_TG_STATE g) 0 (wr (K.tgl_PHASE_ERROR_NS g) 0 (tgAim g 0 0 (modTg g (fun x => { x with err := 0 }) d)))
  else if tgSourceLocked d g then tgAlign g (satTc 32 (tg d g).freqPpb) d
  else tgBivouac g (!newSource) d

/-- The generators that follow the genlock reference. -/
def refTgs (d : Dev) : List Nat := (List.range 8).filter fun g => rd d (K.tg_LOCK_SOURCE g) == 1

/-- The realignment of a seam (R662): one that was evaluated at least 1 ms ago begins now, its frame carries m more lines;
the frame after it goes on slewing the remainder. -/
def tgRealignAtSeam (g : Nat) (d : Dev) : Dev :=
  let x := tg d g
  let d := modTg g (fun x => { x with lastSeam := d.now, extraLines := 0 }) d
  match x.realign with
  | some (m, at_, rest) =>
    if at_ + ms 1 ≤ d.now then
      tgSlew g x.freqPpb rest (wr (K.tgl_PHASE_ERROR_NS g) (satTc 32 (rest / 1000))
        (modTg g (fun x => { x with extraLines := m, realign := none, err := rest }) d))
    else d
  | none => d

/-- The slew of generator `g` has ended: LOCKED, with its frequency the source's (R656, R661). -/
def tgSlewed (g : Nat) (d : Dev) : Dev :=
  let f := (tg d g).freqPpb
  if rd d (K.tg_TG_STATE g) = 1 ∧ (tg d g).realign = none ∧ (tg d g).extraLines = 0 ∧ (tgRun d g - tgOffset d g - f).natAbs ≤ 10 then
    change (K.tg_TG_STATE g) 2 (wr (K.tgl_PHASE_ERROR_NS g) 0 (modTg g (fun x => { x with
      err := 0, lockedSince := some d.now, offPpb := 0, runFrom := f, offFrom := 0, runAt := d.now, freqSince := d.now }) d))
  else d

/-- A pulse of its source at instant `t` finds generator `g` LOCKED: it follows the frequency measured, if any, and a pulse at an alignment
point shows its phase error; one over 1 ns, from wander faster than R657, is slewed off (R656, R657, R661). -/
def tgWander (t : Ps) (ppb : Option Int) (g : Nat) (d : Dev) : Dev :=
  if rd d (K.tg_TG_STATE g) ≠ 2 then d
  else
    let f := ppb.getD (tg d g).freqPpb
    let d := onlyIf (f != (tg d g).freqPpb) (tgAim g f (tg d g).offPpb) d
    match (tg d g).alignAt with
    | none => d
    | some a =>
      let tp := max 1 (tgPeriodSource d g)
      let r := (t - a) % tp
      if us 1 < r ∧ r + us 1 < tp then d
      else
        let d := modTg g (fun x => { x with alignAt := some t }) d
        let e := tgPhaseError d g
        let d := wr (K.tgl_PHASE_ERROR_NS g) (satTc 32 (e / 1000)) (modTg g (fun x => { x with err := e }) d)
        if e.natAbs ≤ 1000 then d else tgSlew g f e (change (K.tg_TG_STATE g) 1 (tgLeaveLocked g d))

/-- The frequency of frames of a period in ps against the nominal one of generator `g`, in ppb. -/
def periodPpb (d : Dev) (g period : Nat) : Int := ((tgPeriod d g : Int) - (period : Int)) * 1000000000 / (max 1 period : Nat)

/-! ## The system time counter (R670, R671) -/

/-- The STC state and target rate follow the reference and STC_SOURCE (R671); HELD_ROOT prevails (R647). -/
def stcFollow (d : Dev) : Dev :=
  if rd d K.x1400_ROOT_STATE = 4 then wr K.x1460_STC_STATE 3 (wr K.x1460_STC_RATE_PPB (tc 32 (slewRateAt d d.now)) d)
  else if rd d K.x1460_STC_SOURCE = 1 ∧ rd d K.x1410_REF_STATE = 3 then
    let cur := if rd d K.x1460_STC_STATE = 2 then slewRateAt d d.now else stcRate d
    let goal := sx 32 (rd d K.x1410_REF_OFFSET_PPB)
    let d := modClk (fun c => { c with everSteered := true, slewStart := d.now, slewFrom := cur, slewTo := goal }) d
    wr K.x1460_STC_RATE_PPB (tc 32 cur) (wr K.x1460_STC_STATE (if cur = goal then 1 else 2) d)
  else
    let cur := if rd d K.x1460_STC_STATE = 2 then slewRateAt d d.now else stcRate d
    wr K.x1460_STC_RATE_PPB (tc 32 cur)
      (wr K.x1460_STC_STATE 0 (modClk (fun c => { c with slewFrom := cur, slewTo := cur }) d))

/-! ## The genlock reference (R650 to R654) -/

/-- The reference takes a state; its generators and the STC follow. -/
def refState (st : Nat) (d : Dev) : Dev :=
  let was := rd d K.x1410_REF_STATE
  let d := change K.x1410_REF_STATE st d
  let d := onlyIf (was == 3 && st != 3) (fun d => forAll (refTgs d) (fun g => tgBivouac g true) d) d
  stcFollow d

/-- Qualification starts anew (R652). -/
def refRequalify (d : Dev) : Dev :=
  modClk (fun c => { c with qualifySince := d.now, oddPulse := none, extra := false, extraIntervals := 0 }) d

/-- A LOCKED reference is lost and takes state `st` (R653). -/
def refLost (st : Nat) (d : Dev) : Dev :=
  let d := onlyIf (rd d K.x1410_REF_STATE == 3) (incSat 32 K.x1410_REF_LOSSES) d
  refRequalify (refState st d)

/-- A pulse is accepted as a reference frame boundary. -/
def refAccept (d : Dev) : Dev :=
  forAll (refTgs d) (tgWander d.now none)
    (wr K.x1410_LAST_PULSE_STC (stcNs d) (modClk (fun c => { c with lastPulse := some d.now, oddPulse := none }) d))

/-- What a pulse at instant `now` is to a LOCKED reference whose latest accepted pulse was `last` (R653): in place, `k` periods on,
with the intervals that had an extra pulse in a row; at the new place of the odd pulse before it; after two missing ones; or out of
place, extra where it comes between two expected ones. -/
def judgePulse (p : Nat) (last : Ps) (odd : Option Ps) (extra : Bool) (extras : Nat) (now : Ps) : Pulse :=
  let dt := now - last
  let k := (dt + p / 2) / p
  if dt ≤ k * p + us 1 ∧ k * p ≤ dt + us 1 ∧ 1 ≤ k ∧ k ≤ 2 then .inPlace k (if extra then extras + 1 else 0)
  else if odd.any fun o => decide (now ≤ o + p + us 1) && decide (o + p ≤ now + us 1) then .jump
  else if 2 * p + us 1 < dt then .late
  else .glitch (decide (dt + us 1 < p))

/-- A REF_FRAME pulse (R651 to R653). While QUALIFYING the offset of REF_CLK is not yet reported, so a pulse is in place within 1 us and
50 ppm of the nominal period. DESIGN CHOICE (log 100). -/
def refPulse (d : Dev) : Dev :=
  let p := refPeriod d
  let st := rd d K.x1410_REF_STATE
  if rd d K.x1410_REF_FRAME_RATE = 0 ∨ ¬ (st = 2 ∨ st = 3) then d
  else match d.clk.lastPulse with
    | none => refRequalify (refAccept d)
    | some l =>
      if st = 2 then
        let dt := d.now - l
        if dt ≤ p + p / 20000 + us 1 ∧ p ≤ dt + p / 20000 + us 1 then refAccept d else refRequalify (refAccept d)
      else match judgePulse p l d.clk.oddPulse d.clk.extra d.clk.extraIntervals d.now with
        | .inPlace _ n =>
          let d := refAccept (modClk (fun c => { c with extra := false, extraIntervals := n }) d)
          if 2 ≤ n then refLost 2 d else d
        | .jump => refRequalify (refState 2 (refAccept (incSat 32 K.x1410_PHASE_JUMPS d)))
        | .late => refLost 2 (refAccept d)
        | .glitch e =>
          modClk (fun c => { c with oddPulse := some d.now, extra := c.extra || e }) (incSat 32 K.x1410_FRAME_GLITCHES d)

/-- Do the pulses that REF_FRAME_RATE asks for still come (R652)? -/
def refPulsing (d : Dev) : Bool :=
  rd d K.x1410_REF_FRAME_RATE == 0 ||
    d.clk.lastPulse.any fun l => decide (d.now ≤ l + refPeriod d + refPeriod d / 20000 + us 1)

/-- The reference has qualified (R652): LOCKED, with its measured offset; its generators align (R660). -/
def refQualify (ppb : Int) (d : Dev) : Dev :=
  if rd d K.x1410_REF_STATE = 2 ∧ d.clk.qualifySince + ms (rd d K.x1410_QUALIFY_MS) ≤ d.now ∧ refPulsing d then
    let d := wr K.x1410_REF_OFFSET_PPB (satTc 32 ppb) d
    let d := refState 3 d
    forAll (refTgs d) (fun g => tgAlign g (satTc 32 ppb)) d
  else d

/-- The input that generator `g` follows has qualified (R655). -/
def inputQualify (g : Nat) (ppb : Int) (d : Dev) : Dev :=
  let src := rd d (K.tg_LOCK_SOURCE g)
  let p := src - 0x100
  if 0x100 ≤ src ∧ rd d (K.ip_INPUT_STATE p) = 5 ∧ fmtRate (rd d (K.ip_DETECTED_FORMAT p)) = fmtRate (tgFormat d g) ∧
      (inp d p).refSince + ms (rd d K.x1410_QUALIFY_MS) ≤ d.now ∧ ppb.natAbs ≤ 50000 ∧ (tg d g).inLocked = false then
    tgAlign g (satTc 32 ppb) (modTg g (fun x => { x with inLocked := true }) d)
  else d

/-- The generators that follow input `p` lose their reference (R280, R655). -/
def inputRefLost (p : Nat) (d : Dev) : Dev :=
  forAll ((List.range 8).filter fun g => rd d (K.tg_LOCK_SOURCE g) == 0x100 + p)
    (fun g d => tgBivouac g (tg d g).inLocked (modTg g (fun x => { x with inLocked := false }) d)) d

/-- The generators locked to input `p` take its boundary as their reference pulse and its period as their frequency (R655, R657). -/
def tgsFollow (p period : Nat) (d : Dev) : Dev :=
  forAll ((List.range 8).filter fun g => rd d (K.tg_LOCK_SOURCE g) == 0x100 + p)
    (fun g d => tgWander d.now (some (periodPpb d g period)) g d) d

/-- A frame boundary of input `p` as a reference pulse: frames at equal spacing count for QUALIFY_MS, and where a generator is locked to
the input, glitches, jumps and missing boundaries follow R653 (R655). -/
def inputPulse (p period : Nat) (d : Dev) : Dev :=
  let x := inp d p
  let anew := modInp p fun x => { x with refLast := d.now, refPeriod := period, oddAt := none, extra := false, extraIntervals := 0 }
  let restart := modInp p fun x => { x with refSince := d.now }
  if rd d (K.ip_INPUT_STATE p) ≠ 5 then d
  else if (List.range 8).any fun g => rd d (K.tg_LOCK_SOURCE g) == 0x100 + p && (tg d g).inLocked then
    match judgePulse x.refPeriod x.refLast x.oddAt x.extra x.extraIntervals d.now with
    | .inPlace _ n =>
      if 2 ≤ n then inputRefLost p (restart (anew d))
      else tgsFollow p period (modInp p (fun y => { y with extraIntervals := n }) (anew d))
    | .jump => inputRefLost p (restart (anew (incSat 32 K.x1410_PHASE_JUMPS d)))
    | .late => inputRefLost p (restart (anew d))
    | .glitch e => modInp p (fun y => { y with oddAt := some d.now, extra := y.extra || e }) (incSat 32 K.x1410_FRAME_GLITCHES d)
  else
    let dt := d.now - x.lastBoundary
    onlyIf (!(decide (dt ≤ x.refPeriod + us 1) && decide (x.refPeriod ≤ dt + us 1))) restart (anew d)

/-- Does REF_CLK_SELECT take frequency code `c` (R650)? -/
def refAccepts (d : Dev) (c : Nat) : Bool :=
  c != 0 && (rd d K.x1410_REF_CLK_SELECT == 0 || rd d K.x1410_REF_CLK_SELECT == c)

/-- REF_CLK is present at frequency code `c`: the reference PLL searches (R650, R652). -/
def refAppears (c : Nat) (d : Dev) : Dev :=
  if refAccepts d c then
    change (K.x1401_PLL_STATE 4) 1 (refState 1 (modClk (fun k => { k with clkFound := c, lastPulse := none }) d))
  else d

/-- REF_CLK is gone or outside tolerance (R652, R653). -/
def refAbsent (d : Dev) : Dev :=
  change (K.x1401_PLL_STATE 4) 0 (wr K.x1410_REF_CLK_FOUND 0 (refLost 0
    (modClk (fun k => { k with clkFound := 0, lastPulse := none }) d)))

/-- The reference PLL has lost lock with REF_CLK present (R653). -/
def refPllLost (d : Dev) : Dev :=
  change (K.x1401_PLL_STATE 4) 3 (incSat 32 (K.x1402_PLL_RELOCKS 4) (refLost 1 (modClk (fun k => { k with lastPulse := none }) d)))

/-- The reference PLL is locked: QUALIFYING (R652). -/
def refPllLocked (d : Dev) : Dev :=
  if rd d K.x1410_REF_STATE = 1 then
    refRequalify (refState 2 (change (K.x1401_PLL_STATE 4) 2 (wr K.x1410_REF_CLK_FOUND d.clk.clkFound d)))
  else d

/-- An entry of [1410] applied: a reference that no longer fits is absent, a LOCKED one qualifies anew. -/
def refReconfigure (d : Dev) : Dev :=
  let st := rd d K.x1410_REF_STATE
  if st ≠ 0 ∧ !refAccepts d d.clk.clkFound then refAbsent d
  else if 2 ≤ st then refRequalify (refState 2 (modClk (fun k => { k with lastPulse := none }) d))
  else d

/-! ## Root clock (R646 to R649) -/

/-- The root holds its last control value: a chip-level fault is raised, the STC reads HELD_ROOT (R647). -/
def rootHold (d : Dev) : Dev :=
  if rd d K.x1400_ROOT_STATE = 2 then
    let d := wr K.x1400_ROOT_STATE 4 (change (K.x1401_PLL_STATE 0) 4 d)
    raiseX 3 K.x1400_ROOT_STATE 0 4 0xFF 0xFFFFFFFF [] (some 4) (stcFollow d)
  else d

/-- XTAL_IN is lost (R646, R647). -/
def xtalLost (d : Dev) : Dev :=
  if rd d K.x1400_XTAL_STATE = 0 then
    rootHold (incSat 32 K.x1400_XTAL_LOSSES (wr K.x1400_XTAL_STATE 1 (modClk (fun c => { c with xtalBackAt := none }) d)))
  else d

/-- The root reads LOCKED again within 1 ppm (R648). -/
def rootRelocked (band : Nat) (d : Dev) : Dev :=
  if rd d K.x1400_ROOT_STATE = 4 ∧ rd d K.x1400_XTAL_STATE = 0 then
    stcFollow (change (K.x1401_PLL_STATE 0) 2 (wr K.x1400_ROOT_STATE 2 d))
  else if rd d K.x1400_ROOT_STATE = 1 then
    change (K.x1401_PLL_STATE 0) 2 (wr K.x1400_ROOT_BAND band (wr K.x1400_ROOT_STATE 2 d))
  else d

end Sys2Proof.Machine
end

