-- ==== Sys2Proof/Machine/Queues.lean ====
section
/-! DEFINITION. The queue engine (11): starting, finishing, completing and retiring descriptors, fences, pauses,
interrupts, enable and disable, doorbells, link and functions. -/

namespace Sys2Proof.Machine

/-! ## Rings -/

/-- Descriptors whose completion is not written. -/
def inFlight (c : Queue) : Nat := (c.descs.filter fun x => !x.written).length

/-- Room in the completion ring: it holds at most 2^n - 1 entries (R611, R620). -/
def cqFree (c : Queue) : Nat := 2 ^ c.cqLog2 - 1 - (c.cqTail + 2 ^ c.cqLog2 - c.cqHead) % 2 ^ c.cqLog2

def isFence (b : List Byte) : Bool := dOpcode b == 0x10 || dOpcode b == 0x11 || dOpcode b == 0x12

/-- Is a fence that blocks starts still open (R623)? -/
def fenceBlocks (c : Queue) : Bool :=
  c.descs.any fun x => x.status.isNone && (dOpcode x.bytes == 0x10 || dOpcode x.bytes == 0x12)

/-- Journal entries that queue descriptors hold (R697). -/
def descrEntries (d : Dev) : Nat := (d.jr.entries.filter fun e => e.kind == 1).length

/-- May the descriptor at `ringIx` of queue `q` start now, and how (R620, R622, R623, R626, R627, R629)? -/
def startInfo (d : Dev) (q ringIx : Nat) : Option StartInfo :=
  let c := queue d q
  if c.st = 1 ∧ c.rerun.contains ringIx then
    some { replayed := true, done := (c.descs.find? fun x => x.ring == ringIx).filter (·.status.isSome)
           retried := (c.descs.find? fun x => x.ring == ringIx).any (·.retried) }
  else if c.st = 1 ∧ (c.descs.any fun x => x.ring == ringIx && x.waits && x.status.isNone) then
    (c.descs.find? fun x => x.ring == ringIx).map fun x =>
      { from_ := x.moved, retried := x.retried, replayed := x.replayed, resumed := true }
  else if c.st = 1 ∧ (c.retryFrom.map (·.1)) = some ringIx then
    some { from_ := (c.retryFrom.map (·.2)).getD 0, retried := true }
  else if ringIx = c.next ∧ c.next ≠ c.tail ∧ inFlight c < cqFree c then
    (if c.st = 3 then some { cancelled := true }
     else if c.st = 1 ∧ c.rerun = [] ∧ c.retryFrom = none ∧ !fenceBlocks c ∧ descrEntries d < 31744 then some {}
     else none)
  else none

/-- The journal unit of a descriptor (R699). -/
def jDescr (q ringIx : Nat) (e : JEntry) : Bool := e.kind == 1 && e.unit == ringIx * 65536 + q

/-- A descriptor takes its place from start to retirement (R622); a rerun keeps the place it had. -/
def putDescr (q ringIx : Nat) (bytes : List Byte) (i : StartInfo) (d : Dev) : Dev :=
  let c := queue d q
  let had := c.descs.any fun x => x.ring == ringIx
  let x : Descr := { ring := ringIx, bytes := bytes, moved := i.from_, retried := i.retried, replayed := i.replayed }
  let d := modQ q (fun c => { c with
    descs := if had then c.descs.map (fun y => if y.ring == ringIx then { x with hold := y.hold, need := y.need, wrote := y.wrote, detail := y.detail } else y)
             else c.descs ++ [x]
    next := if i.retried || i.replayed || i.resumed then c.next else (c.next + 1) % 2 ^ c.sqLog2
    rerun := c.rerun.filter (· != ringIx)
    retryFrom := if i.retried && !i.replayed && !i.resumed then none else c.retryFrom }) d
  onlyIf (!had) (jOpen 1 4 ((qFn d q).getD 0) (ringIx * 65536 + q) (dTag bytes) 0) d

def modDescr (q ringIx : Nat) (f : Descr → Descr) (d : Dev) : Dev :=
  modQ q (fun c => { c with descs := c.descs.map fun x => if x.ring == ringIx then f x else x }) d

/-- A descriptor has finished with a status; only its completion remains (R698 EFFECT_DONE). -/
def finishDescr (q ringIx st moved detail result : Nat) (poisoned : Bool) (d : Dev) : Dev :=
  jMod (jDescr q ringIx) (fun e => { e with jstate := 2, checkpoint := moved })
    (modDescr q ringIx (fun x => { x with
      status := some st, moved := moved, detail := detail, result := result, poisoned := poisoned }) d)

/-- Bytes moved are counted for the queue and its function (R605, R634). -/
def countBytes (q n : Nat) (toDevice : Bool) (d : Dev) : Dev :=
  let f := (qFn d q).getD 0
  let k := if toDevice then K.fn_BYTES_H2D f else K.fn_BYTES_D2H f
  wr k ((rd d k + n) % 2 ^ 64) (modQ q (fun c => { c with bytes := (c.bytes + n) % 2 ^ 64 }) d)

/-! ## Interrupts (R621) -/

/-- Is the function of queue `q` draining: its completions and messages are discarded (R597)? -/
def fnDraining (d : Dev) (q : Nat) : Bool := rd d (K.fn_FN_STATE ((qFn d q).getD 0)) == 2

/-- An interrupt is signalled for queue `q`: sent, or owed until the holdoff ends. -/
def irq (q : Nat) (d : Dev) : Dev :=
  let c := queue d q
  if c.vector = 0xFFFF ∨ fnDraining d q then d
  else if c.irqUntil.any (fun u => decide (d.now < u)) then modQ q (fun c => { c with irqOwed := true }) d
  else
    toHost (.msix ((qFn d q).getD 0) c.vector false)
      (modQ q (fun c => { c with irqOwed := false
                                 irqUntil := if c.holdoff = 0 then none else some (d.now + us c.holdoff) }) d)

/-- The holdoff ends: one message for what occurred in the meantime. -/
def irqHoldoffEnd (q : Nat) (d : Dev) : Dev :=
  let c := queue d q
  if c.irqUntil.any fun u => decide (u ≤ d.now) then
    let d := modQ q (fun c => { c with irqUntil := none }) d
    if c.irqOwed then irq q d else d
  else d

/-! ## Pause and resume (R624, R626, R592) -/

/-- A queue pauses at a descriptor with a cause. -/
def pauseQueue (q cause ringIx : Nat) (d : Dev) : Dev :=
  irq q (modQ q (fun c => { c with st := 2, pause := cause * 2 ^ 24 + ringIx }) d)

/-- A translation fault (0x03) or host error (0x04) at a descriptor: it completes with the bytes moved before its 4 KiB safe
point, and the queue pauses (R624). -/
def faultDescr (q ringIx st moved : Nat) (d : Dev) : Dev :=
  pauseQueue q st ringIx (finishDescr q ringIx st (moved / 4096 * 4096) 0 0 false d)

/-- RESUME 0x01: the queue goes on after the descriptor named (R626). -/
def resumeSkip (q : Nat) (d : Dev) : Dev :=
  if (queue d q).st = 2 then modQ q (fun c => { c with st := 1, pause := 0, retryFrom := none, shareAt := d.now }) d else d

/-- RESUME 0x02: the descriptor named runs again from byte BYTES of its completion (R626). -/
def resumeRetry (q : Nat) (d : Dev) : Dev :=
  let c := queue d q
  if c.st = 2 then
    let r := c.pause % 65536
    let b := ((c.descs.find? fun x => x.ring == r).map (·.moved)).getD 0
    modQ q (fun c => { c with st := 1, pause := 0, retryFrom := some (r, b), shareAt := d.now }) d
  else d

/-! ## Completions (R618 to R623, R632) -/

/-- Does the condition of a fence hold: every earlier descriptor has finished, and for FENCE_PERSIST every NV-class effect
made before it is covered and no earlier commit of the function is in validation (R623)? -/
def fenceHolds (d : Dev) (q : Nat) (before : List Descr) (x : Descr) : Bool :=
  before.all (fun y => y.status.isSome) &&
    (dOpcode x.bytes != 0x12 ||
      ((d.nv.buf.all fun b => decide (x.need.getD 0 ≤ b.id) || persisted d b.id) &&
        d.ctl.commits.all fun c => c.req != (qFn d q).getD 0 || decide (x.result ≤ c.granted) || decide (2 ≤ c.phase)))

/-- May the completion of `x`, behind `before`, be written: it has finished or its fence holds, what it waits for is
persistent, and no earlier FENCE_HOST is open (R623)? -/
def completable (d : Dev) (q : Nat) (before : List Descr) (x : Descr) : Bool :=
  !x.written && (if isFence x.bytes && x.status.isNone then fenceHolds d q before x else x.status.isSome) &&
    (isFence x.bytes || x.need.all (persisted d)) &&
    before.all (fun y => dOpcode y.bytes != 0x11 || y.written)

/-- The oldest descriptor whose completion may be written. -/
def pickCompletion (d : Dev) (q : Nat) : List Descr → List Descr → Option Descr
  | _, [] => none
  | before, x :: r => if completable d q before x then some x else pickCompletion d q (before ++ [x]) r

/-- SQ_HEAD: the index of the oldest descriptor not retired (R632). -/
def sqHead (c : Queue) : Nat := ((c.descs.head?).map (·.ring)).getD c.next

/-- The 32 bytes of a completion (R618). -/
def completionBytes (c : Queue) (x : Descr) : List Byte :=
  natLE 2 x.ring ++ natLE 2 (sqHead c) ++ natLE 1 (x.status.getD 0) ++
    natLE 1 ((if c.phase then 1 else 0) + (if x.replayed then 2 else 0) + (if x.poisoned then 4 else 0) +
      (if x.retried then 8 else 0)) ++
    natLE 2 (dOpcode x.bytes) ++ natLE 8 (dTag x.bytes) ++ natLE 4 x.moved ++ natLE 4 x.detail ++
    natLE 8 (if isFence x.bytes then 0 else x.result)

/-- A descriptor retires: its journal entry closes and the slot it held is released; SQ_HEAD moves (R632, R615). -/
def retire (q ringIx : Nat) (d : Dev) : Dev :=
  jClose (jDescr q ringIx) (modQ q (fun c =>
    let c := { c with descs := c.descs.filter fun x => x.ring != ringIx }
    { c with head := sqHead c }) d)

/-- The completion of one descriptor is written when the ring has room; fences and NOPs retire with it (R620, R632). -/
def writeCompletion (q : Nat) (d : Dev) : Dev :=
  let c := queue d q
  if c.st = 0 ∨ rd d K.x3C00_LINK_STATE = 0 ∧ !fnDraining d q then d
  else match pickCompletion d q [] c.descs with
    | none => d
    | some x =>
      if cqFree c = 0 then d
      else
        let x := { x with status := some (x.status.getD 0) }
        let d' := if fnDraining d q then d
          else toHost (.write ((qFn d q).getD 0) (c.cqBase + c.cqTail * 32) false (completionBytes c x)) d
        let wrap := (c.cqTail + 1) % 2 ^ c.cqLog2
        let d' := modQ q (fun c => { c with
          cqTail := wrap
          phase := if wrap = 0 then !c.phase else c.phase
          descs := c.descs.map fun y => if y.ring == x.ring then { x with written := true } else y }) d'
        let d' := onlyIf (dIrq x.bytes) (irq q) d'
        if isFence x.bytes ∨ dOpcode x.bytes = 1 then retire q x.ring d' else d'

/-- The oldest written completion is acknowledged at the data link layer (R632). -/
def retireOldest (q : Nat) (d : Dev) : Dev :=
  match (queue d q).descs.find? (·.written) with
  | some x => retire q x.ring d
  | none => d

/-! ## Descriptor runs -/

/-- The opcodes a queue type accepts (R613). -/
def opcodeFor (c : Queue) (op : Nat) : Bool :=
  if op = 1 ∨ op = 0x10 ∨ op = 0x11 ∨ op = 0x12 then true
  else if op = 0x0101 then c.typ == 1 && (let k := c.target / 2 ^ 24; k == 1 || k == 2 || k == 3)
  else if op = 0x0102 then c.typ == 1 && c.target / 2 ^ 24 == 4
  else if op = 0x0201 then c.typ == 2 && c.target == 0x05000000
  else if op = 0x0202 then c.typ == 2 && c.target == 0x04000000
  else if op = 0x0301 then c.typ == 3
  else if op = 0x0401 then c.typ == 4
  else if op = 0x0501 then c.typ == 5
  else if op = 0x0601 then c.typ == 6
  else if op = 0x0701 then c.typ == 7
  else false

/-- A descriptor of queue `q` starts when it may; cancelled ones complete without acting (R627), an opcode that the queue's
type does not accept completes with BAD_DESCRIPTOR (R613), else `body` runs it. -/
def runDescr (q ringIx : Nat) (bytes : List Byte) (body : StartInfo → Dev → Dev) (d : Dev) : Dev :=
  match startInfo d q ringIx with
  | none => d
  | some i =>
    let d := putDescr q ringIx bytes i d
    if i.cancelled then finishDescr q ringIx 1 0 0 0 false d
    else if !opcodeFor (queue d q) (dOpcode bytes) then finishDescr q ringIx 5 0 0 0 false d
    else body i d

/-- The same for a descriptor that also acts on frame memory. -/
def runDescrMem (q ringIx : Nat) (bytes : List Byte) (body : StartInfo → Mem → Dev → Mem × Dev) (m : Mem) (d : Dev) :
    Mem × Dev :=
  match startInfo d q ringIx with
  | none => (m, d)
  | some i =>
    let d := putDescr q ringIx bytes i d
    if i.cancelled then (m, finishDescr q ringIx 1 0 0 0 false d)
    else if !opcodeFor (queue d q) (dOpcode bytes) then (m, finishDescr q ringIx 5 0 0 0 false d)
    else body i m d

/-- Are the reserved bytes of a descriptor's header 0, and DFLAGS only bit 0 (R612)? -/
def headerOk (b : List Byte) : Bool := decide (leAt b 2 1 ≤ 1) && leAt b 3 5 == 0

/-- A buffer descriptor runs: it waits to be filled. Run again by replay it writes the same bytes first (R629, R630). -/
def bufferRun (q ringIx : Nat) (ok : Bool) (i : StartInfo) (d : Dev) : Dev :=
  if !ok then finishDescr q ringIx 5 0 0 0 false d
  else if i.replayed then
    let l := (((queue d q).descs.find? fun x => x.ring == ringIx).map (·.wrote)).getD []
    let d := forAll l (fun w => dmaWrite ((qFn d q).getD 0) w.1 w.2) d
    match i.done with
    | some y => finishDescr q ringIx (y.status.getD 0) y.moved y.detail y.result y.poisoned d
    | none => modDescr q ringIx (fun x => { x with moved := placedLength l }) d
  else d

/-! ## Enable and disable (R606, R627) -/

/-- Number of MSI-X vectors of a function (R595). -/
def fnVectors (f : Nat) : Nat := if f = 0 then 1040 else 16

/-- Does TARGET suit the type (R601, R602)? -/
def targetOk (d : Dev) (typ target : Nat) : Bool :=
  let kind := target / 2 ^ 24
  let n := target % 65536
  match typ with
  | 1 => fld target 16 8 == 0 &&
      ((kind == 1 && decide (n < 128)) ||
       (kind == 2 && decide (n < 64) && (rd d (K.cmp_GANG_LEAD n) == 0xFF || rd d (K.cmp_GANG_LEAD n) == n)) ||
       (kind == 3 && decide (n < 32)) || (kind == 4 && n == 0))
  | 2 => target == 0x05000000 || target == 0x04000000
  | 5 => decide (target < 2 ^ 14)
  | _ => target == 0

/-- Is a context complete and within its ranges (R606)? -/
def contextOk (d : Dev) (q : Nat) : Bool :=
  let c := queue d q
  c.typ != 0 && c.sqBase != 0 && c.cqBase != 0 &&
    (c.vector == 0xFFFF || decide (c.vector < fnVectors ((qFn d q).getD 0))) && targetOk d c.typ c.target

/-- Enable: the indices are 0 and the queue RUNNING; the first pass has PHASE 1 (R606, R619). -/
def enableQueue (q : Nat) (d : Dev) : Dev :=
  if (queue d q).st = 0 then
    modQ q (fun c => { c with
      enable := 1, st := 1, head := 0, tail := 0, cqTail := 0, cqHead := 0, pause := 0, bytes := 0, next := 0
      phase := true, descs := [], retryFrom := none, rerun := [], irqUntil := none, irqOwed := false, bufFirst := none
      eventsLost := false, shareAt := d.now }) d
  else d

/-- Disable: DRAINING; descriptors that run stop at their safe point with CANCELLED (R627). -/
def disableQueue (q : Nat) (d : Dev) : Dev :=
  if (queue d q).st = 1 ∨ (queue d q).st = 2 then
    modQ q (fun c => { c with
      enable := 0, st := 3, rerun := [], retryFrom := none, bufFirst := none
      descs := c.descs.map fun x => if x.status.isNone then { x with status := some 1 } else x }) d
  else modQ q (fun c => { c with enable := 0 }) d

/-- Every completion of a draining queue is written and nothing is left up to SQ_TAIL (R627). -/
def drained (c : Queue) : Bool := c.st == 3 && c.next == c.tail && c.descs.all (·.written)

/-! ## Doorbells (R610, R611) -/

/-- Has a queue work: descriptors to start, or one that waits for tokens? -/
def queueWorks (c : Queue) : Bool := c.next != c.tail || c.descs.any fun x => x.waits && x.status.isNone

/-- A doorbell write is discarded for a reason, counted and recorded. -/
def discardDoorbell (reason f q : Nat) (d : Dev) : Dev :=
  wr K.x3C00_LAST_DISCARD (reason * 2 ^ 24 + f * 2 ^ 16 + q) (incSat 32 K.x3C00_DOORBELL_DISCARDS d)

/-- A doorbell write of function `f` (R610, R611, R850). -/
def doorbell (f offset : Nat) (data : List Byte) (d : Dev) : Dev :=
  let q := offset / 8 % 65536
  let w := leNat data
  let c := queue d q
  let n := data.length
  let lo := offset % 8
  if !((n = 8 ∧ lo = 0) ∨ (n = 4 ∧ lo % 4 = 0)) then discardDoorbell 4 f q d
  else if rd d (K.fn_FN_STATE f) = 0 then discardDoorbell 2 f q d
  else if qFn d q ≠ some f then discardDoorbell 1 f q d
  else if c.st = 0 ∨ c.st = 3 then discardDoorbell 2 f q d
  else
    let v := if lo = 4 then w * 2 ^ 32 else w
    let sqV := bitAt v 31
    let cqV := n = 8 ∧ bitAt v 63
    let t := fld v 0 16
    let h := fld v 32 16
    if (sqV ∧ 2 ^ c.sqLog2 ≤ t) ∨ (cqV ∧ 2 ^ c.cqLog2 ≤ h) then discardDoorbell 3 f q d
    else modQ q (fun c => { c with
      tail := if sqV then t else c.tail, cqHead := if cqV then h else c.cqHead
      shareAt := if queueWorks c then c.shareAt else d.now }) d

/-! ## Link (R588 to R592) -/

/-- Codes of link speed as GT/s (R633); 2.5 counts as 5/2. -/
def speedGts2 : Nat → Nat
  | 1 => 5
  | 2 => 10
  | 3 => 16
  | 4 => 32
  | 5 => 64
  | 6 => 128
  | 7 => 256
  | _ => 0

/-- The link goes down (R592): every enabled queue pauses with LINK_DOWN at its oldest descriptor. -/
def linkDown (d : Dev) : Dev :=
  if rd d K.x3C00_LINK_STATE = 0 then d
  else
    let d := incSat 32 K.x3C00_LINK_DOWNS (change K.x3C00_LINK_STATE 0 d)
    forAll ((d.host.queues.filter fun p => p.2.st == 1).map (·.1))
      (fun q d => modQ q (fun c => { c with st := 2, pause := 0x0A000000 + sqHead c, irqOwed := true }) d) d

/-- Every descriptor of a queue that had not retired runs again (R629). -/
def replayQueue (q : Nat) (d : Dev) : Dev :=
  modQ q (fun c => { c with rerun := (c.descs.filter fun x => !(isFence x.bytes) && dOpcode x.bytes != 1).map (·.ring) }) d

/-- The link comes up at a width and speed (R591, R592): shares are scaled, with an event below x16 at 128 GT/s; queues paused by the
link resume with replay, and their pause is signalled (R621). -/
def linkUp (width speed : Nat) (d : Dev) : Dev :=
  let d := wr K.x3C00_LINK_WIDTH width (wr K.x3C00_LINK_SPEED speed (change K.x3C00_LINK_STATE 1 d))
  let scale := 1024 * width * speedGts2 speed / 4096
  let old := rd d K.x3C00_GUAR_SCALE
  let d := onlyIf (scale != old || decide (scale < 1024)) (raise 1 K.x3C00_GUAR_SCALE old scale) (wr K.x3C00_GUAR_SCALE scale d)
  forAll ((d.host.queues.filter fun p => p.2.st == 2 && p.2.pause / 2 ^ 24 == 0x0A).map (·.1))
    (fun q d =>
      let d := modQ q (fun c => { c with st := 1, pause := 0, shareAt := d.now }) (replayQueue q d)
      onlyIf (queue d q).irqOwed (irq q) d) d

end Sys2Proof.Machine
end

