-- ==== Sys2Proof/Machine/Nv.lean ====
section
/-! DEFINITION. The non-volatile record store (14): sectors and rings, draining, ring B copies, failures, compaction, mount,
user partitions and passwords. -/

namespace Sys2Proof.Machine

/-! ## Sectors (R712, R713, R722, R724) -/

def modRing (r : Nat) (f : Ring → Ring) (d : Dev) : Dev :=
  { d with nv := { d.nv with rings := tabMod {} r f d.nv.rings } }

/-- The ring code of R712. -/
def ringCode (r : Nat) : Nat := (if r < 2 then 0x0A else 0x1A) + r % 2

/-- Flash address of a sector of a ring (R711). -/
def sectorAddr (r place : Nat) : Nat :=
  (match r with
   | 0 => 0x2300000
   | 1 => 0x2F00000
   | 2 => 0x2100000
   | _ => 0x2200000) + place * 4096

/-- The next place of a ring that is not a bad sector, from `p` on. -/
def nextGood (n : Nat) (bad : List Nat) : Nat → Nat → Nat
  | 0, p => p
  | k + 1, p => if bad.contains p then nextGood n bad k ((p + 1) % n) else p

/-- The next erased sector of a ring is opened (R712): its generation is one higher when the head wraps. -/
def openSector (r : Nat) (x : Ring) : Ring :=
  let n := ringSectors r
  let p := nextGood n x.bad (x.bad.length + 1) x.nextPlace
  let g := if x.used = [] ∧ x.nextSeq = 1 then 0 else if p < ((x.used.getLast?).map (·.place)).getD 0 then x.gen + 1 else x.gen
  { x with
    used := x.used ++ [{ place := p, gen := g, seq := x.nextSeq }]
    gen := g, nextPlace := (p + 1) % n, nextSeq := x.nextSeq + 1 }

/-- The list with its last member changed. -/
def modLast {α : Type} (f : α → α) : List α → List α
  | [] => []
  | [a] => [f a]
  | a :: l => a :: modLast f l

/-- Does the head sector take a record of `len` payload bytes (R713)? -/
def headTakes (x : Ring) (len : Nat) : Bool :=
  match x.used.getLast? with
  | none => false
  | some s => !s.closed && decide (s.used + 17 + len ≤ 4096)

/-- A record is programmed at the head of a ring (R713, R714, R724). -/
def ringAppend (r : Nat) (rec : NvRec) (x : Ring) : Ring :=
  let x := if headTakes x rec.payload.length then x else openSector r x
  let put (s : Sector) : Sector := { s with recs := s.recs ++ [rec], used := (s.used + 17 + rec.payload.length + 7) / 8 * 8 }
  { x with used := modLast put x.used }

/-- The head sector of a ring is closed (R724, R729). -/
def closeHead (x : Ring) : Ring := { x with used := modLast (fun s => { s with closed := true }) x.used }

/-! ## Draining (R719, R726) -/

/-- A slot-ring value is programmed (R726). -/
def slotProgram (v : Nat) (bytes : List Byte) (d : Dev) : Dev :=
  { d with nv := { d.nv with
    slotVals := tabSet v bytes d.nv.slotVals
    tornSlots := tabDel v d.nv.tornSlots
    slotSeqs := tabMod 0 v (· + 1) d.nv.slotSeqs } }

/-- An item of the persist buffer is programmed; a record goes to ring A of its pair, its ring B copy is owed, its journal
entry ends (R719, R699). -/
def programItem (x : PbItem) (d : Dev) : Dev :=
  match x.slotRing with
  | some v => slotProgram v x.recd.payload d
  | none =>
    let tbl := isTables x.recd.key
    let d := modRing (if tbl then 2 else 0) (fun y => (parts x.recd).foldl (fun y p => ringAppend (if tbl then 2 else 0) p y) y) d
    jClose (jNv x.recd.seq) { d with nv := { d.nv with toCopy := d.nv.toCopy ++ (parts x.recd).map fun p => (tbl, p) } }

/-- The oldest item of the persist buffer drains (R719). -/
def drainOne (d : Dev) : Dev :=
  match d.nv.buf with
  | [] => d
  | x :: r => if x.inBuf then programItem x { d with nv := { d.nv with buf := r } } else d

/-- PB_STATE from the window and the occupancy, with its event (R686, R687, R688). -/
def pbState (d : Dev) : Dev :=
  change K.x1640_PB_STATE
    (if d.nv.volatileOnly || rd d K.x1640_WINDOW_KIB == 0 then 2
     else if occupancy d ≤ windowBytes d then 0 else 1) d

/-- The oldest waiting item, when everything before it is in the buffer. -/
def firstWaiting : List PbItem → Option PbItem
  | [] => none
  | x :: r => if x.inBuf then firstWaiting r else some x

/-- A waiting NV-class write is taken once the buffer has room (R685). -/
def admitOne (d : Dev) : Dev :=
  match firstWaiting d.nv.buf with
  | none => d
  | some x =>
    if bufferTakes d (isTables x.recd.key) x.cost then
      jMod (fun e => x.slotRing.isNone && jNv x.recd.seq e) (fun e => { e with checkpoint := 1 })
        { d with nv := { d.nv with buf := d.nv.buf.map fun y => if y.id == x.id then { y with inBuf := true } else y } }
    else d

/-- The oldest owed ring B copy of a pair is written (R719). -/
def copyOne (tbl : Bool) (d : Dev) : Dev :=
  match d.nv.toCopy.find? fun x => x.1 == tbl with
  | none => d
  | some x =>
    let r := if tbl then 3 else 1
    modRing r (ringAppend r x.2)
      { d with nv := { d.nv with toCopy := (d.nv.toCopy.takeWhile fun y => y.1 != tbl) ++
        (d.nv.toCopy.dropWhile fun y => y.1 != tbl).drop 1 } }

/-! ## Torn writes (R713, R725, R727, R729) -/

/-- The bytes of a record in a sector of generation `gen` (R713). -/
def recBytes (gen : Nat) (r : NvRec) : List Byte :=
  let head := natLE 2 r.key ++ natLE 2 r.payload.length ++ natLE 4 r.seq ++ natLE 2 gen ++ natLE 1 r.part ++ natLE 1 (if r.last then 1 else 0)
  head ++ natLE 4 (crc32c (head ++ r.payload)) ++ r.payload ++ [0]

/-- The bytes of a slot (R725). -/
def slotBody (v seq : Nat) (bytes : List Byte) : List Byte :=
  let b := natLE 2 v ++ [0, 0] ++ natLE 4 seq ++ padTo 112 bytes
  b ++ natLE 4 (crc32c b) ++ [0]

/-- What the bytes of an interrupted program read, `n` of them programmed: the byte under way has 1 where the new value has, and either bit
elsewhere, as `x` says; those not reached read 0xFF (R727). -/
def tornRead (new : List Byte) (n : Nat) (x : Byte) : List Byte :=
  new.zipIdx.map fun (b, i) => if i < n then b else if i = n then b ||| x else 0xFF

/-- Is a record valid in a sector of generation `gen` (R729)? -/
def recordOk (gen : Nat) (l : List Byte) : Bool :=
  let n := leAt l 2 2
  leAt l 8 2 == gen % 65536 && decide (n ≤ 4040) && l.length == 17 + n &&
    leAt l 12 4 == crc32c (slice 0 12 l ++ slice 16 n l) && leAt l (16 + n) 1 == 0

/-- Is a slot valid (R725, R726)? -/
def slotOk (l : List Byte) : Bool := l.length == 125 && leAt l 120 4 == crc32c (l.take 120) && leAt l 124 1 == 0

/-- A record whose program lost power after `n` bytes, those of a sector header it opens among them: a torn header leaves a sector to erase
again (R728). -/
def ringTear (r : Nat) (rec : NvRec) (n : Nat) (x : Ring) : Ring :=
  if headTakes x rec.payload.length then { x with used := modLast (fun s => { s with closed := true, torn := some (rec, n) }) x.used }
  else
    let y := openSector r x
    if n < 32 then { y with used := x.used, pend := y.pend ++ (y.used.getLast?.map (·.place)).toList }
    else { y with used := modLast (fun s => { s with closed := true, torn := some (rec, n - 32) }) y.used }

/-- Power is lost while the oldest item of the persist buffer is programmed (R727, R735): how far it came is open. -/
def tear (d : Dev) : Dev :=
  match d.nv.buf with
  | [] => d
  | x :: _ =>
    if !x.inBuf then d
    else
      let (v, d) := fresh d
      let (w, d) := fresh d
      match x.slotRing with
      | some i => { d with nv := { d.nv with tornSlots := tabSet i (x.recd.payload, w % 126) d.nv.tornSlots } }
      | none =>
        let r := if isTables x.recd.key then 2 else 0
        let ps := parts x.recd
        let k := v % ps.length
        let d := modRing r (fun y => (ps.take k).foldl (fun y p => ringAppend r p y) y) d
        match ps[k]? with
        | none => d
        | some p => modRing r (fun y => ringTear r p (w % (50 + p.payload.length)) y) d

/-- The mount reads a ring's torn records: one that reads valid is one of the ring from then on, since its COMMIT is programmed again
(R730, R731); the others are counted. -/
def tornScan (r : Nat) (d : Dev) : Dev :=
  forAll ((ring d r).used.filter fun s => s.torn.isSome) (fun s d =>
    match s.torn with
    | none => d
    | some (rec, n) =>
      let (x, d) := fresh d
      if recordOk s.gen (tornRead (recBytes s.gen rec) n (BitVec.ofNat 8 x)) then
        modRing r (fun y => { y with used := y.used.map fun z =>
          if z.seq = s.seq then { z with recs := z.recs ++ [rec], torn := none } else z }) d
      else incSat 32 K.x1A00_TORN_DISCARDED d) d

/-- The mount reads the torn slots of slot rings: one that reads valid has the highest SLOT_SEQ (R726). -/
def tornSlotScan (d : Dev) : Dev :=
  forAll d.nv.tornSlots (fun p d =>
    let (x, d) := fresh d
    if slotOk (tornRead (slotBody p.1 (tabGet 0 d.nv.slotSeqs p.1 + 1) p.2.1) p.2.2 (BitVec.ofNat 8 x)) then slotProgram p.1 p.2.1 d
    else d) d

/-! ## Failures (R724) -/

/-- A place is added to the bad-sector list, record 0xF050 (R716, R724). -/
def badSector (r place : Nat) (d : Dev) : Dev :=
  let d := modRing r (fun x => { x with bad := x.bad ++ [place] }) d
  persist 0xF050 0 ((List.range 4).flatMap fun i => (ring d i).bad.flatMap fun p => natLE 4 (sectorAddr i p)) 0x2000 d

/-- A page program of the oldest item fails (R724): its sector closes; one that fails twice in a row is bad. -/
def programFails (d : Dev) : Dev :=
  match d.nv.buf with
  | [] => d
  | x :: _ =>
    let r := if isTables x.recd.key then 2 else 0
    let d := incSat 32 K.x1A00_PROGRAM_FAILS d
    if x.slotRing.isSome then d
    else
      let d := modRing r (fun y => if headTakes y x.recd.payload.length then y else openSector r y) d
      match (ring d r).used.getLast? with
      | none => d
      | some s =>
        let n := tabGet 0 (ring d r).fails s.place + 1
        let d := modRing r (fun y => closeHead { y with fails := tabSet s.place n y.fails }) d
        if n = 2 then badSector r s.place d else d

/-- A sector erase of ring `r` completes: the sector stands erased ahead of the head (R712, R722). -/
def eraseDone (r : Nat) (d : Dev) : Dev :=
  match (ring d r).pend with
  | [] => d
  | p :: rest => modRing r (fun x => { x with pend := rest, erases := tabMod 0 p (· + 1) x.erases }) d

/-- A sector erase of ring `r` fails (R724). -/
def eraseFails (r : Nat) (d : Dev) : Dev :=
  match (ring d r).pend with
  | [] => d
  | p :: rest => badSector r p (modRing r (fun x => { x with pend := rest }) d)

/-! ## Compaction (R722, R737) -/

/-- The current records of the tail sector of ring `r` are copied to its head, then the sector's erase is started; how many
records moved, and the sector's place. The open head sector stays. -/
def compactTail (r : Nat) (d : Dev) : Option (Nat × Nat) × Dev :=
  match (ring d r).used with
  | [] => (none, d)
  | [_] => (none, d)
  | s :: _ =>
    let cur := s.recs.filter (isCurrent (ringRecs d r) (maxCommit (ringRecs d 0)))
    let d := modRing r (fun x =>
      let y := cur.foldl (fun y p => ringAppend r p y) x
      { y with used := y.used.drop 1
               pend := if y.bad.contains s.place then y.pend else y.pend ++ [s.place]
               fails := if s.closed && tabGet 0 y.fails s.place != 0 then y.fails else tabDel s.place y.fails }) d
    (some (cur.length, s.place), d)

/-- Erased sectors below which a ring is compacted with tokens, and without (R722). -/
def compactBelow (r : Nat) : Nat × Nat := if r < 2 then (512, 128) else (64, 16)

/-- Would the live records of ring `r` leave too few sectors for `target` erased ones (R736)? -/
def cannotReach (d : Dev) (r target : Nat) : Bool :=
  decide (ringSectors r < (ring d r).bad.length + (liveBytes d r + 4063) / 4064 + 1 + target)

/-- The rings of an operation 0x0030 (R736). -/
def opRings (d : Dev) (s : Nat) : List Nat := (List.range 4).filter fun r => bitAt (arg d s 6) r

/-- Are the arguments of an operation 0x0030 in range (R736)? -/
def compactionArgsOk (d : Dev) (s : Nat) : Bool :=
  let t := arg d s 7
  opRings d s != [] && decide (arg d s 6 < 16) &&
    ((opRings d s).all fun r =>
      if r < 2 then decide (128 ≤ t) && decide (t ≤ 3000) else decide (16 ≤ t) && decide (t ≤ 250))

/-- An operation 0x0030 enters RUNNING (R736). -/
def compactionEnter (s : Nat) (d : Dev) : Dev :=
  if !compactionArgsOk d s then finishSlot s 4 1 d
  else if (busySlots d).any fun x => x != s && rd d (K.slot_OPCODE x) == 0x30 then finishSlot s 4 2 d
  else d

/-- One step of an operation 0x0030 (R737, R738): the tail sector of the first ring below its target; the end when every
ring has its target. `aux` lists the sectors whose erase it waits for. -/
def compactionStep (s : Nat) (d : Dev) : Dev :=
  let t := arg d s 7
  let due (r : Nat) : Bool := decide (erasedAhead d r + (ring d r).pend.length < t)
  if (opRings d s).all fun r => decide (t ≤ erasedAhead d r) then finishSlot s 3 0 d
  else match (opRings d s).find? due with
    | none => d
    | some r =>
      if cannotReach d r t then finishSlot s 4 3 d
      else match compactTail r d with
        | (none, d) => finishSlot s 4 3 d
        | (some (n, p), d) =>
          modSlot s (fun x => { x with aux := x.aux ++ [sectorAddr r p] }) (setArg s 8 (arg d s 8 + n) d)

/-- An erase that an operation 0x0030 waits for gives it one partial result (R737). -/
def compactionErased (addr : Nat) (d : Dev) : Dev :=
  forAll ((List.range 64).filter fun s => running d s 0x30 && (slotRun d s).aux.contains addr) (fun s d =>
    pushResult s addr (setArg s 9 (arg d s 9 + 1) (modSlot s (fun x => { x with aux := x.aux.filter (· != addr) }) d))) d

/-! ## Mount (R729 to R732) -/

/-- The whole body of `key` with SEQ `seq` from parts of either ring, if all stand (R715). -/
def wholeBody (l : List NvRec) (key seq : Nat) : Nat → Nat → List Byte → Option (List Byte)
  | 0, _, _ => none
  | n + 1, i, acc =>
    match l.find? fun r => r.key == key && r.seq == seq && r.part == i with
    | none => none
    | some r => if r.last then some (acc ++ r.payload) else wholeBody l key seq n (i + 1) (acc ++ r.payload)

/-- The keys of a list of records, each once. -/
def keysOf : List NvRec → List Nat
  | [] => []
  | r :: l => if l.any fun x => x.key == r.key then keysOf l else r.key :: keysOf l

/-- The highest of some numbers whose body is whole, with the body. -/
def bestBody (l : List NvRec) (key : Nat) : List Nat → Option (Nat × List Byte)
  | [] => none
  | s :: r =>
    match bestBody l key r, wholeBody l key s 256 0 [] with
    | none, none => none
    | none, some b => some (s, b)
    | some x, none => some x
    | some x, some b => if x.1 < s then some (s, b) else some x

/-- The body of `key` with SEQ `seq` in one ring, with the RING_GEN of the sector of its first part. -/
def ringBody (d : Dev) (r key seq : Nat) : Option (Nat × List Byte) :=
  (wholeBody (ringRecs d r) key seq 256 0 []).map fun b =>
    ((((ring d r).used.find? fun s => s.recs.any fun x => x.key == key && x.seq == seq).map (·.gen)).getD 0, b)

/-- Where the bodies of both rings differ: the ring that wins, by the higher RING_GEN, ring A when equal, and its body (R730). -/
def conflictWinner (d : Dev) (key seq : Nat) : Option (Nat × List Byte) :=
  let a := if isTables key then 2 else 0
  match ringBody d a key seq, ringBody d (a + 1) key seq with
  | some x, some y => if x.2 = y.2 then none else if x.1 < y.1 then some (a + 1, y.2) else some (a, x.2)
  | _, _ => none

/-- The body that a mount chooses for `key` (R730). -/
def mounted (d : Dev) (key : Nat) : Option (Nat × List Byte) :=
  let l := if isTables key then ringRecs d 2 ++ ringRecs d 3 else ringRecs d 0 ++ ringRecs d 1
  let c := maxCommit (ringRecs d 0 ++ ringRecs d 1)
  let ok := l.filter fun r => r.key == key && decide (r.commitSeq ≤ c)
  (bestBody ok key (ok.map (·.seq))).map fun x => (x.1, ((conflictWinner d key x.1).map (·.2)).getD x.2)

/-- NV_CONFLICT for `key` (R730, R745): counted, recorded, an event. -/
def conflictScan (key : Nat) (d : Dev) : Dev :=
  match (mounted d key).bind fun x => conflictWinner d key x.1 with
  | none => d
  | some (r, _) => condition K.x1A00_CONFLICTS (wr K.x1A00_LAST_CONFLICT (key * 65536 + ringCode r) (incSat 32 K.x1A00_CONFLICTS d))

/-- Records without a copy in ring B among those in ring A (R730). -/
def missingB (a b : List NvRec) : List NvRec :=
  a.filter fun r => b.all fun x => !(x.key == r.key && x.seq == r.seq && x.part == r.part)

/-- A pair of rings at a mount: bodies without a ring B copy are copied, every ring opens a new sector at its next record
(R729, R730). -/
def mountPair (a : Nat) (d : Dev) : Dev :=
  let m := (missingB (ringRecs d a) (ringRecs d (a + 1))).filter (isCurrent (ringRecs d a) (maxCommit (ringRecs d 0)))
  let d := modRing (a + 1) (fun x => m.foldl (fun x p => ringAppend (a + 1) p x) (closeHead x)) d
  wr K.x1A00_B_COPIES (rd d K.x1A00_B_COPIES + (m.filter (·.last)).length) (modRing a closeHead d)

/-- The distinct COMMIT_SEQ of unconfirmed records (R718, R732). -/
def unconfirmed (d : Dev) : List Nat :=
  let l := ringRecs d 0 ++ ringRecs d 1 ++ ringRecs d 2 ++ ringRecs d 3
  let c := maxCommit (ringRecs d 0 ++ ringRecs d 1)
  (keysOf ((l.filter fun r => decide (c < r.commitSeq)).map fun r => { r with key := r.commitSeq }))

/-- The mount (R729 to R732): torn writes are judged, conflicts raised, sectors open anew, sequence numbers go on, passwords and back-offs are read (R740, R741). -/
def mount (ms_ : Nat) (d : Dev) : Dev :=
  let d := tornSlotScan (forAll (List.range 4) tornScan d)
  let d := wr K.x1A00_UNCONFIRMED_GROUPS (unconfirmed d).length (wr K.x1A00_B_COPIES 0 d)
  let d := forAll (keysOf (ringRecs d 0 ++ ringRecs d 1 ++ ringRecs d 2 ++ ringRecs d 3)) conflictScan d
  let d := mountPair 2 (mountPair 0 d)
  let top := (ringRecs d 0 ++ ringRecs d 1 ++ ringRecs d 2 ++ ringRecs d 3).foldl (fun a r => max a r.seq) 0
  let d := { d with nv := { d.nv with nextSeq := top + 1, posRec := 0, posTab := 0, toCopy := [] } }
  let d := forAll (List.range 4) (fun u d =>
    let d := match mounted d (0xF030 + u) with
      | some (_, b) =>
        wr (K.up_PROTECT_MODE u) (leAt b 0 1)
          { d with user := tabMod {} u (fun x => { x with salt := slice 4 16 b, hash := slice 20 32 b }) d.user }
      | none => d
    let v := tabGet [] d.nv.slotVals u
    wr (K.up_FAILURES u) (leAt v 0 2)
      { d with user := tabMod {} u (fun x => { x with
          backoffLen := leAt v 2 4
          backoffEnd := if leAt v 2 4 = 0 then none else some (d.now + sec (leAt v 2 4)) }) d.user }) d
  change K.x1A00_NV_STATE 2 (wr K.x1A00_MOUNT_MS ms_ d)

/-! ## User partitions (R739 to R743) -/

def user (d : Dev) (u : Nat) : UserPart := tabGet {} d.user u

def modUser (u : Nat) (f : UserPart → UserPart) (d : Dev) : Dev := { d with user := tabMod {} u f d.user }

/-- Has requester `req` unlocked partition `u`? -/
def unlocked (d : Dev) (u req : Nat) : Bool := (user d u).unlocked.contains req

/-- May `req` GET the body, or stage it (R739)? -/
def mayReadBody (d : Dev) (u req : Nat) : Bool := !bitAt (rd d (K.up_PROTECT_MODE u)) 0 || unlocked d u req

def mayStageBody (d : Dev) (u req : Nat) : Bool := !bitAt (rd d (K.up_PROTECT_MODE u)) 1 || unlocked d u req

/-- The password record of a partition (R716). -/
def persistPassword (u req : Nat) (d : Dev) : Dev :=
  persist (0xF030 + u) 0 (natLE 1 (rd d (K.up_PROTECT_MODE u)) ++ [0, 0, 0] ++ padTo 16 (user d u).salt ++
    padTo 32 (user d u).hash) req d

/-- The slot-ring value of a partition: failures and the back-off in force (R741); VALUE_ID u is the model's choice
(log entry 12). -/
def persistBackoff (u : Nat) (d : Dev) : Dev :=
  persistValue u (natLE 2 (rd d (K.up_FAILURES u)) ++ natLE 4 (user d u).backoffLen) d

/-- SET_PASSWORD (R740, R743, R744); the answer is a status code. -/
def setPasswordAct (u req : Nat) (v : List Byte) (d : Dev) : Nat × Dev :=
  let mode := leAt v 0 1
  let len := leAt v 1 1
  if mode ≠ 0 ∧ (3 < mode ∨ len < 8 ∨ 32 < len ∨ (v.drop (2 + len)).any (· != 0)) then (5, d)
  else if mode = 0 then
    (0, persistPassword u req (modUser u (fun x => { x with salt := [], hash := [] }) (wr (K.up_PROTECT_MODE u) 0 d)))
  else
    let salt := natLE 16 (Config.salt d.free).toNat
    let d := { d with free := d.free + 1 }
    (0, persistPassword u req (modUser u (fun x => { x with salt := salt, hash := sha256 (salt ++ slice 2 len v) })
      (wr (K.up_PROTECT_MODE u) mode d)))

/-- Length of the back-off that the n-th consecutive failure starts, in seconds (R741). -/
def backoffFor (n : Nat) : Nat := if n < 5 then 0 else Nat.min (2 ^ (n - 5)) 3600

/-- UNLOCK (R741). -/
def unlockAct (u req : Nat) (v : List Byte) (d : Dev) : Nat × Dev :=
  let x := user d u
  if x.backoffEnd.isSome then (0x0A, d)
  else if leAt v 0 1 ≤ 32 ∧ x.hash ≠ [] ∧ sha256 (x.salt ++ slice 1 (leAt v 0 1) v) = x.hash then
    (0, persistBackoff u (wr (K.up_FAILURES u) 0
      (modUser u (fun x => { x with unlocked := req :: x.unlocked.filter (· != req), backoffLen := 0 }) d)))
  else
    let d := incSat 16 (K.up_FAILURES u) d
    let b := backoffFor (rd d (K.up_FAILURES u))
    (8, persistBackoff u (modUser u (fun x => { x with
      backoffLen := b, backoffEnd := if b = 0 then none else some (d.now + sec b) }) d))

/-- LOCK (R742). -/
def lockAct (u req : Nat) (d : Dev) : Dev := modUser u (fun x => { x with unlocked := x.unlocked.filter (· != req) }) d

/-- ERASE_AND_CLEAR (R743). -/
def eraseClearAct (u req : Nat) (d : Dev) : Dev :=
  let d := modUser u (fun _ => {}) (wr (K.up_PROTECT_MODE u) 0 (wr (K.up_FAILURES u) 0 (wrB (K.up_BODY u) [] d)))
  persistObj (0x1A10 + u) req (persistBackoff u (persistPassword u req d))

end Sys2Proof.Machine
end

