-- ==== Sys2Proof/Machine/Governor.lean ====
section
/-! DEFINITION. The budget governor (03) and the power estimates (01): tokens, the price of deferrable work and its order. -/

namespace Sys2Proof.Machine

/-- The row of a kind of work in R185. -/
def workRow : WorkKind → Nat
  | .motion => 0
  | .hostDma => 1
  | .evidenceExport => 2
  | .nvCompaction => 3
  | .scrub => 4
  | .eyeScan => 5

/-- Tokens of one unit of each row of R185. -/
def workCost (row : Nat) : Nat := [8, 14, 16, 2000, 184, 50].getD row 0

/-- Is the work of a row shed at the present step (R758)? -/
def workShed (d : Dev) (row : Nat) : Bool :=
  let st := rd d K.x1602_SHED_STEP
  (decide (1 ≤ st) && decide (3 ≤ row)) || (decide (2 ≤ st) && (row == 1 || row == 2)) || (decide (3 ≤ st) && row == 0)

/-- Does an operation with one of these codes run? -/
def opRuns (d : Dev) (codes : List Nat) : Bool := (List.range 64).any fun s => codes.any (running d s)

/-- Queues whose host traffic may go best-effort: those that run and have work, each with its function. -/
def hostWorkers (d : Dev) : List (Nat × Nat) :=
  (d.host.queues.filter fun p => p.2.st == 1 && queueWorks p.2).filterMap fun p => (qFn d p.1).map (·, p.1)

/-- Does a row have work that waits: a MOTION converter (R358), a descriptor, an export, a compaction (R722), a scrub or test,
an eye scan? -/
def workWaits (d : Dev) (row : Nat) : Bool :=
  match row with
  | 0 => (List.range 32).any fun f => rd d (K.frc_FRC_MODE f) == 2 && rd d (K.frc_ATTACH f) != 0xFFFF
  | 1 => (hostWorkers d).any fun _ => true
  | 2 => opRuns d [0x21]
  | 3 => opRuns d [0x30] || (List.range 4).any fun r => decide (erasedAhead d r < (compactBelow r).1)
  | 4 => opRuns d [0x40, 0x41] || on d K.x3810_PATROL_ENABLE
  | 5 => opRuns d [0x50]
  | _ => false

/-- ⌊100 × BE_POWER_MAX_MW × k_T × k_E⌋ (R182). -/
def tokensPerMs (d : Dev) : Nat := 100 * rd d K.x5101_BE_POWER_MAX_MW * d.ctl.kT160 * rd d K.x5107_K_E / (160 * 1024)

/-- A tick of the governor (R182, R186). -/
def tokenTick (d : Dev) : Dev :=
  let n := tokensPerMs d
  let c := d.ctl
  let d := wr K.x5107_TOKENS_PER_MS n
    (wr K.x5107_TOKENS_HELD (Nat.min (rd d K.x5107_TOKENS_HELD + n) (n * rd d K.x5101_BUCKET_MS)) d)
  let roll := decide (c.shareAt + ms 100 ≤ d.now)
  { d with ctl := { d.ctl with
    tokensAt := d.now
    shareAt := if roll then d.now else c.shareAt
    shareIssued := if roll then n else c.shareIssued + n
    shareUsed := if roll then [0, 0, 0, 0, 0, 0] else c.shareUsed } }

/-- Tokens that rows served before `row` still ask for one unit each. -/
def earlierCost (d : Dev) (row : Nat) : Nat :=
  ((List.range row).filter fun r => workWaits d r && !workShed d r).foldl (fun a r => a + workCost r) 0

/-- Has a row received its 1/64 of the tokens issued in the running 100 ms (R186)? -/
def shareMet (d : Dev) (row : Nat) : Bool := decide (d.ctl.shareIssued ≤ 64 * d.ctl.shareUsed.getD row 0)

/-- The entry that counts stops of a row; motion is counted per tile elsewhere (R190). -/
def countStop (row : Nat) (d : Dev) : Dev := if row = 0 then d else incSat 32 (K.x5107_PREEMPT_COUNT (row - 1)) d

/-- Tokens that the other rows with work are still owed of their 1/64, at least a unit each (R186). -/
def owedOthers (d : Dev) (row : Nat) : Nat :=
  ((List.range 6).filter fun r => r != row && workWaits d r && !workShed d r && !shareMet d r).foldl
    (fun a r => a + Nat.max (workCost r) (d.ctl.shareIssued / 64 - d.ctl.shareUsed.getD r 0)) 0

/-- The queue whose turn it is for best-effort host traffic: round-robin among functions with work, then among their queues (R609). -/
def nextHostQueue (d : Dev) : Option (Nat × Nat) :=
  let place (x : Nat × Nat) : Nat :=
    (x.1 + 63 - d.ctl.hostFn) % 64 * 65536 + (x.2 + 65535 - tabGet 65535 d.ctl.hostQ x.1) % 65536
  (hostWorkers d).foldl (fun best x =>
    match best with
    | none => some x
    | some b => if place x < place b then some x else some b) none

/-- A paid unit is handed out: of host DMA to the queue whose turn it is, else to its kind. -/
def handOut (row : Nat) (d : Dev) : Dev :=
  if row = 1 then
    match nextHostQueue d with
    | none => d
    | some (f, q) => { d with ctl := { d.ctl with
        hostPaid := tabMod 0 q (· + 1) d.ctl.hostPaid, hostFn := f, hostQ := tabSet f q d.ctl.hostQ } }
  else { d with ctl := { d.ctl with paid := setAt d.ctl.paid row (d.ctl.paid.getD row 0 + 1) } }

/-- One unit of a kind is dispatched when the bucket holds its cost and its turn has come, else the work stops at its safe
point (R185 to R187). A kind that has not its 1/64 yet comes first; any other leaves what earlier rows ask for and what the rest are
owed. -/
def dispatchWork (row : Nat) (d : Dev) : Dev :=
  let held := rd d K.x5107_TOKENS_HELD
  let c := workCost row
  if !workWaits d row then d
  else if workShed d row ∨ held < c then
    (if d.ctl.stopped.getD row false then d
     else countStop row { d with ctl := { d.ctl with stopped := setAt d.ctl.stopped row true } })
  else if shareMet d row ∧ held < c + Nat.max (earlierCost d row) (owedOthers d row) then d
  else
    let d := handOut row d
    wr K.x5107_TOKENS_HELD (held - c) { d with ctl := { d.ctl with
      stopped := setAt d.ctl.stopped row false
      shareUsed := setAt d.ctl.shareUsed row (d.ctl.shareUsed.getD row 0 + c) } }

/-- Are `n` units of a row paid? -/
def isPaid (d : Dev) (row n : Nat) : Bool := decide (n ≤ d.ctl.paid.getD row 0)

/-- `n` paid units of a row are done. -/
def spend (row n : Nat) (d : Dev) : Dev :=
  { d with ctl := { d.ctl with paid := setAt d.ctl.paid row (d.ctl.paid.getD row 0 - n) } }

/-- `f` once `n` units of a row are paid; the work waits at its safe point otherwise (R187). -/
def onceForPaid (row n : Nat) (f : Dev → Dev) (d : Dev) : Dev := if isPaid d row n then f (spend row n d) else d

end Sys2Proof.Machine
end

