-- ==== Sys2Proof/Machine/Memory.lean ====
section
/-! DEFINITION. Frame memory and translation (10): the two codes, poison and retirement, the page table, allocation, windows,
patrol scrub, memory scrub and test. -/

namespace Sys2Proof.Machine

def modFm (f : FrameMem → FrameMem) (d : Dev) : Dev := { d with fm := f d.fm }

/-- The page table entry of a logical page (R553); an entry never written is FREE. -/
def pte (d : Dev) (lpn : Nat) : Pte := tabGet {} d.fm.pt lpn

def setPte (lpn : Nat) (e : Pte) (d : Dev) : Dev := modFm (fun m => { m with pt := tabSet lpn e m.pt }) d

/-- A CK_CTL cycle is 2.5 ns. -/
def ctlCycle (d : Dev) : Nat := d.now / 2500

/-! ## Codes (R541 to R544) -/

/-- The pseudo-channel of a physical address (R541). -/
def pseudoChannel (d : Dev) (a : Nat) : Nat :=
  let n := if bitAt (rd d K.x3800_MEM_MODE) 0 then 5 else 6
  Nat.xor (fld a 8 n) (fld a 16 n)

/-- The stack of a granule, by its number PPN x 1024 + granule (R541). -/
def stackOf (d : Dev) (g : Nat) : Nat := pseudoChannel d (g * 64) / 32

/-- Outcomes: 0 CLEAN, 1 CORRECTED_OUTER, 2 ERASURE, 3 POISONED, 5 INNER_CORRECTED. One decode; none when it fails or two
fragments are flagged. A flagged fragment counts as changed symbols. -/
def decodeOnce (g : GranuleRead) : Option Nat :=
  if 2 ≤ g.flagged ∨ 8 < 2 * g.errors + 8 * g.flagged then none
  else if g.flagged = 1 then some 2
  else if g.errors ≠ 0 then some 1
  else if g.dieCorrected then some 5
  else some 0

/-- The outcome of a granule read with its re-fetch, and whether a fragment was erased (R544). -/
def readOutcome (first refetch : GranuleRead) : Nat × Bool :=
  match decodeOnce first with
  | some o => (o, o == 2)
  | none =>
    match decodeOnce refetch with
    | some _ => (1, refetch.flagged == 1)
    | none => (3, false)

/-- The counter of an outcome (R544, R583). -/
def countOutcome (g o : Nat) (erased : Bool) (d : Dev) : Dev :=
  let s := stackOf d g
  if o = 5 then inc64 (K.x3800_INNER_CORRECTED s) d
  else if o = 2 ∨ (o = 1 ∧ erased) then inc64 (K.x3800_ERASURE_DECODES s) d
  else if o = 1 then inc64 (K.x3800_OUTER_CORRECTED s) d
  else if o = 3 then incSat 32 (K.x3800_POISONED s) d
  else d

/-! ## Counts of pages (R561, R583) -/

/-- PAGES_FREE from the other counts. -/
def pagesRecount (d : Dev) : Dev :=
  wr K.x3800_PAGES_FREE (rd d K.x3800_PAGES_TOTAL - rd d K.x3800_PAGES_RESERVED - rd d K.x3800_RETIRED_PAGES -
    rd d K.x3800_PAGES_ALLOCATED) d

def addPages (k n : Nat) (d : Dev) : Dev := wr k (rd d k + n) d

def subPages (k n : Nat) (d : Dev) : Dev := wr k (rd d k - n) d

/-- The number of poison table entries in use (R583). -/
def poisonRecount (d : Dev) : Dev :=
  wr K.x3800_POISON_STATE (setFld (rd d K.x3800_POISON_STATE) 0 16 d.fm.poison.length) d

/-! ## Poison and retirement (R545 to R551) -/

/-- The retired pages, in order (R551). -/
def retiredList (d : Dev) : List Nat :=
  let b := rdB d K.x3800_RETIRED_LIST
  (List.range (b.length / 4)).map fun i => leAt b (4 * i) 4

/-- A physical page joins the retired list, which is held in NV (R551). -/
def listRetired (ppn : Nat) (d : Dev) : Dev :=
  let d := wrB K.x3800_RETIRED_LIST (rdB d K.x3800_RETIRED_LIST ++ natLE 4 ppn) d
  let d := pagesRecount (incSat 16 K.x3800_RETIRED_PAGES d)
  persistObj 0x3800 0x2000 (modFm (fun m => { m with
    freePpn := m.freePpn.filter (· != ppn), waiting := m.waiting.filter (· != ppn)
    suspects := m.suspects.filter fun g => g / 1024 != ppn }) d)

/-- A spare is used (R551): its number, if any is left; fewer than 64 raise an event. -/
def takeSpare (d : Dev) : Option (Nat × Dev) :=
  let left := rd d K.x3800_SPARES_LEFT
  if left = 0 then none
  else
    let (n, d) := match d.fm.spareFree with
      | s :: r => (s, modFm (fun m => { m with spareFree := r }) d)
      | [] => (d.fm.nextSpare, modFm (fun m => { m with nextSpare := m.nextSpare + 1 }) d)
    let d := wr K.x3800_SPARES_LEFT (left - 1) d
    some (n, onlyIf (left == 64) (condition K.x3800_SPARES_LEFT) d)

/-- The logical page mapped to a physical one. -/
def lpnOf (d : Dev) (ppn : Nat) : Option Nat := (d.fm.pt.find? fun p => p.2.v && p.2.ppn == ppn).map (·.1)

/-- Poison entries of one page move to another, or go. -/
def movePoison (a : Nat) (b : Option Nat) (d : Dev) : Dev :=
  poisonRecount (modFm (fun m => { m with
    poison := match b with
      | some n => m.poison.map fun g => if g / 1024 = a then n * 1024 + g % 1024 else g
      | none => m.poison.filter fun g => g / 1024 != a }) d)

/-- A logical page takes another physical page in one step (R548). -/
def remap (lpn ppn : Nat) (d : Dev) : Dev :=
  let e := pte d lpn
  setPte lpn { e with ppn := ppn, gen := (e.gen + 1) % 2 ^ 32 } d

/-- A physical page is to be retired (R547 to R551). -/
def retirePage (ppn : Nat) (d : Dev) : Dev :=
  if (tabFind d.fm.copies ppn).isSome ∨ d.fm.waiting.contains ppn ∨ (retiredList d).contains ppn then d
  else match lpnOf d ppn with
    | none =>
      if ppn < 5440 ∧ ¬(4416 ≤ ppn ∧ (d.fm.nextSpare ≤ ppn ∨ d.fm.spareFree.contains ppn)) then
        -- in use by the device itself: copied like any page in use
        match takeSpare d with
        | some (n, d) => modFm (fun m => { m with copies := tabSet ppn { lpn := 524288, spare := n } m.copies }) d
        | none => d
      else movePoison ppn none (listRetired ppn d)
    | some l =>
      let e := pte d l
      if e.lock then modFm (fun m => { m with waiting := m.waiting ++ [ppn] }) d
      else match takeSpare d with
        | none => d
        | some (n, d) =>
          if e.cls = 3 then movePoison ppn none (listRetired ppn (remap l n d))
          else modFm (fun m => { m with copies := tabSet ppn { lpn := l, spare := n } m.copies }) d

/-- A granule is poisoned: listed, or its logical page set POISON_ALL when the table is full (R545, R546); its page is to be
retired (R547). -/
def poisonGranule (g : Nat) (d : Dev) : Dev :=
  if d.fm.poison.contains g then d
  else if d.fm.poison.length < 16384 then
    retirePage (g / 1024) (poisonRecount (modFm (fun m => { m with poison := g :: m.poison }) d))
  else
    let d := match lpnOf d (g / 1024) with
      | some l => setPte l { pte d l with poisonAll := true } d
      | none => d
    let n := fld (rd d K.x3800_POISON_STATE) 16 16
    retirePage (g / 1024) (condition K.x3800_POISON_STATE
      (wr K.x3800_POISON_STATE (setFld (rd d K.x3800_POISON_STATE) 16 16 (Nat.min (n + 1) 0xFFFF)) d))

/-- Does a read of the granule return POISONED without a decode (R545, R546)? -/
def isPoisoned (d : Dev) (lpn g : Nat) : Bool := d.fm.poison.contains g || (pte d lpn).poisonAll

/-- A write of a whole granule removes its poison entry (R545). -/
def cleanGranule (g : Nat) (d : Dev) : Dev :=
  if d.fm.poison.contains g then poisonRecount (modFm (fun m => { m with poison := m.poison.filter (· != g) }) d) else d

/-- The bytes of one physical page as another's (R548). -/
def memMovePage (a b : Nat) (m : Mem) : Mem :=
  (m.filter fun c => c.1 / 65536 == a).foldl (fun m c => memSet (c.1 - a * 65536 + b * 65536) c.2 m)
    (memClear (b * 65536) 65536 (memClear (a * 65536) 65536 m))

/-- The copy of a retiring page ends (R548). -/
def copyEnd (ppn : Nat) (m : Mem) (d : Dev) : Mem × Dev :=
  match tabFind d.fm.copies ppn with
  | none => (m, d)
  | some c =>
    let d := modFm (fun x => { x with copies := tabDel ppn x.copies }) d
    let d := if c.lpn < 524288 then remap c.lpn c.spare d else d
    (memMovePage ppn c.spare m, listRetired ppn (movePoison ppn (some c.spare) d))

/-! ## Allocation (R560 to R563) -/

/-- `n` physical pages from the cursor on that are not retired. -/
def freshPpns (d : Dev) (n : Nat) : List Nat :=
  let ret := retiredList d
  ((((List.range (n + ret.length)).map (d.fm.nextPpn + ·)).filter fun p => !ret.contains p && decide (p < rd d K.x3800_PAGES_TOTAL))).take n

/-- The class settings of R554 beside its owner: R, W, X as given. -/
def mkPte (kind num dom cls : Nat) (r w x : Bool) (gen ppn : Nat) : Pte :=
  { gen := gen, okind := kind, onum := num, dom := dom, cls := cls, r := r, w := w, x := x, v := true, ppn := ppn }

/-- `n` pages from the free lists are mapped, one by one. -/
def allocListed (mk : Nat → Nat → Pte) : Nat → List Nat → Dev → List Nat × Dev
  | 0, acc, d => (acc, d)
  | n + 1, acc, d =>
    match d.fm.freeLpn, d.fm.freePpn with
    | l :: ls, p :: ps =>
      allocListed mk n (acc ++ [l])
        (setPte l (mk (((pte d l).gen + 1) % 2 ^ 32) p) (modFm (fun m => { m with freeLpn := ls, freePpn := ps }) d))
    | _, _ => (acc, d)

/-- `n` pages are allocated to an owner: pages never used first, then freed ones (R560; which pages is the model's choice, log
entry 13). The answer is their logical page numbers. -/
def allocPages (n kind num dom cls : Nat) (r w x : Bool) (d : Dev) : List Nat × Dev :=
  let mk := mkPte kind num dom cls r w x
  let ppns := freshPpns d n
  let lpns := (List.range ppns.length).map (d.fm.nextLpn + ·)
  let d := modFm (fun m => { m with
    pt := m.pt ++ List.zipWith (fun l p => (l, mk 1 p)) lpns ppns
    nextLpn := m.nextLpn + ppns.length
    nextPpn := ((ppns.getLast?).map (· + 1)).getD m.nextPpn }) d
  let (more, d) := allocListed mk (n - ppns.length) [] d
  let all := lpns ++ more
  (all, addPages (K.dom_DOMAIN_PAGES dom) all.length (pagesRecount (addPages K.x3800_PAGES_ALLOCATED all.length d)))

/-- A page returns to FREE (R563, R545, R549). -/
def freePage (lpn : Nat) (d : Dev) : Dev :=
  let e := pte d lpn
  if e.v then
    let d := setPte lpn { gen := (e.gen + 1) % 2 ^ 32 } (movePoison e.ppn none d)
    let d := subPages (K.dom_DOMAIN_PAGES e.dom) 1 (pagesRecount (subPages K.x3800_PAGES_ALLOCATED 1 d))
    let d := modFm (fun m => { m with freeLpn := m.freeLpn ++ [lpn], freeing := tabDel lpn m.freeing }) d
    match tabFind d.fm.copies e.ppn with
    | some c => listRetired e.ppn (wr K.x3800_SPARES_LEFT (rd d K.x3800_SPARES_LEFT + 1)
        (modFm (fun m => { m with copies := tabDel e.ppn m.copies, spareFree := c.spare :: m.spareFree }) d))
    | none =>
      if d.fm.waiting.contains e.ppn then listRetired e.ppn d
      else modFm (fun m => { m with freePpn := m.freePpn ++ [e.ppn] }) d
  else d

/-- Pages freed by a change wait for the readers that hold frames of `store` numbered below `num` (R563). -/
def releasePages (lpns : List Nat) (store num : Nat) (d : Dev) : Dev :=
  modFm (fun m => { m with freeing := lpns.foldl (fun f l => tabSet l (store, num) f) m.freeing }) d

/-- X of a store's pages follows the export queues that may name it (R558). -/
def setExport (lpns : List Nat) (x : Bool) (d : Dev) : Dev :=
  forAll lpns (fun l d => setPte l { pte d l with x := x } d) d

/-! ## Translation (R556, R567) -/

/-- The cause of a translation fault, 0 when the access is allowed. -/
def faultCause (d : Dev) (m : MemAccess) : Nat :=
  let e := pte d m.lpn
  let k := m.unit.kind.val
  if m.tablePoisoned then 8
  else if k = 9 then 0
  else if !e.v then 1
  else if k = 7 ∨ k = 8 then
    (if e.dom = m.domain.val then (if m.exportRead then 0 else if m.write then (if e.w then 0 else 4) else (if e.r then 0 else 3))
     else if m.exportRead ∧ e.dom = 0 then (if e.x then 0 else 5)
     else 2)
  else if k = 0x0A then (if e.cls = 5 ∨ e.cls = 6 then 0 else if m.write then 4 else 3)
  else if m.write then
    (if e.lock then 6 else if e.okind = k ∧ e.onum = m.unit.number.val then 0 else 7)
  else if e.cls = 1 ∨ e.cls = 2 ∨ e.cls = 3 then 0
  else 3

/-- A translation fault is recorded (R584): of two in one CK_CTL cycle the lower unit kind stays. -/
def recordFault (page dom kind num cause : Nat) (write : Bool) (d : Dev) : Dev :=
  let d := incSat 32 (K.dom_DOMAIN_FAULTS dom) (incSat 32 K.x3806_FAULT_COUNT d)
  let keep := match d.fm.faultCycle with
    | some (c, k) => c == ctlCycle d && decide (k ≤ kind)
    | none => false
  if keep then d
  else
    wr K.x3806_LAST_PAGE page (wr K.x3806_LAST_DOMAIN dom (wr K.x3806_LAST_UNIT (kind * 2 ^ 24 + num)
      (wr K.x3806_LAST_CAUSE cause (wr K.x3806_LAST_STC (stcNs d) (wr K.x3806_LAST_KIND (if write then 1 else 0)
        (modFm (fun m => { m with faultCycle := some (ctlCycle d, kind) }) d))))))

/-! ## Consumers (R552) -/

def unitKey (kind num : Nat) : Nat := kind * 65536 + num

/-- A unit meets poison or a fault: the line fails, and the first in its frame raises one CONDITION event naming `entry`. -/
def unitMeets (u line entry : Nat) (write : Bool) (d : Dev) : Dev :=
  let first := !d.fm.met.contains u
  let d := modFm (fun m => { m with
    met := if first then u :: m.met else m.met
    bad := (u + (if write then 2 ^ 24 else 0), line) :: m.bad }) d
  onlyIf first (condition entry) d

/-- Lines that failed for a unit in its present frame. -/
def badLines (d : Dev) (u : Nat) : List Nat := (d.fm.bad.filter fun p => p.1 == u).map (·.2)

/-- Did a write of a unit fail in its present frame? -/
def writeFailed (d : Dev) (u : Nat) : Bool := d.fm.bad.any fun p => p.1 == u + 2 ^ 24

/-- A unit begins its next frame. -/
def unitFrame (u : Nat) (d : Dev) : Dev :=
  modFm (fun m => { m with met := m.met.filter (· != u), bad := m.bad.filter fun p => p.1 % 2 ^ 24 != u }) d

/-- The descriptor of queue `q` whose transfer goes on. -/
def runningDescr (d : Dev) (q : Nat) : Option Descr := (queue d q).descs.find? fun x => x.status.isNone && !isFence x.bytes

/-- A host path meets poison or a fault, at most one event for a descriptor, naming `entry` (R552): a queue's running descriptor completes
with TRANSLATION and the queue pauses, or with POISONED and the queue goes on (R189, R624, R625); a BAR4 access only reports. -/
def hostMeets (kind q entry : Nat) (fault : Bool) (d : Dev) : Dev :=
  if kind ≠ 7 then condition entry d
  else match runningDescr d q with
    | none => d
    | some x =>
      let d := condition entry d
      if fault then faultDescr q x.ring 3 x.moved d else finishDescr q x.ring 2 x.moved 0 0 false d

/-- A unit of either kind meets poison or a fault in an access. -/
def consumerMeets (m : MemAccess) (entry : Nat) (fault : Bool) (d : Dev) : Dev :=
  if m.unit.kind.val = 7 ∨ m.unit.kind.val = 8 then hostMeets m.unit.kind m.unit.number entry fault d
  else unitMeets (unitKey m.unit.kind m.unit.number) m.line entry m.write d

/-- An access to frame memory through translation (R544, R552, R556); one that meets a stack whose PHY relocks cannot complete
in time and fails as a poisoned one (R637). -/
def memoryAccess (m : MemAccess) (d : Dev) : Dev :=
  let c := faultCause d m
  if c ≠ 0 then
    let d := recordFault m.lpn m.domain m.unit.kind m.unit.number c m.write d
    let d := onlyIf (c == 8) (raiseX 3 K.x3806_LAST_CAUSE 0 8 0xFF 0xFFFFFFFF [] (some 4)) d
    consumerMeets m K.x3806_FAULT_COUNT true d
  else
    let g := (pte d m.lpn).ppn * 1024 + m.granule.val
    if rd d (K.x1012_MB_STATE (stackOf d g)) = 1 then
      consumerMeets m (K.x3800_POISONED (stackOf d g)) false d
    else if m.write then cleanGranule g d
    else
      let (o, er) := if isPoisoned d m.lpn g then (3, false) else readOutcome m.first m.refetch
      let d := countOutcome g o er d
      if o = 3 then
        consumerMeets m (K.x3800_POISONED (stackOf d g)) false (onlyIf (!isPoisoned d m.lpn g) (poisonGranule g) d)
      else d

/-! ## Windows (R570 to R573) -/

/-- The pages of the window of domain `w`. -/
def window (d : Dev) (w : Nat) : List Nat := tabGet [] d.fm.windows w

/-- The physical byte address of an offset in a window, none when it is not mapped (R570). -/
def windowAddr (d : Dev) (w off : Nat) : Option Nat :=
  ((window d w)[off / 65536]?).map fun l => (pte d l).ppn * 65536 + off % 65536

/-- A window grows by one page, filled with zeros and mapped (R559, R573). -/
def growWindow (w : Nat) (m : Mem) (d : Dev) : Mem × Dev :=
  if (window d w).length < rd d (K.dom_WINDOW_PAGES w) then
    match allocPages 1 0x08 w w 4 true true true d with
    | (l :: _, d) =>
      (memClear ((pte d l).ppn * 65536) 65536 m,
       wr (K.dom_WINDOW_READY w) ((window d w).length + 1)
         (modFm (fun x => { x with windows := tabSet w (window d w ++ [l]) x.windows }) d))
    | ([], d) => (m, d)
  else (m, d)

/-- WINDOW_PAGES applied: a smaller window is unmapped from its end (R573). -/
def shrinkWindow (w : Nat) (d : Dev) : Dev :=
  let n := rd d (K.dom_WINDOW_PAGES w)
  let gone := ((window d w).drop n).reverse
  forAll gone freePage (wr (K.dom_WINDOW_READY w) (Nat.min (window d w).length n)
    (modFm (fun x => { x with windows := tabSet w ((window d w).take n) x.windows }) d))

/-- The granules that `n` bytes from physical address `a` touch, and those they cover whole. -/
def granulesOf (a n : Nat) : List Nat := (List.range ((a + n + 63) / 64 - a / 64)).map (a / 64 + ·)

def wholeGranules (a n : Nat) : List Nat := (granulesOf a n).filter fun g => decide (a ≤ g * 64) && decide (g * 64 + 64 ≤ a + n)

/-- A BAR4 access to a page that is not mapped (R571). -/
def bar4Unmapped (f off : Nat) (write : Bool) (d : Dev) : Dev :=
  toHost (.unsupported f) (condition K.x3806_FAULT_COUNT (recordFault (off / 65536) f 8 f 1 write d))

/-- A BAR4 read (R570 to R572); poison is passed on (R552). -/
def bar4Get (f off n : Nat) (m : Mem) (d : Dev) : Dev :=
  if rd d (K.fn_FN_STATE f) ≠ 1 ∨ rd d K.x3C00_LINK_STATE = 0 then d
  else match windowAddr d f off with
    | none => bar4Unmapped f off false d
    | some a =>
      let l := (window d f).getD (off / 65536) 0
      let p := (granulesOf a n).find? (isPoisoned d l)
      toHost (.readData f (memRead m a n) p.isSome)
        (match p with
         | some g => condition (K.x3800_POISONED (stackOf d g)) (incSat 32 (K.x3800_POISONED (stackOf d g)) d)
         | none => d)

/-- A BAR4 write (R570 to R572). -/
def bar4Put (f off : Nat) (b : List Byte) (m : Mem) (d : Dev) : Mem × Dev :=
  if rd d (K.fn_FN_STATE f) ≠ 1 ∨ rd d K.x3C00_LINK_STATE = 0 then (m, d)
  else match windowAddr d f off with
    | none => (m, bar4Unmapped f off true d)
    | some a => (memWrite a b m, forAll (wholeGranules a b.length) cleanGranule d)

/-! ## Scrub and test (R575 to R582) -/

/-- One granule of a scrub: decoded, corrected bytes written back, poison listed (R575); the outcome. -/
def scrubGranule (ppn : Nat) (r : Nat × GranuleRead) (d : Dev) : Nat × Dev :=
  let g := ppn * 1024 + r.1
  if d.fm.poison.contains g || ((lpnOf d ppn).map fun l => (pte d l).poisonAll).getD false then (3, countOutcome g 3 false d)
  else
    let (o, er) := readOutcome r.2 r.2
    let d := countOutcome g o er d
    (o, if o = 3 then poisonGranule g d else d)

/-- A page's granules, with the list of those not clean and their outcomes. -/
def scrubAll (ppn : Nat) : List (Nat × GranuleRead) → Dev → List (Nat × Nat) × Dev
  | [], d => ([], d)
  | r :: l, d =>
    let (o, d) := scrubGranule ppn r d
    let (rest, d) := scrubAll ppn l d
    (if o = 0 ∨ o = 5 then rest else (r.1, o) :: rest, d)

/-- Patrol's next page in service from `p` on: a page that is retired or being retired is skipped (R575, R576). -/
def patrolNext (d : Dev) : Nat → Nat → Nat
  | 0, p => p
  | n + 1, p =>
    if (retiredList d).contains p ∨ (tabFind d.fm.copies p).isSome then patrolNext d n (p + 1) else p

/-- Patrol visits page `ppn` (R575, R547, R577, R586). -/
def patrolPage (ppn : Nat) (reads : List (Nat × GranuleRead)) (d : Dev) : Dev :=
  let d := onlyIf (d.fm.patrolPos == 0) (modFm fun m => { m with passStart := d.now, passHours := rd d K.x3810_PATROL_HOURS }) d
  let old := d.fm.suspects.filter fun g => g / 1024 == ppn
  let (found, d) := scrubAll ppn reads d
  let outer := (found.filter fun x => x.2 == 1 || x.2 == 2).map fun x => ppn * 1024 + x.1
  let d := modFm (fun m => { m with
    suspects := ((m.suspects.filter fun g => g / 1024 != ppn) ++ outer).drop
      (((m.suspects.filter fun g => g / 1024 != ppn) ++ outer).length - 4096)
    patrolPos := ppn + 1 }) d
  let d := onlyIf (outer.any old.contains) (retirePage ppn) d
  let d := wr K.x3810_SUSPECT_ENTRIES d.fm.suspects.length (wr K.x3810_PASS_PAGES (rd d K.x3810_PASS_PAGES + 1) d)
  let total := rd d K.x3800_PAGES_TOTAL
  if total ≤ patrolNext d ((retiredList d).length + d.fm.copies.length) (ppn + 1) then
    wr K.x3810_LAST_PASS_S ((d.now - d.fm.passStart) / 1000000000000) (wr K.x3810_PASS_PAGES 0
      (wr K.x3810_LAG_PAGES 0 (wr K.x3810_PASS_COUNT ((rd d K.x3810_PASS_COUNT + 1) % 2 ^ 32)
        (modFm (fun m => { m with patrolPos := 0, lagging := false }) d))))
  else
    let due := (d.now - d.fm.passStart) * total / sec (3600 * d.fm.passHours)
    let lag := due - rd d K.x3810_PASS_PAGES
    let late := decide (total < lag * 10)
    let d := wr K.x3810_LAG_PAGES lag (modFm (fun m => { m with lagging := late }) d)
    d

/-- Entry of operations 0x0040 and 0x0041 (R578). -/
def scrubEnter (s : Nat) (d : Dev) : Dev :=
  let op := (slotRun d s).op
  let total := rd d K.x3800_PAGES_TOTAL
  if rd d (K.slot_OWNER s) ≠ 0 then finishSlot s 4 3 d
  else if arg d s 7 = 0 ∨ 524288 < arg d s 7 ∨ total < arg d s 6 + arg d s 7 ∨
      (op = 0x41 ∧ (arg d s 8 = 0 ∨ 15 < arg d s 8)) then finishSlot s 4 1 d
  else if (busySlots d).any fun x => x != s && (rd d (K.slot_OPCODE x) == 0x40 || rd d (K.slot_OPCODE x) == 0x41) then
    finishSlot s 4 2 d
  else d

/-- The partial result of a granule (R581). -/
def scrubResult (page granule outcome : Nat) : Nat := page * 2 ^ 45 + granule * 2 ^ 35 + outcome * 2 ^ 24

/-- One page of operation 0x0040 or 0x0041 is done or skipped; the end of the last one is the completion point, and an abort asked before
it takes effect (R135, R582). -/
def scrubAdvance (s : Nat) (done : Bool) (d : Dev) : Dev :=
  let a := if done then 9 else 0xA
  let d := setArg s a (arg d s a + 1) d
  let n := arg d s 9 + arg d s 0xA
  let d := setProgress s (100 * n / arg d s 7) d
  if (slotRun d s).abortAsked then abortSlot s d
  else if n = arg d s 7 then finishSlot s 3 0 d
  else d

/-- Work of a slot that costs `n` units of a row: a slot that stands at its safe point for want of them is aborted there (R135, R187). -/
def slotForPaid (s row n : Nat) (f : Dev → Dev) (d : Dev) : Dev :=
  if (slotRun d s).abortAsked && !isPaid d row n then abortSlot s d else onceForPaid row n f d

/-- One page of operation 0x0040 (R579). -/
def scrubPage (s : Nat) (reads : List (Nat × GranuleRead)) (d : Dev) : Dev :=
  let l := arg d s 6 + arg d s 9 + arg d s 0xA
  let e := pte d l
  if !e.v then scrubAdvance s false d
  else
    slotForPaid s 4 1 (fun d =>
      let r0 := rd d K.x3800_RETIRED_PAGES + d.fm.copies.length
      let (found, d) := scrubAll e.ppn reads d
      let d := forAll found (fun x => pushResult s (scrubResult l x.1 x.2)) d
      let d := onlyIf (decide (r0 < rd d K.x3800_RETIRED_PAGES + d.fm.copies.length)) (pushResult s (scrubResult l 0 5)) d
      scrubAdvance s true d) d

/-- Is a physical page FREE, neither reserved nor a spare (R580)? -/
def testable (d : Dev) (ppn : Nat) : Bool :=
  decide (5440 ≤ ppn) && (lpnOf d ppn).isNone && !(retiredList d).contains ppn

/-- One page of operation 0x0041 (R580): granules that failed a pattern. -/
def testPage (s : Nat) (failed : List Nat) (d : Dev) : Dev :=
  let p := arg d s 6 + arg d s 9 + arg d s 0xA
  if !testable d p then scrubAdvance s false d
  else
    slotForPaid s 4 (popCount (arg d s 8) 4) (fun d =>
      let d := forAll failed (fun g => pushResult s (scrubResult p g 4)) d
      let d := onlyIf (!failed.isEmpty) (fun d => pushResult s (scrubResult p 0 5) (retirePage p d)) d
      scrubAdvance s true d) d

/-! ## Page table query (R585) -/

/-- The 16 bytes of an entry, low half first (R553). -/
def pteBytes (e : Pte) : List Byte :=
  let b (x : Bool) (i : Nat) : Nat := if x then 2 ^ i else 0
  natLE 16 (e.ppn + b e.v 24 + b e.r 25 + b e.w 26 + b e.x 27 + b e.lock 28 + b e.poisonAll 29 + e.cls * 2 ^ 30 +
    e.dom * 2 ^ 34 + e.onum * 2 ^ 40 + e.okind * 2 ^ 56 + e.gen * 2 ^ 64 + e.lockSeq * 2 ^ 96)

/-- What a query word of requester `req` resolves to: an LPN, or none. A virtual function sees its own domain alone. -/
def queryLpn (d : Dev) (req q : Nat) : Option Nat :=
  let l := if q < 2 ^ 31 then some (q % 2 ^ 19) else (window d (fld q 24 6))[q % 2 ^ 19]?
  l.filter fun l => !(isPcie req && req != 0) || (pte d l).dom == req

end Sys2Proof.Machine
end

