-- ==== Sys2Proof/Machine/Inputs.lean ====
section
/-! DEFINITION. Input pipelines and frame stores (05): rings of slots, detection, normalisation, damaged lines, multi-link
policies, publication. -/

namespace Sys2Proof.Machine

/-! ## Stores (R272 to R276) -/

def store (d : Dev) (id : Nat) : Store := tabGet {} d.video.stores id

def modStore (id : Nat) (f : Store → Store) (d : Dev) : Dev :=
  { d with video := { d.video with stores := tabMod {} id f d.video.stores } }

/-- The slots that a reading unit holds from now on (R275). -/
def hold (u : Nat) (l : List (Nat × Nat)) (d : Dev) : Dev :=
  { d with video := { d.video with holds := if l.isEmpty then tabDel u d.video.holds else tabSet u l d.video.holds } }

/-- The same, until instant `t`: it has then read the last line it needs. -/
def holdUntil (u : Nat) (l : List (Nat × Nat)) (t : Ps) (d : Dev) : Dev :=
  hold u l { d with video := { d.video with holdEnds := tabSet u t d.video.holdEnds } }

/-- Does a reader, an export among them, hold a frame of those that `f` selects by store and number (R273, R275, R615)? -/
def anyHeld (d : Dev) (f : Nat × Nat → Bool) : Bool :=
  (d.video.holds.any fun p => p.2.any f && (tabFind d.video.holdEnds p.1).all fun t => decide (d.now < t)) ||
    d.host.queues.any fun p => p.2.descs.any fun x => x.hold.any f

/-- Is frame `n` of store `id` held? -/
def isHeld (d : Dev) (id n : Nat) : Bool := anyHeld d (· == (id, n))

/-- The list without its first member that `p` selects. -/
def dropFirst {α : Type} (p : α → Bool) : List α → List α
  | [] => []
  | a :: r => if p a then r else a :: dropFirst p r

/-- The number of the newest published frame. -/
def newestNum (s : Store) : Nat := ((s.frames.getLast?).map (·.num)).getD 0

/-- A frame of store `id` is overwritten or not published: what routes and compositions read of it stays with them. -/
def keepShown (id : Nat) (f : Frame) (d : Dev) : Dev :=
  { d with video := { d.video with
      route := d.video.route.map fun r =>
        if r.2.shown.what = 1 ∧ r.2.shown.store = id ∧ r.2.shown.num = f.num ∧ r.2.shown.frame.isNone then
          (r.1, { r.2 with shown := { r.2.shown with frame := some f } })
        else r
      comp := d.video.comp.map fun c => (c.1, { c.2 with job := c.2.job.map fun j => { j with layers := j.layers.map fun l =>
        if l.what = 1 ∧ l.store = id ∧ l.num = f.num ∧ l.frame.isNone then { l with frame := some f } else l } }) } }

/-- The writer takes a slot for its next frame: a free one, else the oldest that no reader holds and that does not hold the newest
published frame; none may qualify (R273). -/
def takeSlot (id : Nat) (d : Dev) : Dev :=
  let s := store d id
  let old (x : Frame) : Bool := !isHeld d id x.num && x.num != newestNum s
  if s.frames.length + (if s.pending.isSome then 1 else 0) < s.depth then modStore id (fun s => { s with room := true }) d
  else match s.frames.find? old with
    | some x => keepShown id x (modStore id (fun s => { s with room := true, frames := dropFirst old s.frames }) d)
    | none => modStore id (fun s => { s with room := false }) d

/-- A frame is written into the slot taken for it, and waits to be published; false when there is none (R273). -/
def writeFrame (id : Nat) (f : Frame) (d : Dev) : Bool × Dev :=
  if (store d id).room then (true, modStore id (fun s => { s with pending := some f, room := false }) d) else (false, d)

/-- The frame written is published (R274). -/
def publishFrame (id : Nat) (d : Dev) : Dev :=
  modStore id (fun s => match s.pending with
    | some f => { s with pending := none, pubs := s.pubs + 1, frames := s.frames ++ [{ f with ord := s.pubs + 1 }] }
    | none => s) d

/-- A published frame of a store, by number. -/
def frameOf (d : Dev) (id n : Nat) : Option Frame := (store d id).frames.find? fun f => f.num == n

/-- Active size of a frame. -/
def frameSize (f : Frame) : Nat × Nat := rasterSize (fmtRaster f.format)

/-- Tiles across and down of a raster (R429). -/
def tilesOf (w h : Nat) : Nat × Nat := ((w + 63) / 64, (h + 63) / 64)

/-- A map with one class everywhere. -/
def flatMapOf (w h c : Nat) : List Nat := List.replicate ((tilesOf w h).1 * (tilesOf w h).2) c

/-- Bytes of one slot of a store holding `w` × `h` in a packing (R267), in whole pages (R272). -/
def lineBytes (w packing : Nat) : Nat := if packing = 1 then (w + 15) / 16 * 80 else (w + 7) / 8 * 36

def slotPages (w h packing : Nat) : Nat := (lineBytes w packing * h + 65535) / 65536

/-! ## Roles and rates -/

/-- Highest accepted SDI rate of a receiver as its class 1 to 6, 0 when it accepts none. -/
def topRate (d : Dev) (p : Nat) : Nat := ((accepted d p).map (· % 16)).foldl max 0

/-- The largest raster that a slot of input `p` holds (R272). -/
def slotRaster (d : Dev) (p : Nat) : Nat × Nat :=
  if (tieOf d p).isSome then (8192, 4320)
  else match rxAssembly d p with
    | some ms =>
      let m := rd d (K.ml_RX_ML_MODE (p / 4))
      if mlLayout m = 5 ∨ (mlRate m = 6) then (8192, 4320) else if ms.length = 2 then (2048, 1080) else (4096, 2160)
    | none => if topRate d p ≤ 1 then (720, 576) else if topRate d p ≤ 3 then (2048, 1080) else (4096, 2160)

/-- Is a link of input `p` usable: LOCKED; a tie channel has signal while its bundle is UP or UP_DEGRADED (R262)? -/
def signalPresent (d : Dev) (p : Nat) : Bool :=
  match tieOf d p with
  | some b => rd d (K.tb_BUNDLE_STATE b) == 3 || rd d (K.tb_BUNDLE_STATE b) == 4
  | none =>
    match rxAssembly d p with
    | some ms => ms.any fun x => rd d (K.rx_RX_STATE x) == 3
    | none => rd d (K.rx_RX_STATE p) == 3

/-- INPUT_STATE takes a value: an event on each change, FORMAT_CHANGES, and lock sources lost with the input (R262, R277,
R280). -/
def inputState (p st : Nat) (d : Dev) : Dev :=
  let old := rd d (K.ip_INPUT_STATE p)
  let d := change (K.ip_INPUT_STATE p) st d
  let d := onlyIf (old == 5 && st == 2) (incSat 32 (K.ip_FORMAT_CHANGES p)) d
  let d := onlyIf (old != 5 && st == 5) (modInp p fun x => { x with refSince := d.now }) d
  onlyIf (old == 5 && st != 5) (fun d => inputRefLost p (modInp p (fun x => { x with lockHist := [] }) d)) d

/-! ## Normalisation (R266 to R268) -/

/-- Chroma of odd pixels from the co-sited values on either side (R266); `l` is what is left of the line. -/
def fillChroma : List Px → List Px
  | a :: b :: c :: r =>
    a :: { b with c1 := (a.c1 + c.c1 + 1) / 2, c2 := (a.c2 + c.c2 + 1) / 2 } :: fillChroma (c :: r)
  | [a, b] => [a, { b with c1 := a.c1, c2 := a.c2 }]
  | l => l

/-- A received line in working form: 12 bits, 4:4:4 (R266). -/
def normLine (sampling depth : Nat) (l : List Px) : List Px :=
  let k := if depth = 0 then 4 else 1
  let l := l.map fun x => { x with c0 := k * x.c0, c1 := k * x.c1, c2 := k * x.c2 }
  if sampling = 0 ∨ sampling = 3 then fillChroma l else l

/-- Rounded to 10 bits and clipped (R268), in 12-bit scale. -/
def round10 (v : Nat) : Nat := 4 * clampN 4 1019 ((v + 2) / 4)

/-- What a P10.422 store keeps of a line that is not 10-bit 4:2:2 (R268). -/
def reduceLine (l : List Px) : List Px :=
  fillChroma (l.map fun x => { x with c0 := round10 x.c0, c1 := round10 x.c1, c2 := round10 x.c2 })

/-- Does the packing hold the source exactly (R268)? -/
def exactIn (packing sampling depth : Nat) : Bool := packing == 0 || ((sampling == 0 || sampling == 3) && depth == 0)

/-- A line as a store keeps it; the key of a 4:2:2:4 source stays in a P10.422 store alone, in 10 bits (R266, R268). -/
def storeLine (packing sampling depth : Nat) (l : List Px) : List Px :=
  let n := normLine sampling depth l
  let key (k : Nat) : Nat := if packing = 1 ∧ sampling = 3 then (if depth = 0 then k else round10 k / 4) else 0x3FF
  (if exactIn packing sampling depth then n else reduceLine n).map fun x => { x with key := key x.key }

/-- Black in working form: Y 64, Cb and Cr 512 at 10 bits (R294). -/
def black : Px := { c0 := 256, c1 := 2048, c2 := 2048 }

/-! ## Detection (R258 to R262) -/

/-- RASTER of a measured structure: the code with these active samples and lines, 0 without one (R257, R258). -/
def rasterFound (f : RxFrame) : Nat :=
  ((List.range 10).find? fun r => r != 0 && rasterSize r == (f.samples, f.fieldLines * f.fields)).getD 0

/-- SCAN of a measured structure, none without a code: progressive has one field, the others two. -/
def scanFound (f : RxFrame) : Option Nat :=
  if f.fields = 1 then some 0 else if f.fields = 2 then some (if f.segments then 2 else 1) else none

/-- A colorimetry or transfer code, 0xF for what has none (R259). -/
def codeOr15 (v : Nat) : Nat := if v ≤ 2 then v else 15

/-- SAMPLING and DEPTH found: what payload ID signals, none for what has no code; without payload ID 4:2:2 and 10 bits (R259). -/
def samplingFound (f : RxFrame) : Option Nat := match f.payload with
  | some q => if q.sampling ≤ 3 then some q.sampling else none
  | none => some 0

def depthFound (f : RxFrame) : Option Nat := match f.payload with
  | some q => if q.depth ≤ 1 then some q.depth else none
  | none => some 0

/-- The format word found: 0 in each field that has no code (R258, R259); a tie channel's comes with its frame (R261). -/
def detect (d : Dev) (p : Nat) (f : RxFrame) : Nat :=
  if (tieOf d p).isSome then f.tieFormat
  else
    let dc := rd d (K.ip_DEFAULT_COLOUR p)
    let (co, tr) := match f.payload with
      | some q => (codeOr15 q.colour, codeOr15 q.transfer)
      | none => (dc / 16, dc % 16)
    mkFormat (rasterFound f) ((scanFound f).getD 0) (rateOfPeriod f.periodPs) ((samplingFound f).getD 0) ((depthFound f).getD 0) co tr

/-- Has the structure a field without a code (R258)? -/
def noCode (d : Dev) (p : Nat) (f : RxFrame) : Bool :=
  (tieOf d p).isNone && (rasterFound f == 0 || (scanFound f).isNone || rateOfPeriod f.periodPs == 0 || (samplingFound f).isNone ||
    (depthFound f).isNone)

/-- Does payload ID disagree with a measured field that it determines (R260)? A tie channel measures nothing (R261). -/
def payloadDiffers (d : Dev) (p : Nat) (f : RxFrame) : Bool :=
  (tieOf d p).isNone && match f.payload with
    | none => false
    | some q =>
      (match q.raster with | some r => rasterFound f != r | none => false) ||
      (match q.scan with | some s => scanFound f != some s | none => false) ||
      (match q.rate with | some r => rateOfPeriod f.periodPs != r | none => false)

/-- The structure of a format word, the part that two frames share when they have one structure (R258, R262). -/
def structureOf (fmt : Nat) : Nat := fmt / 256

/-! ## Links (R307 to R314) -/

/-- The skew of a frame is entered, 0xFFFF when a link is missing (R216), and judged (R215, R308). -/
def judgeSkew (p skewNs : Nat) (d : Dev) : Dev :=
  let q := p / 4
  let short := (rxAssembly d p).any fun ms => ms.any fun x => !bitAt (rd d (K.ml_RX_LINK_STATE q)) (x % 4)
  let d := wr (if p % 4 < 2 then K.ml_RX_SKEW_A_NS q else K.ml_RX_SKEW_B_NS q) (if short then 0xFFFF else Nat.min skewNs 0xFFFF) d
  let x := inp d p
  if 4000 < skewNs then
    let d := modInp p (fun x => { x with skewed := true, skewGood := 0 }) d
    if x.skewed then d else condition (K.ml_SKEW_EVENTS q) (incSat 32 (K.ml_SKEW_EVENTS q) d)
  else modInp p (fun x => { x with skewGood := x.skewGood + 1, skewed := x.skewed && decide (x.skewGood + 1 < 2) }) d

/-- The link that carries a component of a pixel (R312; the standards' assignment is PRESUMED, log entry 8). Four links: quadrants under
square division, two-sample interleave otherwise. Two links of ST 425-3 (`pair` 1): chroma of odd pixels on the second. Two links of 24G
(`pair` 2): two sub-images each, halves under square division, lines in turn otherwise. -/
def linkOfSample (pair : Nat) (square : Bool) (w h x y comp : Nat) : Nat :=
  if pair = 1 then (if comp ≠ 0 ∧ x % 2 = 1 then 1 else 0)
  else if pair = 2 then (if square then (if 2 * y < h then 0 else 1) else y % 2)
  else if square then (if 2 * y < h then 0 else 2) + (if 2 * x < w then 0 else 1)
  else 2 * (y % 2) + x / 2 % 2

/-- How the links of input `p` share a picture: 0 four links, 1 dual-link 3G, 2 dual-link 24G (R211). -/
def pairOf (d : Dev) (p : Nat) : Nat :=
  let m := rd d (K.ml_RX_ML_MODE (p / 4))
  if 4 ≤ mlLayout m then 0 else 1 + m % 2

/-- Does tile (tx, ty) hold samples of a missing link? -/
def tileMissing (missing : List Nat) (pair : Nat) (square : Bool) (w h tx ty : Nat) : Bool :=
  let top := decide (2 * (64 * ty) < h)
  let bottom := decide (h < 2 * Nat.min h (64 * ty + 64))
  if pair = 0 ∧ square then
    missing.any fun k =>
      (if k / 2 = 0 then top else bottom) &&
      (if k % 2 = 0 then decide (2 * (64 * tx) < w) else decide (w < 2 * Nat.min w (64 * tx + 64)))
  else if pair = 2 ∧ square then missing.any fun k => if k = 0 then top else bottom
  else missing != []

/-- A frame with the samples of missing links from the last complete frame, or fill (R311). -/
def patchFrame (missing : List Nat) (pair : Nat) (square : Bool) (last : Option Frame) (f : Frame) : Frame :=
  let (w, h) := frameSize f
  let (ta, _) := tilesOf w h
  let gone (x y c : Nat) : Bool := missing.contains (linkOfSample pair square w h x y c)
  { f with
    pic := f.pic.zipIdx.map fun (l, y) => l.zipIdx.map fun (px, x) =>
      let old := match last with
        | some g => (g.pic.getD y []).getD x black
        | none => black
      { px with
        c0 := if gone x y 0 then old.c0 else px.c0
        c1 := if gone x y 1 then old.c1 else px.c1
        c2 := if gone x y 2 then old.c2 else px.c2
        key := if gone x y 2 then old.key else px.key }
    map := f.map.zipIdx.map fun (c, n) =>
      if tileMissing missing pair square w h (n % ta) (n / ta) then (if last.isSome then 3 else 4) else c
    damaged := (List.range h).filter fun y =>
      f.damaged.contains y || (List.range w).any fun x => gone x y 0 || gone x y 1 }

/-! ## Frames (R262 to R274) -/

/-- SAMPLING and DEPTH of the lines as they arrive: a tie channel brings working form, 4:4:4 at 12 bits (R251). -/
def lineForm (d : Dev) (p fmt : Nat) : Nat × Nat :=
  if (tieOf d p).isSome then (1, 1) else (fmtSampling fmt, fmtDepth fmt)

/-- Has the frame in progress of a tie channel lost data (R249)? The manual does not say which of its lines: all count as damaged. -/
def tieLost (d : Dev) (p : Nat) : Bool := (tieOf d p).any fun b => (tie d b).dataLost.contains (p % 8)

/-- The frame that ended, as its slot holds it (R265 to R269). -/
def makeFrame (d : Dev) (p : Nat) (f : RxFrame) (num fmt : Nat) (start : Ps) : Frame :=
  let (w, h) := rasterSize (fmtRaster fmt)
  let pk := rd d (K.ip_PACKING p)
  let (sa, de) := lineForm d p fmt
  let lost := tieLost d p
  let pad := List.replicate w black
  let missing := (List.range h).filter fun y => (f.lines.getD y none).isNone
  let crc := if rd d (K.ip_CRC_POLICY p) = 1 then f.crcFailed else []
  let bad := (d.fm.bad.filter fun x => x.1 % 2 ^ 24 == unitKey 1 p).map (·.2)
  let dmg := (List.range h).filter fun y => lost || missing.contains y || crc.contains y || bad.contains y
  { num := num, stamp := stcAt d f.firstPixel, startAt := start, periodPs := f.periodPs, format := fmt
    ltc := f.ltc.toNat, vitc := f.vitc.toNat, payload := (f.payload.map (·.word.toNat)).getD 0
    damaged := dmg
    map := if (tieOf d p).isSome then f.tieMap else flatMapOf w h (if exactIn pk sa de then 0 else 1)
    origStamp := f.tieStamp
    pic := (List.range h).map fun y => match f.lines.getD y none with
      | some l => storeLine pk sa de l
      | none => pad }

/-- The phase of a frame boundary now against generator `g`'s seams, and the generator's frame period at its frequency. -/
def boundaryPhase (d : Dev) (g : Nat) : Int × Nat :=
  let tp := tgPeriodNow d g
  (((d.now - (tg d g).lastSeam) % (max 1 tp) : Nat), tp)

/-- The boundaries of the latest 1 s against generator `g`: this one joins them while the periods agree within 1 ppm (R281). -/
def followLock (d : Dev) (period g : Nat) (l : Tab (List (Ps × Int))) : Tab (List (Ps × Int)) :=
  let (ph, tp) := boundaryPhase d g
  if period * 1000000 ≤ tp * 1000001 ∧ tp * 1000000 ≤ period * 1000001 then
    let old := tabGet [] l g
    let near := old.takeWhile fun x => decide (d.now < x.1 + sec 1)
    tabSet g ((d.now, ph) :: (near ++ (old.drop near.length).take 1)) l
  else tabDel g l

/-- The lock of an input to each generator is followed at its frame boundary (R281). -/
def followLocks (p period : Nat) (d : Dev) : Dev :=
  modInp p (fun x => { x with lockHist := (List.range 8).foldl (fun l g => followLock d period g l) x.lockHist, lastBoundary := d.now }) d

/-- How far boundaries moved in phase against generator `g`, as places about the newest. -/
def phaseSpread (d : Dev) (g : Nat) (l : List (Ps × Int)) : Nat :=
  let tp : Int := (boundaryPhase d g).2
  let ph0 := ((l.head?).map (·.2)).getD 0
  let at_ (ph : Int) : Int := let r := (ph - ph0) % tp; if 2 * r > tp then r - tp else r
  let places := l.map fun x => at_ x.2
  (places.foldl max 0 - places.foldl min 0).toNat

/-- TG_LOCKED of input `p` (R281). -/
def tgLockedBits (d : Dev) (p : Nat) : Nat :=
  (List.range 8).foldl (fun a g =>
    let named := rd d (K.tg_LOCK_SOURCE g) == 0x100 + p && rd d (K.tg_TG_STATE g) == 2
    let l := tabGet [] (inp d p).lockHist g
    let followed := (l.any fun x => decide (x.1 + sec 1 ≤ d.now)) && decide (phaseSpread d g l < linePeriod (tgFormat d g))
    if named || followed then a + 2 ^ g else a) 0

/-- A frame is counted as published, with its stamp (R277). -/
def countPublished (p : Nat) (f : Frame) (d : Dev) : Dev :=
  let d := wr (K.ip_LAST_FRAME_STC p) f.stamp (inc64 (K.ip_FRAMES_PUBLISHED p) d)
  onlyIf (!f.damaged.isEmpty) (incSat 32 (K.ip_DAMAGED_FRAMES p)) d

/-- A frame is written, or counted as a drop (R273). -/
def writeInput (p : Nat) (f : Frame) (d : Dev) : Dev :=
  match writeFrame p f d with
  | (true, d) => d
  | (false, d) => incSat 32 (K.ip_STORE_FULL_DROPS p) d

/-- The missing links of a frame of an assembly: they delivered nothing, name another link, are not LOCKED or are in the other family
(R307). -/
def missingLinks (d : Dev) (p : Nat) (f : RxFrame) : List Nat :=
  match rxAssembly d p with
  | none => []
  | some ms => (List.range ms.length).filter fun k =>
      f.links.getD k none != some k || !bitAt (rd d (K.ml_RX_LINK_STATE (p / 4))) ((ms.getD k 0) % 4)

/-- What a frame boundary publishes (R262, R309 to R311): the frame itself, the last complete one again, the patched frame, or
nothing. -/
def boundaryFrame (d : Dev) (p st : Nat) (f : RxFrame) (fr : Frame) : Option Frame :=
  if st = 5 then some fr
  else if st = 4 then
    let last := (store d p).complete
    if rd d (K.ip_ML_POLICY p) = 0 then
      last.map fun g => { g with num := fr.num, startAt := fr.startAt, map := g.map.map fun _ => 3 }
    else if (inp d p).skewed then none
    else some (patchFrame (missingLinks d p f) (pairOf d p) (match f.payload with | some q => q.square | none => false) last fr)
  else none

/-- The state of R262 after a frame boundary. -/
def stateAfter (d : Dev) (p run : Nat) (bad : Bool) (fmt : Nat) (missing : List Nat) : Nat :=
  let ex := rd d (K.ip_EXPECT_FORMAT p)
  if !on d (K.ip_IP_ENABLE p) then 0
  else if !signalPresent d p ∨ (rxAssembly d p).any (fun ms => missing.length == ms.length) then 1
  else if run < 2 ∨ bad then 2
  else if ex ≠ 0 ∧ ex / 65536 ≠ fmt / 65536 then 3
  else if (rxAssembly d p).isSome ∧ (missing ≠ [] ∨ (inp d p).skewed) then 4
  else 5

/-- What the boundary reports in the entries of R277 and its events (R258, R260, R264). -/
def reportFrame (p : Nat) (f : RxFrame) (d : Dev) : Dev :=
  let fmt := detect d p f
  let bad := noCode d p f
  let diff := payloadDiffers d p f
  let x := inp d p
  let d := wr (K.ip_DETECTED_FORMAT p) fmt (wr (K.ip_PAYLOAD_ID p) ((f.payload.map (·.word.toNat)).getD 0)
    (wr (K.ip_ATC_LTC p) f.ltc.toNat (wr (K.ip_ATC_VITC p) f.vitc.toNat d)))
  let d := onlyIf (bad && !x.badEvent) (condition (K.ip_DETECTED_FORMAT p)) d
  let d := onlyIf (diff && !x.mismatch) (condition (K.ip_PAYLOAD_ID p)) d
  modInp p (fun y => { y with
    run := if structureOf y.struct == structureOf fmt && y.run != 0 then y.run + 1 else 1
    struct := fmt, lostFrom := 0, badEvent := bad, mismatch := diff }) d

/-- Links whose payload ID names another position are noted, and RX_LINK_STATE follows (R307, R216). -/
def noteLinks (p : Nat) (f : RxFrame) (d : Dev) : Dev :=
  let wrong := if (rxAssembly d p).isSome then (List.range 4).filter fun k => (f.links.getD k none).any (· != k) else []
  linkRecount p (modInp p (fun x => { x with mlWrong := wrong }) d)

/-- The next frame of a tie channel has lost nothing yet (R249). -/
def tieFresh (p : Nat) (d : Dev) : Dev :=
  match tieOf d p with
  | some b => modTie b (fun t => { t with dataLost := t.dataLost.filter (· != p % 8) }) d
  | none => d

/-- Input `p` starts its next frame: its number, its start, its slot (R273, R279). -/
def startFrame (p num period : Nat) (d : Dev) : Dev :=
  tieFresh p (takeSlot p (modStore p (fun s => { s with prog := some (num, d.now, period), nextNum := num }) d))

/-- The frame that ends at a boundary of input `p` (R256 to R274). -/
def frameEnded (p : Nat) (f : RxFrame) (d : Dev) : Dev :=
  if !on d (K.ip_IP_ENABLE p) ∨ !signalPresent d p ∨ blockDown d (blockOfPort p) then d
  else if (inp d p).cut then startFrame p (store d p).nextNum f.periodPs (modInp p (fun x => { x with cut := false }) d)
  else
    let d := reportFrame p f (judgeSkew p f.skewNs (noteLinks p f d))
    let fmt := rd d (K.ip_DETECTED_FORMAT p)
    let s := store d p
    let (num, start) := match s.prog with
      | some (n, t, _) => (n, t)
      | none => (s.nextNum, d.now - f.periodPs)
    let ms := missingLinks d p f
    let d := inputState p (stateAfter d p (inp d p).run (noCode d p f) fmt ms) d
    let d := onlyIf s.prog.isNone (takeSlot p) d
    let fr := makeFrame d p f num fmt start
    let d := match boundaryFrame d p (rd d (K.ip_INPUT_STATE p)) f fr with
      | some g => writeInput p g d
      | none => keepShown p fr d
    let whole := !noCode d p f && ms.isEmpty && decide (f.skewNs ≤ 4000) && fr.damaged.isEmpty
    let d := startFrame p (num + 1) f.periodPs (modStore p (fun s => { s with complete := if whole then some fr else s.complete }) d)
    unitFrame (unitKey 1 p) (followLocks p f.periodPs (inputPulse p f.periodPs d))

/-- Input `p` whose signal went is missing at once, its cut frame still to come; one whose signal came detects (R262, R270). -/
def inputSignal (p : Nat) (d : Dev) : Dev :=
  let st := rd d (K.ip_INPUT_STATE p)
  if signalPresent d p then (if st = 1 then inputState p 2 (modInp p (fun x => { x with run := 0, lostFrom := 0 }) d) else d)
  else if 2 ≤ st then inputState p 1 (modInp p (fun x => { x with lostFrom := st }) d)
  else d

/-- The input pipelines that take data from receiver `p`: its bundle's channels, its assembly's, or its own (R213, R251). -/
def pipelinesOf (d : Dev) (p : Nat) : List Nat :=
  match tieOf d p with
  | some b => (List.range 5).map (8 * b + ·)
  | none => [((rxAssembly d p).getD [p]).headD p]

/-- The pipelines that take data from receiver `p` follow its signal. -/
def inputsFollow (p : Nat) (d : Dev) : Dev := forAll (pipelinesOf d p) inputSignal d

/-- FRAME_PUBLISH on input `p` (R274). -/
def publishInput (p : Nat) (d : Dev) : Dev :=
  match (store d p).pending with
  | some f => countPublished p f (publishFrame p d)
  | none => d

/-- The pipeline of input `p` is held in reset: the frame in progress is lost, and it resumes at a frame boundary (R802, R808). -/
def inputHalt (p : Nat) (d : Dev) : Dev :=
  modStore p (fun s => { s with prog := none, pending := none }) (modInp p (fun x => { x with cut := true }) d)

/-- The signal of input `p` is lost (R270): the frame cut short is published at once, every line not received damaged. -/
def signalLost (p : Nat) (part : Option RxFrame) (d : Dev) : Dev :=
  let st := if (inp d p).lostFrom = 0 then rd d (K.ip_INPUT_STATE p) else (inp d p).lostFrom
  if !on d (K.ip_IP_ENABLE p) ∨ signalPresent d p ∨ st ≤ 1 then d
  else
    let d := publishInput p d
    let d := match part with
      | none => d
      | some f =>
        let s := store d p
        let (num, start) := match s.prog with
          | some (n, t, _) => (n, t)
          | none => (s.nextNum, d.now)
        let fr := makeFrame d p f num (inp d p).struct start
        match boundaryFrame d p st f fr with
        | some g => publishInput p (modStore p (fun s => { s with nextNum := num + 1 }) (writeInput p g d))
        | none => d
    let d := modStore p (fun s => { s with prog := none }) d
    inputState p 1 (modInp p (fun x => { x with run := 0, badEvent := false, mismatch := false, lostFrom := 0 }) d)

/-! ## Configuration (R272, R276) -/

/-- The pages of a store are released, those of a new size allocated to its unit (R560, R563); its frames are discarded, but for what
routes show of them. -/
def resizeStore (id kind num depth pages : Nat) (d : Dev) : Dev :=
  let s := store d id
  let d := forAll s.frames (keepShown id) (releasePages s.pages id s.nextNum d)
  let (l, d) := allocPages pages kind num 0 (if kind = 4 then 2 else 1) false false false d
  modStore id (fun s => { s with depth := depth, pages := l, frames := [], pending := none, room := false, complete := none, prog := none }) d

/-- IP_ENABLE, PACKING or STORE_DEPTH of input `p` applied (R272, R276); `fresh` marks an enable, from which frames are
counted. -/
def inputApply (p : Nat) (fresh : Bool) (d : Dev) : Dev :=
  let en := on d (K.ip_IP_ENABLE p)
  let n := if en then rd d (K.ip_STORE_DEPTH p) else 0
  let (w, h) := slotRaster d p
  let d := resizeStore p 1 p n (n * slotPages w h (rd d (K.ip_PACKING p))) d
  let d := onlyIf fresh (fun d => wr (K.ip_FRAMES_PUBLISHED p) 0 (modInp p (fun x => { x with run := 0 }) d)) d
  inputState p (if !en then 0 else if signalPresent d p then (if rd d (K.ip_INPUT_STATE p) ≤ 1 then 2 else
    rd d (K.ip_INPUT_STATE p)) else 1) d

end Sys2Proof.Machine
end

