-- ==== Sys2Proof/Machine/Convert.lean ====
section
/-! DEFINITION. Scaling and colour (06): filter coefficients, the polyphase scaler, pre-decimation, colour pipelines, tile
classes through them, coefficient sets. -/

namespace Sys2Proof.Machine

/-! ## Coefficients (R327 to R329, R854) -/

/-- Rounded to the nearest whole number, halves away from zero: `x` over `q`. -/
def roundDiv (x : Int) (q : Nat) : Int := if 0 ≤ x then (2 * x + q) / (2 * q) else -((-2 * x + q) / (2 * q))

/-- 1024 times the cubic kernel at distance `d` / 64, times 512 (R854). -/
def cubicAt (d : Int) : Int :=
  if d ≤ 64 then 3 * d ^ 3 - 320 * d ^ 2 + 524288
  else if d < 128 then -(d ^ 3) + 320 * d ^ 2 - 32768 * d + 1048576
  else 0

/-- The place of the largest magnitude, the lowest on a tie. -/
def largestAt (l : List Int) : Nat :=
  (l.zipIdx.foldl (fun (a : Nat × Nat) x => if a.1 < x.1.natAbs then (x.1.natAbs, x.2) else a) (0, 0)).2

/-- Taps 2 to 5 of CUBIC4 for a phase, summing to 1024 (R854). -/
def cubic4 (phase : Nat) : List Int :=
  let c := (List.range 4).map fun (j : Nat) => roundDiv (cubicAt (((64 * (j : Int) - 64 - phase).natAbs : Nat) : Int)) 512
  let i := largestAt c
  setAt c i (c.getD i 0 + 1024 - c.foldl (· + ·) 0)

/-- The two-tap linear pair of a phase. -/
def linear2 (phase : Nat) : List Int := [1024 - 16 * (phase : Int), 16 * phase]

/-- A signed 16-bit coefficient of a set body (R328). -/
def bodyCoef (body : List Byte) (at_ : Nat) : Int := sx 16 (leAt body at_ 2)

/-- The eight horizontal taps of set `n` with body `b` for a phase (R327, R328). -/
def hTaps (n : Nat) (b : List Byte) (phase : Nat) : List Int :=
  if n = 0x20 then [0, 0] ++ cubic4 phase ++ [0, 0]
  else if n = 0x21 then [0, 0, 0] ++ linear2 phase ++ [0, 0, 0]
  else (List.range 8).map fun j => bodyCoef b (16 + 2 * (8 * phase + j))

/-- The `k` vertical taps of set `n` with body `b` for a phase. -/
def vTaps (n : Nat) (b : List Byte) (k phase : Nat) : List Int :=
  if n = 0x20 ∧ k = 4 then cubic4 phase
  else if n = 0x20 ∨ n = 0x21 then linear2 phase
  else
    let base := if k = 6 then 1040 else if k = 4 then 1808 else 2320
    (List.range k).map fun j => bodyCoef b (base + 2 * (k * phase + j))

/-- Are `k` vertical taps available in set `n` (R327)? -/
def vAvailable (n k : Nat) : Bool :=
  if n = 0x20 then k == 4 || k == 2 else if n = 0x21 then k == 2 else decide (n < 0x20)

/-- Does one table of a body hold coefficients in range, each phase summing to 1024 (R329)? -/
def tableOk (b : List Byte) (base taps : Nat) : Bool :=
  (List.range 64).all fun ph =>
    let c := (List.range taps).map fun j => bodyCoef b (base + 2 * (taps * ph + j))
    c.foldl (· + ·) 0 == 1024 && c.all fun v => decide (-2048 ≤ v) && decide (v ≤ 2047)

/-- Is a coefficient body accepted (R328, R329)? -/
def setBodyOk (b : List Byte) : Bool :=
  b.length == 2576 && leAt b 0 4 == 0x31465343 && leAt b 4 2 == 1 && leAt b 8 4 == crc32c (b.drop 16) &&
    tableOk b 16 8 && tableOk b 1040 6 && tableOk b 1808 4 && tableOk b 2320 2

/-! ## The scaler (R322 to R326, R338) -/

/-- Source coordinate and phase of output coordinate `x` (R323). -/
def scalePos (s dst : Nat) (f : Int) (x : Nat) : Int × Nat :=
  let p : Int := ((2 * x + 1) * s * 2 ^ 20 / (2 * dst) : Nat) - 2 ^ 19 + f
  let q := (p + 2 ^ 13) / 2 ^ 14
  (q / 64, (q % 64).toNat)

/-- A coordinate held inside a crop of size `n` (R324). -/
def clampPos (n : Nat) (i : Int) : Nat := if i < 0 then 0 else if (n : Int) ≤ i then n - 1 else i.toNat

/-- Sum of coefficient times sample, rounded and clipped (R325, R384). -/
def filterSum (top : Nat) (c : List Int) (v : List Nat) : Nat :=
  clampI 0 top (((List.zipWith (fun (a : Int) (b : Nat) => a * (b : Int)) c v).foldl (· + ·) 0 + 512) / 1024)

/-- One pixel from taps; the key or alpha is a fourth component (R384). -/
def filterPx (c : List Int) (l : List Px) : Px :=
  { c0 := filterSum 4095 c (l.map (·.c0)), c1 := filterSum 4095 c (l.map (·.c1)), c2 := filterSum 4095 c (l.map (·.c2))
    key := filterSum 1023 c (l.map (·.key)) }

/-- One line scaled to `dst` pixels (R324, R325). -/
def scaleLine (set : Nat) (body : List Byte) (dst : Nat) (l : List Px) : List Px :=
  let n := l.length
  if n = dst then l
  else (List.range dst).map fun x =>
    let (i, ph) := scalePos n dst 0 x
    let at_ (k : Int) : Px := l.getD (clampPos n k) black
    filterPx (hTaps set body ph) ((List.range 8).map fun (j : Nat) => at_ (i - 3 + (j : Int)))

/-- The lines scaled to `dst` lines with `k` taps (R324, R325). -/
def scaleLines (set : Nat) (body : List Byte) (k dst : Nat) (f : Int) (p : Picture) : Picture :=
  let n := p.length
  if n = dst ∧ f = 0 then p
  else (List.range dst).map fun y =>
    let (i, ph) := scalePos n dst f y
    let at_ (j : Int) : List Px := p.getD (clampPos n j) []
    let c := vTaps set body k ph
    let ls := (List.range k).map fun (j : Nat) => at_ (i - (k / 2 : Nat) + 1 + (j : Int))
    (List.range (p.headD []).length).map fun x => filterPx c (ls.map fun l => l.getD x black)

/-- The mean of two pixels. -/
def meanPx (x y : Px) : Px :=
  { c0 := (x.c0 + y.c0 + 1) / 2, c1 := (x.c1 + y.c1 + 1) / 2, c2 := (x.c2 + y.c2 + 1) / 2, key := (x.key + y.key + 1) / 2 }

/-- The mean of two lines (R338). -/
def meanLine (a b : List Px) : List Px := List.zipWith meanPx a b

/-- Pre-decimation by 2 (R338). -/
def halveLines : Picture → Picture
  | a :: b :: r => meanLine a b :: halveLines r
  | [a] => [a]
  | [] => []

/-- Pre-decimation by 1, 2, 4 or 8. -/
def preDecimate (k : Nat) (p : Picture) : Picture :=
  if k = 8 then halveLines (halveLines (halveLines p)) else if k = 4 then halveLines (halveLines p)
  else if k = 2 then halveLines p else p

/-- What one scaler is set to: crop and destination sizes, sets with their bodies, taps and pre-decimation in force. -/
structure ScaleSet where
  cropX : Nat := 0
  cropY : Nat := 0
  cropW : Nat := 0
  cropH : Nat := 0
  dstX : Nat := 0
  dstY : Nat := 0
  dstW : Nat := 0
  dstH : Nat := 0
  hSet : Nat := 0x20
  hBody : List Byte := []
  vSet : Nat := 0x20
  vBody : List Byte := []
  taps : Nat := 4
  predec : Nat := 1
  field : Int := 0
  deriving DecidableEq, Repr

/-- The cropped source scaled to the destination size: vertically first (R325). -/
def scaleCrop (s : ScaleSet) (p : Picture) : Picture :=
  let c := ((p.drop s.cropY).take s.cropH).map fun l => (l.drop s.cropX).take s.cropW
  (scaleLines s.vSet s.vBody s.taps s.dstH s.field (preDecimate s.predec c)).map (scaleLine s.hSet s.hBody s.dstW)

/-- H_eff of a crop (R338). -/
def hEff (h k : Nat) : Nat := (h + k - 1) / k

/-- Is any axis of the scaler filtered, or a line averaged? -/
def scaleFilters (s : ScaleSet) : Bool := s.cropW != s.dstW || hEff s.cropH s.predec != s.dstH || s.predec != 1 ||
  s.field != 0

/-- The highest class among the tiles of a map that hold pixels of columns x0 to x1 and lines y0 to y1. -/
def tilesMax (map : List Nat) (w x0 x1 y0 y1 : Nat) : Nat :=
  let ta := (w + 63) / 64
  (List.range (y1 / 64 + 1 - y0 / 64)).foldl (fun a j => (List.range (x1 / 64 + 1 - x0 / 64)).foldl (fun a i =>
    max a (map.getD ((y0 / 64 + j) * ta + x0 / 64 + i) 0)) a) 0

/-- First and last source coordinate that outputs `a` to `b` read on an axis: with taps before and after when filtered. -/
def sourceSpan (n dst before after k a b : Nat) : Nat × Nat :=
  let ne := hEff n k
  let lo := if ne = dst then a else clampPos ne ((scalePos ne dst 0 a).1 - before)
  let hi := if ne = dst then b else clampPos ne ((scalePos ne dst 0 b).1 + after)
  (Nat.min (lo * k) (n - 1), Nat.min (hi * k + k - 1) (n - 1))

/-- The class of a raster tile that a scaled source fills, wholly or in part (R322, R326, R427); `outside` is the class of
what lies beyond the destination, none when nothing shows there. -/
def scaledTile (s : ScaleSet) (map : List Nat) (srcW rw rh : Nat) (outside : Option Nat) (tx ty : Nat) : Nat :=
  let x0 := 64 * tx
  let x1 := Nat.min rw (64 * tx + 64) - 1
  let y0 := 64 * ty
  let y1 := Nat.min rh (64 * ty + 64) - 1
  let dx0 := max x0 s.dstX
  let dx1 := Nat.min x1 (s.dstX + s.dstW - 1)
  let dy0 := max y0 s.dstY
  let dy1 := Nat.min y1 (s.dstY + s.dstH - 1)
  let empty := decide (dx1 < dx0) || decide (dy1 < dy0) || s.dstW == 0 || s.dstH == 0
  let beyond := empty || x0 != dx0 || x1 != dx1 || y0 != dy0 || y1 != dy1
  let inside :=
    if empty then 0
    else
      let (sx0, sx1) := sourceSpan s.cropW s.dstW 3 4 1 (dx0 - s.dstX) (dx1 - s.dstX)
      let (sy0, sy1) := sourceSpan s.cropH s.dstH (s.taps / 2 - 1) (s.taps / 2) s.predec (dy0 - s.dstY) (dy1 - s.dstY)
      let c := tilesMax map srcW (s.cropX + sx0) (s.cropX + sx1) (s.cropY + sy0) (s.cropY + sy1)
      if scaleFilters s then max 1 c else c
  if beyond then max inside (outside.getD inside) else inside

/-- A scaled picture placed on a raster, the given pixel outside the destination (R322). -/
def placeOn (s : ScaleSet) (rw rh : Nat) (fill : Px) (p : Picture) : Picture :=
  (List.range rh).map fun y => (List.range rw).map fun x =>
    if s.dstX ≤ x ∧ x < s.dstX + s.dstW ∧ s.dstY ≤ y ∧ y < s.dstY + s.dstH then
      (p.getD (y - s.dstY) []).getD (x - s.dstX) fill
    else fill

/-! ## Colour pipelines (R345 to R351) -/

/-- Kr and Kb of a standard in ten-thousandths (R348): codes of ENTRY_MATRIX. -/
def krKb : Nat → Int × Int
  | 1 => (2990, 1140)
  | 2 => (2126, 722)
  | _ => (2627, 593)

/-- One row of a matrix stage: sum of coefficient in 2^-16 times sample less pre-offset, rounded, plus post-offset, clipped. -/
def matRow (m pre : List Int) (post : Int) (top : Nat) (x : List Int) : Nat :=
  clampI 0 top (((List.zipWith (fun a b => a * b) m (List.zipWith (fun a b => a - b) x pre)).foldl (· + ·) 0 + 2 ^ 15) / 2 ^ 16 + post)

/-- Entry matrix coefficients of a standard, rows G, B, R (R348). -/
def entryCoefs (std : Nat) : List (List Int) :=
  let (kr, kb) := krKb std
  let kg := 10000 - kr - kb
  let y := roundDiv (4095 * 65536) 3504
  let cr := roundDiv (4095 * 65536 * 2 * (10000 - kr)) (3584 * 10000)
  let cb := roundDiv (4095 * 65536 * 2 * (10000 - kb)) (3584 * 10000)
  let gcb := roundDiv (-(4095 * 65536 * 2 * (10000 - kb) * kb)) (3584 * 10000 * kg.toNat)
  let gcr := roundDiv (-(4095 * 65536 * 2 * (10000 - kr) * kr)) (3584 * 10000 * kg.toNat)
  [[y, gcb, gcr], [y, cb, 0], [y, 0, cr]]

/-- Exit matrix coefficients of a standard, rows Y, Cb, Cr from G, B, R. -/
def exitCoefs (std : Nat) : List (List Int) :=
  let (kr, kb) := krKb std
  let kg := 10000 - kr - kb
  let y (k : Int) := roundDiv (3504 * 65536 * k) (4095 * 10000)
  let cb (k : Int) := roundDiv (3584 * 65536 * k) (4095 * 2 * (10000 - kb).toNat)
  let cr (k : Int) := roundDiv (3584 * 65536 * k) (4095 * 2 * (10000 - kr).toNat)
  [[y kg, y kb, y kr], [cb (-kg), cb (10000 - kb), cb (-kr)], [cr (-kg), cr (-kb), cr (10000 - kr)]]

/-- Three samples through three rows. -/
def matStage (m : List (List Int)) (pre post : List Int) (top : Nat) (x : List Nat) : List Nat :=
  (List.range 3).map fun i => matRow (m.getD i []) pre (post.getD i 0) top (x.map fun (v : Nat) => (v : Int))

/-- What a colour pipeline is loaded with. -/
structure ColourSet where
  preset : Nat := 0
  entry : Nat := 0
  inLut : List Byte := []
  matrix : List Byte := []
  outLut : List Byte := []
  exit : Nat := 0
  stages : Nat := 0
  deriving DecidableEq, Repr

/-- The content of colour pipeline `n`. -/
def colourSet (d : Dev) (n : Nat) : ColourSet := {
  preset := rd d (K.cp_PRESET n), entry := rd d (K.cp_ENTRY_MATRIX n), inLut := rdB d (K.cp_IN_LUT n)
  matrix := rdB d (K.cp_MATRIX n), outLut := rdB d (K.cp_OUT_LUT n), exit := rd d (K.cp_EXIT_MATRIX n)
  stages := rd d (K.cp_STAGE_ENABLE n) }

/-- Does the pipeline change what it processes (R351)? -/
def ColourSet.works (c : ColourSet) : Bool := c.preset != 0 || c.stages != 0

/-- A LUT entry of a component (R346). -/
def lutAt (b : List Byte) (comp n : Nat) : Nat := leAt b (2 * (4096 * comp + n)) 2

/-- One pixel through a colour pipeline (R345, R349). -/
def colourPx (c : ColourSet) (p : Px) : Px :=
  if c.preset ≠ 0 then
    let v (k : Nat) := (Config.presetValue c.preset k p.c0 p.c1 p.c2).toNat
    { c0 := v 0, c1 := v 1, c2 := v 2, key := p.key }
  else
    let on_ (i : Nat) := bitAt c.stages i
    let x := [p.c0, p.c1, p.c2]
    let x := if on_ 0 ∧ c.entry ≠ 0 then matStage (entryCoefs c.entry) [256, 2048, 2048] [0, 0, 0] 4095 x else x
    let x := x.zipIdx.map fun (v, k) => if on_ 1 then lutAt c.inLut k v else 16 * v
    let co (i : Nat) : Int := sx 32 (leAt c.matrix (4 * i) 4)
    let x := if on_ 2 then matStage [[co 0, co 1, co 2], [co 3, co 4, co 5], [co 6, co 7, co 8]] [co 9, co 10, co 11]
      [co 12, co 13, co 14] 65535 x else x
    let x := x.zipIdx.map fun (v, k) =>
      if on_ 3 then
        let n := v / 16
        let f := v - 16 * n
        (lutAt c.outLut k n * (16 - f) + lutAt c.outLut k (Nat.min (n + 1) 4095) * f + 8) / 16
      else Nat.min ((v + 8) / 16) 4095
    let x := if on_ 4 ∧ c.exit ≠ 0 then matStage (exitCoefs c.exit) [0, 0, 0] [256, 2048, 2048] 4095 x else x
    { c0 := x.getD 0 0, c1 := x.getD 1 0, c2 := x.getD 2 0, key := p.key }

/-- A picture through a colour pipeline, or unchanged. -/
def colourPic (c : Option ColourSet) (p : Picture) : Picture :=
  match c with
  | some c => if c.works then p.map fun l => l.map (colourPx c) else p
  | none => p

/-- The class of a tile after a colour pipeline (R351). -/
def colourClass (c : Option ColourSet) (k : Nat) : Nat := match c with | some c => if c.works then max 1 k else k | none => k

end Sys2Proof.Machine
end

