-- ==== Sys2Proof/Machine/Select.lean ====
section
/-! DEFINITION. Source frames (05, 07): swatches, where lines stand in a raster, selection at a seam, substitution of damaged
lines, scaler settings of outputs and layers, units that are down. -/

namespace Sys2Proof.Machine

/-! ## Units that are down (R805) -/

/-- Is chip-level recovery in progress? -/
def chipRecovering (d : Dev) : Bool := (tabFind d.flt.recov 0x200).isSome

/-- Is the block of a port down, or the chip in recovery? -/
def portDown (d : Dev) (p : Nat) : Bool := blockDown d (blockOfPort p) || chipRecovering d

/-- Is the block of a compositor down? Display compositors keep running in chip-level recovery, evidence compositors record gaps
(R805, R806; log entry 47). -/
def compDown (d : Dev) (n : Nat) : Bool := blockDown d (blockOfComp n) || (decide (64 ≤ n) && chipRecovering d)

/-! ## Swatches (R387) -/

/-- The bars of swatch 0. -/
def bars : List Px := [
  { c0 := 2884, c1 := 2048, c2 := 2048 }, { c0 := 2696, c1 := 704, c2 := 2172 }, { c0 := 2324, c1 := 2356, c2 := 704 },
  { c0 := 2136, c1 := 1012, c2 := 828 }, { c0 := 1004, c1 := 3084, c2 := 3268 }, { c0 := 816, c1 := 1740, c2 := 3392 },
  { c0 := 444, c1 := 3392, c2 := 1924 }, { c0 := 256, c1 := 2048, c2 := 2048 }]

/-- Pixel (x, y) of swatch `n` on an area `w` wide, at seam count `k` of the generator. -/
def swatchPx (n w k x y : Nat) : Px :=
  match n with
  | 0 => bars.getD (8 * x / w) black
  | 1 => { c0 := 256 + 3504 * x / (w - 1), c1 := 2048, c2 := 2048 }
  | _ =>
    let x := if n = 3 then x + 8 * (k % 16) else x
    { c0 := if (x / 64 + y / 64) % 2 = 0 then 3760 else 256, c1 := 2048, c2 := 2048 }

/-- A picture of one function of place. -/
def paint (w h : Nat) (f : Nat → Nat → Px) : Picture := (List.range h).map fun y => (List.range w).map fun x => f x y

/-! ## Where lines stand (R295) -/

/-- First active line of a raster, lines from its boundary (from the SDI standards, PRESUMED, log entry 8). -/
def firstActive : Nat → Nat
  | 1 => 20
  | 2 => 22
  | 3 => 25
  | 4 => 41
  | 5 => 41
  | 6 => 82
  | 7 => 82
  | 8 => 164
  | 9 => 164
  | _ => 0

/-- Whole lines from the frame boundary to active line `i`, in transmission order. -/
def lineAt (raster scan i : Nat) : Nat :=
  let n := rasterLines raster
  let a := firstActive raster
  if scan = 0 then a + i
  else (if i % 2 = 1 then (n + 1) / 2 else 0) + (if n = 525 ∨ n = 625 then a else a / 2) + i / 2

/-! ## Selection (R295, R297) -/

/-- A frame or field that a reader may select: its order key (twice the number, one more for field 2), its place among the
published frames, format, start and period, and whether it is still being written. -/
structure Cand where
  key : Nat := 0
  ord : Nat := 0
  fmt : Nat := 0
  startAt : Ps := 0
  period : Nat := 0
  live : Bool := false
  deriving DecidableEq, Repr

/-- What a reader expects and when it reads: active size, scan if it matters, fields, and for each output line, in lines of the output
from the seam, the source lines it reads. -/
structure Want where
  w : Nat := 0
  h : Nat := 0
  scan : Option Nat := none
  fields : Bool := false
  seam : Ps := 0
  lineOut : Ps := 0
  reads : List (Nat × Nat × Nat) := []
  deriving DecidableEq, Repr

/-- Is each frame of input `p` published as it comes, so that a reader may select it in progress (R262, R311)? -/
def publishesAll (d : Dev) (p : Nat) : Bool :=
  rd d (K.ip_INPUT_STATE p) == 5 || (rd d (K.ip_INPUT_STATE p) == 4 && rd d (K.ip_ML_POLICY p) == 1 && !(inp d p).skewed)

/-- Candidates of a store, newest first; none until a frame has been published (R276). The frame in progress is one while it has a slot
(R273). A composed frame is selected from the seam of its stamp on (R171; log entry 16). -/
def cands (d : Dev) (id : Nat) (fields : Bool) : List Cand :=
  let s := store d id
  let ofFrame (live : Bool) (ord : Nat) (f : Frame) : Cand :=
    { key := 2 * f.num, ord := ord, fmt := f.format, startAt := f.startAt, period := f.periodPs, live := live }
  let pend := match s.pending with
    | some f => [ofFrame false (s.pubs + 1) f]
    | none => []
  let prog := match s.prog with
    | some (n, t, per) =>
      if id < 0x100 ∧ s.room ∧ publishesAll d id then
        [({ key := 2 * n, ord := s.pubs + 1 + pend.length, fmt := (inp d id).struct, startAt := t, period := per
            live := true } : Cand)]
      else []
    | none => []
  let due := s.frames.filter fun f => decide (id < 0x100) || decide (0x200 ≤ id) || decide (f.stamp ≤ stcNs d + 1000)
  let l := if s.frames.isEmpty then [] else prog ++ pend ++ (due.map fun f => ofFrame false f.ord f).reverse
  if fields then l.flatMap fun c => [{ c with key := c.key + 1 }, c] else l

/-- Has a candidate the size and scan that a reader expects (R290)? -/
def matchesWant (q : Want) (c : Cand) : Bool :=
  rasterSize (fmtRaster c.fmt) == (q.w, q.h) && q.scan.all (· == fmtScan c.fmt)

/-- Does a frame match likewise? -/
def frameMatches (q : Want) (f : Frame) : Bool := matchesWant q { fmt := f.format }

/-- The instant at which active line `i` of a candidate begins. -/
def candLineAt (c : Cand) (i : Nat) : Ps :=
  c.startAt + lineAt (fmtRaster c.fmt) (fmtScan c.fmt) i * c.period / rasterLines (fmtRaster c.fmt)

/-- Is every line predicted to be written one output line period before it is needed (R295)? -/
def inTime (q : Want) (c : Cand) : Bool :=
  let r := fmtRaster c.fmt
  let n := rasterLines r
  q.reads.all fun (at_, lo, hi) => (List.range (hi + 1 - lo)).all fun j =>
    let y := if q.fields then 2 * (lo + j) + c.key % 2 else lo + j
    decide (c.startAt + (lineAt r (fmtScan c.fmt) y + 1) * c.period / n + q.lineOut ≤ q.seam + at_ * q.lineOut)

/-- The candidate a reader selects, after the one selected at the seam before; a source that publishes no frame gives only one
published since (R263, R270). -/
def pick (d : Dev) (id : Nat) (missing : Bool) (prev : Option Nat) (q : Want) : Option Cand :=
  (cands d id q.fields).find? fun c =>
    matchesWant q c && (!c.live || inTime q c) && decide (prev.getD 0 ≤ c.key) &&
      (!missing || (!c.live && prev.any fun k => decide (k < c.key)))

/-- Why nothing is selected: 1 missing, 4 empty, 5 none in time, 2 no match. -/
def pickReason (d : Dev) (id : Nat) (missing : Bool) (q : Want) : Nat :=
  if missing then 1
  else if cands d id q.fields = [] then 4
  else if (cands d id q.fields).any (matchesWant q) then 5 else 2

/-- Does input `p` publish no frame (R263): not PRESENT, nor LINK_MISSING with a last complete frame to repeat (R310) or with links in
limit to patch (R311)? -/
def inputMissing (d : Dev) (p : Nat) : Bool :=
  !(publishesAll d p ||
    (rd d (K.ip_INPUT_STATE p) == 4 && rd d (K.ip_ML_POLICY p) == 0 && (store d p).complete.isSome))

/-- A frame of a store by number, published or about to be. -/
def anyFrame (d : Dev) (id n : Nat) : Option Frame :=
  match frameOf d id n with
  | some f => some f
  | none => (store d id).pending.filter fun f => f.num == n

/-- The stamp of a candidate: a frame in progress has that of its first active pixel, measured or predicted from its start (R265, R286). -/
def candStamp (d : Dev) (id : Nat) (c : Cand) : Nat :=
  if c.live then stcAt d (candLineAt c 0) else ((anyFrame d id (c.key / 2)).map (·.stamp)).getD 0

/-! ## Damaged lines (R271) -/

/-- The most recent earlier frame of the ring in which line `y` is whole, of the same size. -/
def wholeLine (d : Dev) (id : Nat) (f : Frame) (y : Nat) : Option (List Px) :=
  (((store d id).frames.reverse.find? fun g =>
    decide (g.num < f.num) && frameSize g == frameSize f && !g.damaged.contains y).map fun g => g.pic.getD y [])

/-- The class of a row of tiles is raised to at least `c` over the tiles that hold line `y`. -/
def raiseRow (w c y : Nat) (map : List Nat) : List Nat :=
  let ta := (w + 63) / 64
  map.zipIdx.map fun (k, n) => if n / ta = y / 64 then max k c else k

/-- A frame with each damaged line, and each line of `bad` that its reader could not read, from an earlier frame, or `fill` where none has
it; `id` is its store (R271, R552). -/
def patchLines (d : Dev) (id : Nat) (fill : Nat → Nat → Px) (bad : List Nat) (f : Frame) : Frame :=
  let (w, h) := frameSize f
  let lines := (List.range h).filter fun y => f.damaged.contains y || bad.contains y
  lines.foldl (fun g y =>
    let (l, c) := match wholeLine d id f y with
      | some l => (l, 3)
      | none => ((List.range w).map fun x => fill x y, 4)
    { g with pic := setAt g.pic y l, map := raiseRow w c y g.map }) { f with damaged := [] }

/-- The fill of output `p` (R294): black, or swatch 0. -/
def routeFill (d : Dev) (p w : Nat) : Nat → Nat → Px :=
  if rd d (K.route_MISSING_POLICY p) = 2 then swatchPx 0 w 0 else fun _ _ => black

/-! ## Scaler settings (R322, R344, R386) -/

/-- The body a user of set `n` reads with: the old one until it has switched (R334). -/
def setBody (d : Dev) (n user : Nat) : List Byte :=
  match tabFind d.video.sets n with
  | some l => if l.left.any fun x => x.1 == user then l.old else rdB d (K.cs_SET_BODY n)
  | none => rdB d (K.cs_SET_BODY n)

/-- A size entry whose 0 stands for what is left. -/
def orRest (v whole off : Nat) : Nat := if v = 0 then whole - off else v

/-- The scaler of output `p` on a raster. -/
def routeScale (d : Dev) (p rw rh : Nat) : ScaleSet :=
  let sw := orRest (rd d (K.oc_SRC_W p)) rw 0
  let sh := orRest (rd d (K.oc_SRC_H p)) rh 0
  let taps := rd d (K.oc_V_TAPS_USED p)
  { cropX := rd d (K.oc_CROP_X p), cropY := rd d (K.oc_CROP_Y p)
    cropW := orRest (rd d (K.oc_CROP_W p)) sw (rd d (K.oc_CROP_X p))
    cropH := orRest (rd d (K.oc_CROP_H p)) sh (rd d (K.oc_CROP_Y p))
    dstX := rd d (K.oc_DST_X p), dstY := rd d (K.oc_DST_Y p)
    dstW := orRest (rd d (K.oc_DST_W p)) rw (rd d (K.oc_DST_X p))
    dstH := orRest (rd d (K.oc_DST_H p)) rh (rd d (K.oc_DST_Y p))
    hSet := rd d (K.oc_H_SET p), hBody := setBody d (rd d (K.oc_H_SET p)) p
    vSet := rd d (K.oc_V_SET p), vBody := setBody d (rd d (K.oc_V_SET p)) p
    taps := if taps = 0 then rd d (K.oc_V_TAPS p) else taps
    predec := max 1 (rd d (K.oc_PREDEC_USED p)) }

/-- The scaler of layer `k` (compositor × 8 + layer) on a raster. -/
def layerScale (d : Dev) (k rw rh : Nat) : ScaleSet :=
  let sw := orRest (rd d (K.ly_SRC_W k)) rw 0
  let sh := orRest (rd d (K.ly_SRC_H k)) rh 0
  let taps := rd d (K.ly_V_TAPS_USED k)
  { cropX := rd d (K.ly_CROP_X k), cropY := rd d (K.ly_CROP_Y k)
    cropW := orRest (rd d (K.ly_CROP_W k)) sw (rd d (K.ly_CROP_X k))
    cropH := orRest (rd d (K.ly_CROP_H k)) sh (rd d (K.ly_CROP_Y k))
    dstX := rd d (K.ly_DST_X k), dstY := rd d (K.ly_DST_Y k)
    dstW := orRest (rd d (K.ly_DST_W k)) rw (rd d (K.ly_DST_X k))
    dstH := orRest (rd d (K.ly_DST_H k)) rh (rd d (K.ly_DST_Y k))
    hSet := rd d (K.ly_H_SET k), hBody := setBody d (rd d (K.ly_H_SET k)) (0x100 + k)
    vSet := rd d (K.ly_V_SET k), vBody := setBody d (rd d (K.ly_V_SET k)) (0x100 + k)
    taps := if taps = 0 then rd d (K.ly_V_TAPS k) else taps
    predec := max 1 (rd d (K.ly_PREDEC_USED k)) }

/-- Output lines of a format and the source lines they read, unscaled. -/
def plainReads (raster scan h : Nat) : List (Nat × Nat × Nat) := (List.range h).map fun y => (lineAt raster scan y, y, y)

/-- Output lines of a format and the source lines that a scaler reads for them. -/
def scaledReads (raster scan : Nat) (s : ScaleSet) : List (Nat × Nat × Nat) :=
  (List.range s.dstH).map fun v =>
    let (lo, hi) := sourceSpan s.cropH s.dstH (s.taps / 2 - 1) (s.taps / 2) s.predec v v
    (lineAt raster scan (s.dstY + v), s.cropY + lo, s.cropY + hi)

/-- Has output `p` a scale stage, a colour pipeline, a converter (R286)? -/
def hasScale (d : Dev) (p : Nat) : Bool := bitAt (rd d (K.route_CHAIN p)) 0

def hasColour (d : Dev) (p : Nat) : Bool := bitAt (rd d (K.route_CHAIN p)) 1

def hasConv (d : Dev) (p : Nat) : Bool := bitAt (rd d (K.route_CHAIN p)) 2

/-- The scan that a conversion expects for an output scan (R341). -/
def convScan (conv scan : Nat) : Nat :=
  match conv with
  | 1 => 2
  | 2 => 0
  | 3 => 1
  | 4 => 0
  | _ => scan

/-- What the route of output `p` expects at seam `t` (R290, R295). -/
def routeWant (d : Dev) (p : Nat) (t : Ps) : Want :=
  let f := tgFormat d (routeTg d p)
  let (w, h) := rasterSize (fmtRaster f)
  if hasScale d p then
    let conv := rd d (K.oc_SCAN_CONV p)
    let s := routeScale d p w h
    let s := if conv = 3 then { s with cropY := s.cropY / 2, cropH := s.cropH / 2 } else s
    { w := orRest (rd d (K.oc_SRC_W p)) w 0, h := orRest (rd d (K.oc_SRC_H p)) h 0, scan := some (convScan conv (fmtScan f))
      fields := conv == 3, seam := t, lineOut := linePeriod f, reads := scaledReads (fmtRaster f) (fmtScan f) s }
  else
    { w := w, h := h, scan := some (fmtScan f), seam := t, lineOut := linePeriod f, reads := plainReads (fmtRaster f) (fmtScan f) h }

/-- Raster size of a compositor (R367). -/
def compRaster (d : Dev) (n : Nat) : Nat × Nat := rasterSize (fmtRaster (tgFormat d (compTg d n)))

/-- What layer `k` expects at seam `t` (R388): a size; interlaced sources are read as woven frames (R372). -/
def layerWant (d : Dev) (k : Nat) (t : Ps) : Want :=
  let f := tgFormat d (compTg d (k / 8))
  let (w, h) := rasterSize (fmtRaster f)
  { w := orRest (rd d (K.ly_SRC_W k)) w 0, h := orRest (rd d (K.ly_SRC_H k)) h 0, seam := t
    lineOut := linePeriod f, reads := scaledReads (fmtRaster f) (fmtScan f) (layerScale d k w h) }

/-! ## Coefficient sets in use (R334, R337) -/

/-- The scalers that use set `n`: outputs by number, layers from 0x100 on. -/
def setUsers (d : Dev) (n : Nat) : List Nat :=
  ((List.range 128).filter fun p => outputOn d p && hasScale d p &&
    (rd d (K.oc_H_SET p) == n || rd d (K.oc_V_SET p) == n)) ++
  (((List.range 576).filter fun k => on d (K.ly_L_ENABLE k) && [1, 2, 4].contains (rd d (K.ly_SRC_KIND k)) &&
    (rd d (K.ly_H_SET k) == n || rd d (K.ly_V_SET k) == n)).map (0x100 + ·))

end Sys2Proof.Machine
end

