-- ==== Sys2Proof/Machine/Frc.lean ====
section
/-! DEFINITION. Frame-rate converters and coefficient set loads (06): selection, blending, motion compensation, thermal fallback,
operation 0x0070. -/

namespace Sys2Proof.Machine

/-! ## Coefficient set load (R332 to R336) -/

def modVideo (f : Video → Video) (d : Dev) : Dev := { d with video := f d.video }

/-- An operation 0x0070 enters RUNNING: its argument, its requester, another load of the set (R332). -/
def setLoadEnter (s : Nat) (d : Dev) : Dev :=
  let n := arg d s 6
  if 31 < n then finishSlot s 4 1 d
  else if !isPcie (rd d (K.slot_OWNER s)) then finishSlot s 4 6 d
  else if (busySlots d).any fun x => x != s && rd d (K.slot_OPCODE x) == 0x70 && arg d x 6 == n then finishSlot s 4 4 d
  else d

/-- SET_USERS of every set (R337). -/
def setsRecount (d : Dev) : Dev := forAll (List.range 32) (fun n d => wr (K.cs_SET_USERS n) (setUsers d n).length d) d

/-- The load of set `n` is done once every user has switched (R334). -/
def setLoadDone (n : Nat) (d : Dev) : Dev :=
  match tabFind d.video.sets n with
  | some l =>
    if l.left = [] then
      finishSlot l.slot 3 0 (incSat 32 (K.cs_LOAD_COUNT n) (wr (K.cs_SET_STATE n) 1
        (modVideo (fun v => { v with sets := tabDel n v.sets }) d)))
    else setProgress l.slot (50 + 50 * (l.users - l.left.length) / l.users) d
  | none => d

/-- The completion point of an operation 0x0070 (R333, R334): the new body stands, each user switches at its seam. -/
def setLoadComplete (s : Nat) (body : List Byte) (d : Dev) : Dev :=
  let n := arg d s 6
  let us_ := setUsers d n
  let l : SetLoad := { old := rdB d (K.cs_SET_BODY n), slot := s, users := us_.length, left := us_.map fun u => (u, d.now) }
  let d := modVideo (fun v => { v with sets := tabSet n l v.sets }) d
  let d := wrB (K.cs_SET_BODY n) body (wr (K.cs_SET_STATE n) 2 (wr (K.cs_SET_CRC n) (leAt body 8 4) d))
  setLoadDone n (setProgress s 50 (setArg s 8 us_.length (modSlot s (fun x => { x with aux := [], pos := 1 }) d)))

/-- Loads whose NV write is covered pass their completion point (R333). `aux` of the slot holds the number of the NV write and
the body. -/
def setLoadsCovered (d : Dev) : Dev :=
  forAll (List.range 64) (fun s d =>
    match (slotRun d s).aux with
    | id :: body => if running d s 0x70 && persisted d id then setLoadComplete s (body.map (BitVec.ofNat 8)) d else d
    | [] => d) d

/-- The body of an operation 0x0070 has been read and written, or one of these failed (R333). -/
def setLoadRun (s : Nat) (host : HostRead) (nvOk : Bool) (d : Dev) : Dev :=
  if (slotRun d s).aux ≠ [] ∨ (slotRun d s).pos ≠ 0 then d
  else if (slotRun d s).abortAsked then abortSlot s d
  else match host with
    | .error => finishSlot s 4 3 d
    | .ok b =>
      if !setBodyOk b then finishSlot s 4 2 d
      else if !nvOk then finishSlot s 4 5 d
      else
        let id := d.nv.nextId
        let item := natLE 4 0 ++ natLE 1 1 ++ natLE 1 0x0B ++ natLE 4 b.length ++ b
        let d := persist (0x3000 + arg d s 6) 0 item (rd d (K.slot_OWNER s)) d
        let d := setProgress s 25 (modSlot s (fun x => { x with aux := id :: b.map (·.toNat) }) d)
        setLoadsCovered (if d.nv.volatileOnly then setLoadComplete s b d else d)

/-- The generator that a scaler's user follows: an output, or a layer from 0x100 on. -/
def userTg (d : Dev) (u : Nat) : Nat := if u < 0x100 then routeTg d u else compTg d ((u - 0x100) / 8)

/-- Users that follow generator `g` switch at a seam at least 50 us after the completion point (R334, R118). -/
def switchSets (g : Nat) (d : Dev) : Dev :=
  forAll (d.video.sets.map (·.1)) (fun n d =>
    let l := tabGet {} d.video.sets n
    let now := setUsers d n
    let left := l.left.filter fun x => now.contains x.1 && !(userTg d x.1 == g && decide (x.2 + us 50 ≤ d.now))
    if left = l.left then d
    else
      let d := modVideo (fun v => { v with sets := tabSet n { l with left := left } v.sets }) d
      setLoadDone n (onlyIf (left == []) (setArg l.slot 9 (stcNs d)) d)) d

/-! ## Sources of a converter (R353, R354) -/

def conv (d : Dev) (f : Nat) : Conv := tabGet {} d.video.conv f

def modConv (f : Nat) (g : Conv → Conv) (d : Dev) : Dev := modVideo (fun v => { v with conv := tabMod {} f g v.conv }) d

/-- The converter attached to an output, or to a layer named 0x100 + compositor × 8 + layer. -/
def convOf (d : Dev) (a : Nat) : Option Nat := (List.range 32).find? fun f => rd d (K.frc_ATTACH f) == a

/-- Kind and number of the source of an attachment. -/
def attachSource (d : Dev) (a : Nat) : Nat × Nat :=
  if a < 0x100 then (rd d (K.route_SOURCE_KIND a), rd d (K.route_SOURCE_ID a))
  else (rd d (K.ly_SRC_KIND (a - 0x100)), rd d (K.ly_SRC_ID (a - 0x100)))

/-- The generator of an attachment, and what it expects. -/
def attachTg (d : Dev) (a : Nat) : Nat := if a < 0x100 then routeTg d a else compTg d ((a - 0x100) / 8)

def attachWant (d : Dev) (a : Nat) (t : Ps) : Want := if a < 0x100 then routeWant d a t else layerWant d (a - 0x100) t

/-- The store that holds a source of kind INPUT or COMPOSITOR. -/
def sourceStore (kind id : Nat) : Option Nat := if kind = 1 then some id else if kind = 2 then some (0x100 + id) else none

/-- Does compositor `n` produce (R376, R420)? -/
def producing (d : Dev) (n : Nat) : Bool := rd d (K.cmp_COMP_STATE n) == 2 && !compDown d n

/-- Is a source down (R805), and does it deliver nothing (R263, R376)? -/
def sourceDown (d : Dev) (kind id : Nat) : Bool :=
  (kind == 1 && portDown d id) || (kind == 2 && (compDown d id || chipRecovering d))

def sourceMissing (d : Dev) (kind id : Nat) : Bool := (kind == 1 && inputMissing d id) || (kind == 2 && !producing d id)

/-- The nominal frame period of a source in ns (R360). -/
def sourcePeriodNs (d : Dev) (kind id : Nat) : Nat :=
  (if kind = 2 then tgPeriod d (compTg d id) else ratePeriod (fmtRate (rd d (K.ip_EXPECT_FORMAT id)))) / 1000

/-! ## Blending (R357) -/

/-- Two pixels weighted. -/
def blendPx (w6 : Nat) (a b : Px) : Px :=
  let m (x y : Nat) : Nat := (x * (64 - w6) + y * w6 + 32) / 64
  { c0 := m a.c0 b.c0, c1 := m a.c1 b.c1, c2 := m a.c2 b.c2, key := a.key }

def blendPic (w6 : Nat) (a b : Picture) : Picture := List.zipWith (List.zipWith (blendPx w6)) a b

/-- The weight of R357. -/
def weight6 (tau ta tb : Nat) : Nat := (128 * (tau - ta) + (tb - ta)) / (2 * (tb - ta))

/-! ## Motion compensation (R358, R359) -/

/-- Component 0 of a picture. -/
def luma (p : Picture) : List (List Nat) := p.map fun l => l.map (·.c0)

/-- A sample at a place clamped to the plane. -/
def sampleAt (p : List (List Nat)) (x y : Int) : Nat :=
  let l := p.getD (clampPos p.length y) []
  l.getD (clampPos l.length x) 0

/-- A plane at quarter resolution. -/
def quarterPlane (p : List (List Nat)) : List (List Nat) :=
  let h := p.length / 2
  let w := (p.headD []).length / 2
  (List.range h).map fun y => (List.range w).map fun x =>
    let r (j : Nat) : Nat := let l := p.getD (2 * y + j) []; l.getD (2 * x) 0 + l.getD (2 * x + 1) 0
    (r 0 + r 1 + 2) / 4

/-- Sum of absolute differences of an n × n block of `a` at (x, y) and the block at offset (vx, vy) in `b`. -/
def sad (a b : List (List Nat)) (n x y : Nat) (vx vy : Int) : Nat :=
  (List.range n).foldl (fun acc j => (List.range n).foldl (fun acc i =>
    let p := sampleAt a ((x + i : Nat) : Int) ((y + j : Nat) : Int)
    let q := sampleAt b (((x + i : Nat) : Int) + vx) (((y + j : Nat) : Int) + vy)
    acc + (p - q) + (q - p)) acc) 0

/-- Is the first candidate better: the smaller sum, then the smaller |x| + |y|, y, x? -/
def better (a b : Nat × Int × Int) : Bool :=
  if a.1 ≠ b.1 then decide (a.1 < b.1)
  else
    let na := a.2.1.natAbs + a.2.2.natAbs
    let nb := b.2.1.natAbs + b.2.2.natAbs
    if na ≠ nb then decide (na < nb) else if a.2.2 ≠ b.2.2 then decide (a.2.2 < b.2.2) else decide (a.2.1 < b.2.1)

/-- The best of some candidates. -/
def bestOf : List (Nat × Int × Int) → Nat × Int × Int
  | [] => (0, 0, 0)
  | [a] => a
  | a :: l => let b := bestOf l; if better b a then b else a

/-- The signed numbers from -n to n. -/
def around (n : Nat) : List Int := (List.range (2 * n + 1)).map fun (i : Nat) => (i : Int) - (n : Int)

/-- The search of a 16 × 16 block at quarter resolution. -/
def searchBlock (qa qb : List (List Nat)) (bx by_ : Nat) : Nat × Int × Int :=
  bestOf ((around 16).flatMap fun y => (around 24).map fun x => (sad qa qb 8 (8 * bx) (8 * by_) x y, x, y))

/-- The refinement of a block about twice its searched vector. -/
def refineBlock (a b : List (List Nat)) (bx by_ : Nat) (v : Int × Int) : Nat × Int × Int :=
  bestOf ((around 2).flatMap fun dy => (around 2).map fun dx =>
    (sad a b 16 (16 * bx) (16 * by_) (2 * v.1 + dx) (2 * v.2 + dy), 2 * v.1 + dx, 2 * v.2 + dy))

/-- The vector of a block, refined when its tile is. -/
def blockVector (a b qa qb : List (List Nat)) (limit : Nat) (refined : Bool) (bx by_ : Nat) : Int × Int :=
  let q := searchBlock qa qb bx by_
  if refined then
    let r := refineBlock a b bx by_ q.2
    if 256 * limit < r.1 then (0, 0) else r.2
  else if 256 * limit < 4 * q.1 then (0, 0) else (2 * q.2.1, 2 * q.2.2)

/-- The vectors of all blocks, lines of blocks top to bottom; `tiles` are the refined 64 × 64 tiles. -/
def motionField (limit : Nat) (tiles : List Nat) (pa pb : Picture) : List (List (Int × Int)) :=
  let a := luma pa
  let b := luma pb
  let qa := quarterPlane a
  let qb := quarterPlane b
  let w := (a.headD []).length
  let ta := (w + 63) / 64
  (List.range ((a.length + 15) / 16)).map fun by_ => (List.range ((w + 15) / 16)).map fun bx =>
    blockVector a b qa qb limit (tiles.contains (by_ / 4 * ta + bx / 4)) bx by_

/-- A pixel at a place clamped to the picture. -/
def pxAt (p : Picture) (x y : Int) : Px :=
  let l := p.getD (clampPos p.length y) []
  l.getD (clampPos l.length x) black

/-- The compensated picture (R359). -/
def motionPic (w6 limit : Nat) (tiles : List Nat) (a b : Picture) : Picture :=
  let v := motionField limit tiles a b
  a.zipIdx.map fun (l, y) => l.zipIdx.map fun (_, x) =>
    let (vx, vy) := (v.getD (y / 16) []).getD (x / 16) (0, 0)
    let back (k : Int) : Int := (k * w6 + 32) / 64
    let ahead (k : Int) : Int := (k * (64 - w6 : Nat) + 32) / 64
    blendPx w6 (pxAt a (x - back vx) (y - back vy)) (pxAt b (x + ahead vx) (y + ahead vy))

/-! ## Production at a seam (R355 to R364) -/

/-- A produced frame in the packing of the converter (R354, R268). -/
def convPack (d : Dev) (f : Nat) (x : Frame) : Frame :=
  if rd d (K.frc_FRC_PACKING f) = 1 then
    { x with
      pic := x.pic.map reduceLine
      map := if exactIn 1 (fmtSampling x.format) (fmtDepth x.format) then x.map else x.map.map (max 1) }
  else x

/-- FRC_STATE takes a value; entry to and exit from FALLBACK raise an event (R364). -/
def convState (f st : Nat) (d : Dev) : Dev :=
  let o := rd d (K.frc_FRC_STATE f)
  if (o = 4) ≠ (st = 4) then change (K.frc_FRC_STATE f) st d else wr (K.frc_FRC_STATE f) st d

/-- A frame is written to the ring and stands for the seam. One whose writing met poison or a fault is not produced (R552); neither is one
for which the ring has no slot (R273). -/
def convWrite (f : Nat) (x : Frame) (d : Dev) : Dev :=
  let c := conv d f
  let x := convPack d f { x with num := c.num + 1, startAt := d.now, damaged := [] }
  let (ok, d) := if writeFailed d (unitKey 6 f) then (false, d) else writeFrame (0x200 + f) x (takeSlot (0x200 + f) d)
  if ok then modConv f (fun c => { c with out := some x, num := c.num + 1 }) (publishFrame (0x200 + f) d)
  else modConv f (fun c => { c with out := none }) d

/-- A frame of the source is written unchanged; one already written so is SUBSTITUTED (R356, R357). -/
def convUnchanged (f : Nat) (x : Frame) (d : Dev) : Dev :=
  let again := (conv d f).wrote.contains x.num
  convWrite f (if again then { x with map := x.map.map fun _ => 3 } else x)
    (modConv f (fun c => { c with wrote := x.num :: (c.wrote.take 7).filter (· != x.num) }) d)

/-- What a converter puts for a damaged line that no frame of the ring has: its output's fill, black for a layer's (R271; log entry 91). -/
def convFill (d : Dev) (a w : Nat) : Nat → Nat → Px := if a < 0x100 then routeFill d a w else fun _ _ => black

/-- A source frame as converter `f`, attached to `a`, reads it (R271, R552). -/
def convRead (d : Dev) (f a id : Nat) (x : Frame) : Frame :=
  patchLines d id (convFill d a (frameSize x).1) (badLines d (unitKey 6 f)) x

/-- The state of a converter once it has written its frame, NO_SOURCE where it produced none (R361). -/
def convEnds (f st : Nat) (d : Dev) : Dev := convState f (if (conv d f).out.isSome then st else 3) d

/-- No frame for the seam (R361, R363). -/
def convNothing (f st : Nat) (d : Dev) : Dev := convState f st (modConv f (fun c => { c with out := none }) d)

/-- REPEAT_DROP at a seam of its attachment (R355, R356): the frame selected one seam before. A layer reads it at the seam at
which it composes (log entry 14). -/
def convRepeat (f a id : Nat) (missing : Bool) (d : Dev) : Dev :=
  let q := attachWant d a d.now
  let c := conv d f
  let next := pick d id missing c.sel q
  let d := modConv f (fun c => { c with sel := next.map (·.key), lastSel := match next with
    | some x => some x.ord
    | none => c.lastSel }) d
  let drops := match next, c.lastSel with
    | some x, some o => x.ord - o - 1
    | _, _ => 0
  let d := hold (unitKey 6 f) ((next.map fun x => (id, x.key / 2)).toList) (addSat 32 (K.frc_FRC_DROPS f) drops d)
  match c.sel.bind fun k => anyFrame d id (k / 2) with
  | none => convNothing f 3 d
  | some x =>
    let d := onlyIf (c.wrote.contains x.num) (incSat 32 (K.frc_FRC_REPEATS f)) d
    convEnds f 2 (convUnchanged f (convRead d f a id x) (wr (K.frc_LAST_WEIGHT f) 0 d))

/-- BLEND and MOTION at a seam with target time `tau`, on frames of the size and scan that the attachment expects (R290, R355, R357 to R362,
R364). -/
def convBlend (f att id tau nominal : Nat) (missing : Bool) (d : Dev) : Dev :=
  let q := attachWant d att d.now
  let l := (store d id).frames.filter (frameMatches q)
  let before := l.filter fun x => decide (x.stamp ≤ tau)
  let after := l.filter fun x => decide (tau < x.stamp)
  match before.getLast? with
  | none => convNothing f 3 d
  | some a =>
    if missing then convNothing f 3 d
    else
      let d := hold (unitKey 6 f) (((a :: after).map fun x => (id, x.num))) d
      let fallback := rd d (K.frc_FRC_MODE f) == 2 && workShed d 0
      let st := if fallback then 4 else 2
      let d := onlyIf fallback (incSat 32 (K.frc_FALLBACK_FRAMES f)) d
      let refined := (conv d f).refined
      let d := modConv f (fun c => { c with refined := [] }) d
      match after.head? with
      | none =>
        convEnds f st (convWrite f { convRead d f att id a with map := a.map.map fun _ => 3 }
          (wr (K.frc_LAST_WEIGHT f) 0 (incSat 32 (K.frc_GAP_FRAMES f) d)))
      | some b =>
        let w6 := weight6 tau a.stamp b.stamp
        let pa := convRead d f att id a
        let pb := convRead d f att id b
        let d := wr (K.frc_LAST_WEIGHT f) w6 d
        if 3 * nominal < 2 * (b.stamp - a.stamp) then
          let x := if 32 ≤ w6 then pb else pa
          convEnds f st (convWrite f { x with map := x.map.map fun _ => 3 } (incSat 32 (K.frc_GAP_FRAMES f) d))
        else if w6 = 0 then convEnds f st (convUnchanged f pa d)
        else if w6 = 64 then convEnds f st (convUnchanged f pb d)
        else
          let motion := rd d (K.frc_FRC_MODE f) == 2 && !fallback
          let d := onlyIf motion (addSat 64 K.x1830_UNREFINED_TILES (a.map.length - refined.length)) d
          let pic := if motion then motionPic w6 (rd d (K.frc_SAD_LIMIT f)) refined pa.pic pb.pic
            else blendPic w6 pa.pic pb.pic
          convEnds f st (convWrite f { pa with pic := pic, map := pa.map.map fun _ => 2, mark := pa.mark || pb.mark } d)

/-- A converter's frame for a seam of the generator of its attachment. -/
def convFrame (f : Nat) (d : Dev) : Dev :=
  let a := rd d (K.frc_ATTACH f)
  if a = 0xFFFF then convNothing f 0 d
  else
    let (kind, n) := attachSource d a
    let q := attachWant d a d.now
    let d := wr (K.frc_WORK_SIZE f) (q.w * 65536 + q.h) d
    let tns := tgPeriod d (attachTg d a) / 1000
    match sourceStore kind n with
    | none => convNothing f 3 d
    | some id =>
      let missing := sourceDown d kind n || sourceMissing d kind n
      let waiting := (conv d f).wait
      if rd d (K.frc_FRC_MODE f) = 0 then
        let d := wr (K.frc_LAST_TARGET_STC f) (stcNs d - tns) d
        if waiting ≠ 0 then
          let c := pick d id missing (conv d f).sel q
          convNothing f 1 (modConv f (fun x => { x with wait := waiting - 1, sel := c.map (·.key)
                                                        lastSel := c.map (·.ord) }) d)
        else convRepeat f a id missing d
      else
        let tau := stcNs d - 3 * tns
        let d := wr (K.frc_LAST_TARGET_STC f) tau d
        if waiting ≠ 0 then
          convNothing f 1 (hold (unitKey 6 f) (((store d id).frames.filter fun x => decide (tau ≤ x.stamp + 2 * tns)).map
            fun x => (id, x.num)) (modConv f (fun x => { x with wait := waiting - 1 }) d))
        else convBlend f a id tau (sourcePeriodNs d kind n) missing d

/-- Converter `f` at a seam: the frame, with the lines that reads failed for since the seam before; then it begins the next. -/
def convSeam (f : Nat) (d : Dev) : Dev := unitFrame (unitKey 6 f) (convFrame f d)

/-- A converter restarts when ATTACH, FRC_MODE, FRC_PACKING or its source changes (R363): its ring is discarded, allocated anew
at its working size (R354; four slots, log entry 15). -/
def convRestart (f : Nat) (d : Dev) : Dev :=
  let a := rd d (K.frc_ATTACH f)
  let q := attachWant d a d.now
  let n := if a = 0xFFFF then 0 else 4
  let d := hold (unitKey 6 f) [] (resizeStore (0x200 + f) 6 f n (n * slotPages q.w q.h (rd d (K.frc_FRC_PACKING f))) d)
  let (k, m) := attachSource d a
  let w := if rd d (K.frc_FRC_MODE f) = 0 then 1 else 3
  modConv f (fun c => { num := c.num, src := k * 65536 + m, wait := w }) d

/-- The converters attached to outputs and layers of generator `g`. -/
def convsOf (d : Dev) (g : Nat) : List Nat :=
  (List.range 32).filter fun f => rd d (K.frc_ATTACH f) != 0xFFFF && attachTg d (rd d (K.frc_ATTACH f)) == g

end Sys2Proof.Machine
end

