-- ==== Sys2Proof/Machine/Compose.lean ====
section
/-! DEFINITION. Compositors and layers (07) with their signature regions (08): selection at a seam, blending, dither, classes,
freezes and fills, regions and their actions, the schedule. -/

namespace Sys2Proof.Machine

def layerSt (d : Dev) (k : Nat) : LayerSt := tabGet {} d.video.layer k

def modLayer (k : Nat) (f : LayerSt → LayerSt) (d : Dev) : Dev := modVideo (fun v => { v with layer := tabMod {} k f v.layer }) d

def comp (d : Dev) (n : Nat) : Comp := tabGet {} d.video.comp n

def modComp (n : Nat) (f : Comp → Comp) (d : Dev) : Dev := modVideo (fun v => { v with comp := tabMod {} n f v.comp }) d

/-! ## Gangs and lent positions (R414 to R420, R317) -/

/-- The lead of compositor `n`: itself outside a gang. -/
def leadOf (d : Dev) (n : Nat) : Nat :=
  let g := rd d (K.cmp_GANG_LEAD n)
  if n < 64 ∧ g = n / 4 * 4 ∧ (List.range 4).all (fun i => rd d (K.cmp_GANG_LEAD (g + i)) == g) then g else n

/-- The members that compositor `n` leads. -/
def members (d : Dev) (n : Nat) : List Nat :=
  if n < 64 then ((List.range 4).map (n / 4 * 4 + ·)).filter fun m => leadOf d m == n else [n]

/-- Is layer position `k` lent to an output (R366, R413)? -/
def isLent (d : Dev) (k : Nat) : Bool := (List.range 128).any fun p => rd d (K.oc_LENDER_USED p) == k && hasScale d p

/-- The enabled layers of compositor `n`. -/
def enabledLayers (d : Dev) (n : Nat) : List Nat := (List.range 8).filter fun l => on d (K.ly_L_ENABLE (n * 8 + l))

/-! ## Arithmetic (R394 to R401) -/

def div1023 (n : Nat) : Nat := (2 * n + 1023) / 2046

/-- A colour word as a pixel (R375). -/
def colourWord (v : Nat) : Px := { c0 := fld v 24 12, c1 := fld v 12 12, c2 := fld v 0 12 }

/-- One layer's pixel over what lies below: colour, alpha, and the classes of the planes the pixel depends on (R397, R404). -/
def layOver (below : Px × Nat × List Nat) (top : Px × Nat × Nat) : Px × Nat × List Nat :=
  let (b, ab, cs) := below
  let (c, a, k) := top
  if a = 0 then below
  else
    let m (x y : Nat) : Nat := div1023 (a * x + (1023 - a) * y)
    ({ c0 := m c.c0 b.c0, c1 := m c.c1 b.c1, c2 := m c.c2 b.c2 }, a + div1023 ((1023 - a) * ab),
     if a = 1023 then [k] else k :: cs)

/-- The class of a pixel from the planes it depends on (R404, R426). -/
def mixedClass : List Nat → Nat
  | [c] => c
  | l => max 1 (l.foldl max 0)

/-- The dither matrix by row (R400). -/
def ditherM : List (List Nat) := [
  [0, 32, 8, 40, 2, 34, 10, 42], [48, 16, 56, 24, 50, 18, 58, 26], [12, 44, 4, 36, 14, 46, 6, 38],
  [60, 28, 52, 20, 62, 30, 54, 22]] ++ [
  [3, 35, 11, 43, 1, 33, 9, 41], [51, 19, 59, 27, 49, 17, 57, 25], [15, 47, 7, 39, 13, 45, 5, 37],
  [63, 31, 55, 23, 61, 29, 53, 21]]

/-- M at a raster place under rotation `r` (R401). -/
def ditherAt (r x y : Nat) : Nat :=
  let i := x % 8
  let j := y % 8
  let (u, w) := match r with
    | 0 => (i, j)
    | 1 => (7 - j, i)
    | 2 => (7 - i, 7 - j)
    | _ => (j, 7 - i)
  (ditherM.getD w []).getD u 0

/-- out_n of R399 for `n` bits. -/
def ditherOut (n m v : Nat) : Nat := Nat.min ((v + m * 2 ^ (12 - n) / 64) / 2 ^ (12 - n)) (2 ^ n - 1)

/-- A component after dither. -/
def ditherV (n m v : Nat) : Nat := if 12 ≤ n then v else ditherOut n m v * 2 ^ (12 - n)

/-- A pixel after dither. -/
def ditherPx (n r x y : Nat) (p : Px) : Px :=
  let m := ditherAt r x y
  { c0 := ditherV n m p.c0, c1 := ditherV n m p.c1, c2 := ditherV n m p.c2, key := p.key }

/-- Does dither leave every out_n at the floor (R405)? -/
def ditherKeeps (n r x y : Nat) (p : Px) : Bool :=
  let m := ditherAt r x y
  [p.c0, p.c1, p.c2].all fun v => decide (12 ≤ n) || ditherOut n m v == v / 2 ^ (12 - n)

/-! ## Layers -/

/-- The per-pixel alpha of a source pixel (R384, R385), kept in the key. -/
def alphaOf (src : Nat) (p : Px) : Px :=
  match src with
  | 0 => { p with key := 1023 }
  | 1 => p
  | _ => { p with key := clampI 0 1023 ((((p.key : Int) - 64) * 1023 + 438) / 876) }

/-- The pixels of a plane frame (R380). -/
def planePx (fmt : Nat) (b : List Byte) (i : Nat) : Px :=
  if fmt = 0 then
    let c (j : Nat) : Nat := (b.getD (4 * i + j) 0).toNat
    let e (v : Nat) : Nat := v * 16 + v / 16
    { c0 := e (c 1), c1 := e (c 2), c2 := e (c 0), key := c 3 * 4 + c 3 / 64 }
  else
    let v := leAt b (5 * i) 5
    let e (x : Nat) : Nat := x * 4 + x / 256
    { c0 := e (fld v 10 10), c1 := e (fld v 20 10), c2 := e (fld v 0 10), key := fld v 30 10 }

def planePic (f : PlaneFrame) : Picture :=
  (List.range f.h).map fun y => (List.range f.w).map fun x => planePx f.fmt f.data (y * f.w + x)

/-- The frame a layer job reads. -/
def jobFrame (d : Dev) (j : LayerJob) : Option Frame :=
  match j.frame with
  | some f => some f
  | none => anyFrame d j.store j.num

/-- The lines of a selected frame that a layer replaces (R408): damaged, failed in the layer's fetch, or not arrived. -/
def lostLines (d : Dev) (k : Nat) (h : Nat) : Option Frame → List Nat
  | some f => (List.range h).filter fun y => f.damaged.contains y || (badLines d (unitKey 3 k)).contains y
  | none => List.range h

/-- What one layer presents at a raster place: its colour, its effective alpha (R395), its class; none outside its destination. -/
def layerPlane (d : Dev) (n rw rh seams : Nat) (j : LayerJob) : Nat → Nat → Option (Px × Nat × Nat) :=
  let k := n * 8 + j.layer
  let s := layerScale d k rw rh
  let kind := rd d (K.ly_SRC_KIND k)
  let cp := rd d (K.ly_COLOUR_PIPE k)
  let cs := if cp = 0xFF then none else some (colourSet d cp)
  let colour (p : Px) : Px := match cs with
    | some c => if c.works then colourPx c p else p
    | none => p
  let g := rd d (K.ly_GLOBAL_ALPHA k)
  let fill := colourWord (rd d (K.ly_FILL_COLOUR k))
  let inside (x y : Nat) : Bool := decide (s.dstX ≤ x) && decide (x < s.dstX + s.dstW) && decide (s.dstY ≤ y) &&
    decide (y < s.dstY + s.dstH)
  if kind = 0 ∨ j.what = 3 then
    fun x y => if inside x y then some (colour fill, div1023 (1023 * g), 4) else none
  else if kind = 3 then
    fun x y => if inside x y then
      some (colour (swatchPx (rd d (K.ly_SRC_ID k)) s.dstW seams (x - s.dstX) (y - s.dstY)), div1023 (1023 * g), 4) else none
  else
    let w := orRest (rd d (K.ly_SRC_W k)) rw 0
    let h := orRest (rd d (K.ly_SRC_H k)) rh 0
    let f := jobFrame d j
    let lost := lostLines d k h f
    let whole := (layerSt d k).whole.map (·.2)
    let pic := (List.range h).map fun y =>
      if lost.contains y then
        (match whole with
         | some x => x.pic.getD y []
         | none => List.replicate w fill)
      else (f.map fun x => x.pic.getD y []).getD []
    let map := (f.map (·.map)).getD []
    let lostClass := if whole.isSome then 3 else 4
    let src := rd d (K.ly_ALPHA_SRC k)
    let out := scaleCrop s (pic.map fun l => l.map (alphaOf src))
    let flat := j.what == 2 || j.again
    fun x y => if inside x y then
        let px := (out.getD (y - s.dstY) []).getD (x - s.dstX) black
        let (sx0, sx1) := sourceSpan s.cropW s.dstW 3 4 1 (x - s.dstX) (x - s.dstX)
        let (sy0, sy1) := sourceSpan s.cropH s.dstH (s.taps / 2 - 1) (s.taps / 2) s.predec (y - s.dstY) (y - s.dstY)
        let c := tilesMax map w (s.cropX + sx0) (s.cropX + sx1) (s.cropY + sy0) (s.cropY + sy1)
        let c := if flat then 3 else if scaleFilters s then max 1 c else c
        let c := if lost.any fun l => decide (s.cropY + sy0 ≤ l) && decide (l ≤ s.cropY + sy1) then max c lostClass else c
        some (colour px, div1023 (px.key * g), colourClass cs c)
      else none

/-- The jobs of a composition from the bottom up (R396). -/
def stackJobs (d : Dev) (n : Nat) (l : List LayerJob) : List LayerJob :=
  (List.range 256).flatMap fun z => l.filter fun j => rd d (K.ly_Z_ORDER (n * 8 + j.layer)) == z

/-! ## Signature regions (R431 to R447) -/

/-- A region definition (R434). -/
structure RegionDef where
  x : Nat := 0
  y : Nat := 0
  w : Nat := 0
  h : Nat := 0
  mode : Nat := 0
  policy : Nat := 0
  trigger : Nat := 0
  deriving DecidableEq, Repr

/-- The definition of region `i` (from 0) of compositor `n`. -/
def regionDef (d : Dev) (n i : Nat) : RegionDef :=
  let b := rdB d (K.sr_REGION_DEF n i)
  { x := leAt b 0 2, y := leAt b 2 2, w := leAt b 4 2, h := leAt b 6 2, mode := leAt b 8 1, policy := leAt b 9 1
    trigger := leAt b 10 1 }

def RegionDef.kind (r : RegionDef) : Nat := r.mode % 4

def RegionDef.live (r : RegionDef) : Bool := bitAt r.mode 3

def RegionDef.layer (r : RegionDef) : Nat := fld r.mode 4 3

def RegionDef.action (r : RegionDef) : Nat := r.policy % 4

def RegionDef.mark (r : RegionDef) : Bool := bitAt r.policy 2

def RegionDef.latch (r : RegionDef) : Bool := bitAt r.policy 3

/-- Does a raster place lie in the region? -/
def RegionDef.has (r : RegionDef) (x y : Nat) : Bool :=
  decide (r.x ≤ x) && decide (x < r.x + r.w) && decide (r.y ≤ y) && decide (y < r.y + r.h)

/-- The bytes of one pixel for a region CRC (R431). -/
def crcPx (p : Px) : List Byte := natLE 2 p.c0 ++ natLE 2 p.c1 ++ natLE 2 p.c2

/-- The CRC of a region over pixels given by place. -/
def regionCrc (r : RegionDef) (f : Nat → Nat → Px) : Nat :=
  crc32c ((List.range r.h).flatMap fun y => (List.range r.w).flatMap fun x => crcPx (f (r.x + x) (r.y + y)))

/-- What the check of a region gives: output CRC, reference CRC, result (R438). -/
def regionCheck (d : Dev) (n i rot : Nat) (r : RegionDef) (final : Nat → Nat → Px)
    (mirror : Nat → Option ((Nat → Nat → Px) × Bool)) : Nat × Nat × Nat :=
  let crc := regionCrc r final
  if r.kind = 1 then
    let ref := leAt (rdB d (K.sr_STATIC_REF n i)) (4 * rot) 4
    (crc, ref, if crc = ref then 1 else 2)
  else match mirror r.layer with
    | none => (crc, 0, if r.live then 3 else 2)
    | some (f, live) =>
      let ref := regionCrc r f
      (crc, ref, if r.live && !live then 3 else if crc = ref then 1 else 2)

/-- The status bytes of a region (R439). -/
def statusBytes (crc ref result rot action bad : Nat) : List Byte :=
  natLE 4 crc ++ natLE 4 ref ++ natLE 1 result ++ natLE 1 rot ++ natLE 1 action ++ [0] ++ natLE 4 bad

/-- A region event (R440, R851). -/
def regionEvent (kind n i result action : Nat) (d : Dev) : Dev :=
  let b := rdB d (K.sr_REGION_STATUS n i)
  raiseX 3 (K.sr_REGION_STATUS n i) 0 (leAt b 0 8) 0xFF 0xFFFFFFFF
    (natLE 1 kind ++ natLE 1 (i + 1) ++ natLE 1 result ++ natLE 1 action ++ slice 12 4 b) none d

def regionRun (d : Dev) (n i : Nat) : RegionRun := tabGet {} (comp d n).regions i

/-- The run of results of a region and its action after one result (R441, R442). -/
def RegionRun.next (x : RegionRun) (r : RegionDef) (result : Nat) : RegionRun :=
  if result = 1 then
    let g := if x.acting && r.latch && !x.released then 0 else x.good + 1
    let over_ := x.acting && decide (2 ≤ g)
    { bad := 0, good := g, acting := x.acting && !over_, released := x.released && !over_ }
  else
    { x with bad := x.bad + 1, good := 0, acting := x.acting || (r.action != 0 && decide (r.trigger ≤ x.bad + 1)) }

/-- Region `i` after a composed frame: status, counts, events, action (R438 to R442). -/
def regionStep (n i rot : Nat) (r : RegionDef) (c : Nat × Nat × Nat) (d : Dev) : Dev :=
  let (crc, ref, result) := c
  let x := regionRun d n i
  let y := x.next r result
  let old := rdB d (K.sr_REGION_STATUS n i)
  let bad := if result = 1 then leAt old 12 4 else Nat.min (leAt old 12 4 + 1) (2 ^ 32 - 1)
  let st := if y.acting then r.action else 0
  let d := modComp n (fun z => { z with regions := tabSet i y z.regions }) d
  let d := wr (K.sr_ACTION_MAP n) (setBitAt (rd d (K.sr_ACTION_MAP n)) i y.acting)
    (wrB (K.sr_REGION_STATUS n i) (statusBytes crc ref result rot st bad) d)
  let d := onlyIf (result != 1 && x.bad == 0) (regionEvent 1 n i result r.action) d
  let d := onlyIf (!x.acting && y.acting) (regionEvent 2 n i result r.action) d
  let d := onlyIf (x.acting && !y.acting) (regionEvent 3 n i result r.action) d
  onlyIf (result == 1 && x.bad != 0) (regionEvent 4 n i result r.action) d

/-- The regions of compositor `n` that are not OFF, with their definitions. -/
def activeRegions (d : Dev) (n : Nat) : List (Nat × RegionDef) :=
  ((List.range 16).map fun i => (i, regionDef d n i)).filter fun x => x.2.kind != 0

/-- The result of a region in the latest frame. -/
def regionResult (d : Dev) (n i : Nat) : Nat := leAt (rdB d (K.sr_REGION_STATUS n i)) 8 1

/-- Every region is checked against one composed frame. -/
def regionsStep (n rot : Nat) (final : Nat → Nat → Px) (mirror : Nat → Option ((Nat → Nat → Px) × Bool)) (d : Dev) : Dev :=
  forAll (List.range 16) (fun i d =>
    let r := regionDef d n i
    if r.kind = 0 then
      (if regionResult d n i = 0 then d
       else wrB (K.sr_REGION_STATUS n i) (statusBytes 0 0 0 rot 0 (leAt (rdB d (K.sr_REGION_STATUS n i)) 12 4)) d)
    else regionStep n i rot r (regionCheck d n i rot r final mirror) d) d

/-- The pixels of a frame after the actions in force (R443 to R445), with their classes. -/
def regionsApply (d : Dev) (n : Nat) (p : List (List (Px × Nat))) : List (List (Px × Nat)) :=
  let acts := (activeRegions d n).filter fun x => (regionRun d n x.1).acting
  let black_ : Px := { c0 := 256, c1 := 2048, c2 := 2048 }
  if acts.any fun x => x.2.action == 2 then p.map fun l => l.map fun q => ({ black_ with key := q.1.key }, 4)
  else
    let ref := (comp d n).freezeRef.bind fun k => frameOf d (0x100 + n) k
    let fr := (acts.filter fun x => x.2.action == 1).map (·.2)
    if fr = [] then p
    else p.zipIdx.map fun (l, y) => l.zipIdx.map fun (q, x) =>
      if fr.any fun r => r.has x y then
        (match ref with
         | some f => ((f.pic.getD y []).getD x black_, 3)
         | none => ({ black_ with key := q.1.key }, 4))
      else q

/-- Tile classes of a frame from its pixels (R428). -/
def tilesOfPixels (w h : Nat) (p : List (List (Px × Nat))) : List Nat :=
  let (ta, td) := tilesOf w h
  (List.range (ta * td)).map fun n =>
    (((p.drop (64 * (n / ta))).take 64).flatMap fun l => ((l.drop (64 * (n % ta))).take 64).map (·.2)).foldl max 0

/-! ## Composition (R369 to R373) -/

/-- Format word of a composed frame (R371). -/
def compFormat (d : Dev) (n : Nat) : Nat :=
  let o := rd d (K.cmp_OUT_DESCRIPTOR n)
  let f := tgFormat d (compTg d n)
  mkFormat (fmtRaster f) (fmtScan f) (fmtRate f) (fld o 12 4) (if rd d (K.cmp_OUT_PACKING n) = 0 then 1 else 0)
    (fld o 4 4) (fld o 0 4)

/-- The timecodes of R371. -/
def compTimecode (d : Dev) (n : Nat) (l : List LayerJob) : Nat × Nat :=
  match (l.filter fun j => rd d (K.ly_SRC_KIND (n * 8 + j.layer)) == 1 && j.what == 1).findSome? (jobFrame d) with
  | some f => (f.ltc, f.vitc)
  | none => (0, 0)

/-- Does any layer show a frame with the MARK flag (R455)? -/
def upstreamMark (d : Dev) (j : Job) : Bool := j.layers.any fun x => ((jobFrame d x).map (·.mark)).getD false

/-- The composed frame of a job with its regions checked and its actions applied; the number is still 0. -/
def composeFrame (n : Nat) (j : Job) (d : Dev) : Frame × Dev :=
  let (w, h) := compRaster d n
  let rot := (j.seams + 2) % 4
  let bits := if n < 64 then rd d (K.cmp_PANEL_DEPTH n) else 12
  let planes := (stackJobs d n j.layers).map fun x => layerPlane d n w h j.seams x
  let bg := colourWord (rd d (K.cmp_BG_COLOUR n))
  let ba := rd d (K.cmp_BG_ALPHA n)
  let at_ (x y : Nat) : Px × Nat × List Nat :=
    planes.foldl (fun b f => match f x y with
      | some t => layOver b t
      | none => b) (bg, ba, [4])
  let raw := (List.range h).map fun y => (List.range w).map fun x =>
    let (p, a, cs) := at_ x y
    let p := { p with key := 64 + div1023 (876 * a) }
    let c := mixedClass cs
    (ditherPx bits rot x y p, if c = 0 ∧ !ditherKeeps bits rot x y p then 1 else c)
  let final (x y : Nat) : Px := (((raw.getD y []).map (·.1)).getD x black)
  let mirror (l : Nat) : Option ((Nat → Nat → Px) × Bool) :=
    (j.layers.find? fun x => x.layer == l).map fun x =>
      let f := layerPlane d n w h j.seams x
      (fun a b => ditherPx bits rot a b (((f a b).map (·.1)).getD black), x.what == 1)
  let d := regionsStep n rot final mirror d
  let mark := (activeRegions d n).any fun x => x.2.mark && regionResult d n x.1 != 1
  let px := regionsApply d n raw
  let map := tilesOfPixels w h px
  let tc := compTimecode d n j.layers
  let fr : Frame := {
    stamp := j.stamp, startAt := j.leaves, periodPs := tgPeriod d (compTg d n), format := compFormat d n
    ltc := tc.1, vitc := tc.2, map := map, mark := mark, inputs := j.layers.filterMap (·.input)
    pic := px.map fun l => l.map (·.1) }
  (fr, forAll (List.range 5) (fun c d => wr (K.sr_TILE_COUNT n c) (map.filter (· == c)).length d) d)

/-- A frame in the packing of an output store (R267, R268). -/
def packFrame (packing : Nat) (f : Frame) : Frame :=
  if packing = 1 then
    { f with
      pic := f.pic.map reduceLine
      map := f.map.map (max 1) }
  else f

/-- A count of R297 or R410 with one event in each second, the event with the count for the previous second; the answer is the
second and the counts kept. -/
def secondEvent (entry : Nat) (sec_ : Option Nat) (count : Nat) (d : Dev) : Option Nat × Nat × Dev :=
  let now := stcNs d / 1000000000
  if sec_ = some now then (sec_, count + 1, d)
  else (some now, 1, raise 2 entry 0 (if sec_.any fun s => s + 1 == now then count else 0) d)

/-- A change to the entries of layer `k` in every member of its gang (R416). -/
def layerEach (k : Nat) (f : Nat → Dev → Dev) (d : Dev) : Dev := forAll (members d (k / 8)) (fun m => f (m * 8 + k % 8)) d

/-- A layer is frozen, filled or line-substituted in a composed frame (R410). -/
def layerSubst (k : Nat) (d : Dev) : Dev :=
  let d := layerEach k (fun e => incSat 32 (K.ly_L_SUBST_FRAMES e)) d
  let x := layerSt d k
  let (s, c, d) := secondEvent (K.ly_L_SUBST_FRAMES k) x.second x.inSecond d
  modLayer k (fun x => { x with second := s, inSecond := c }) d

/-- At the end of a composition, a layer has read its frame: lines substituted are counted, a frame read whole becomes its last
complete frame (R406, R408). -/
def layerEnd (n : Nat) (j : LayerJob) (d : Dev) : Bool × Dev :=
  let k := n * 8 + j.layer
  let kind := rd d (K.ly_SRC_KIND k)
  if j.what ≠ 1 ∨ kind = 0 ∨ kind = 3 then (j.subst, d)
  else
    let (_, h) := compRaster d n
    let lost := lostLines d k (orRest (rd d (K.ly_SRC_H k)) h 0) (jobFrame d j)
    match jobFrame d j with
    | some f =>
      if lost = [] then (j.subst, modLayer k (fun x => { x with whole := some (j.store, f) }) d)
      else if j.subst then (true, d) else (true, layerSubst k d)
    | none => if j.subst then (true, d) else (true, layerSubst k d)

/-- All layers at the end of a composition: was any substituted? -/
def layersEnd (n : Nat) : List LayerJob → Dev → Bool × Dev
  | [], d => (false, d)
  | j :: l, d =>
    let (a, d) := layerEnd n j d
    let (b, d) := layersEnd n l d
    (a || b, d)

/-- The slots of its own ring that compositor `n` holds: frames on their way to the direct path, and the freeze reference. -/
def compHold (n : Nat) (d : Dev) : Dev :=
  let c := comp d n
  let nums := ([c.done, c.ready, c.out].flatMap fun f => (f.map (·.num)).toList) ++ c.freezeRef.toList
  hold (unitKey 4 n) (nums.map fun k => (0x100 + n, k)) d

/-- Does every region of compositor `n` with ACTION FREEZE_REGION match in the latest frame? -/
def freezeMatches (d : Dev) (n : Nat) : Bool :=
  (activeRegions d n).all fun x => x.2.action != 1 || regionResult d n x.1 == 1

/-- A composition of a display compositor ends: the frame is written to the output store and published (R370, R438 to R445). -/
def completeDisplay (n : Nat) (d : Dev) : Dev :=
  match (comp d n).job with
  | none => d
  | some j =>
    let ms_ := members d n
    let each (k : Nat → Nat) (d : Dev) : Dev := forAll ms_ (fun m d => incSat 32 (k m) d) d
    if j.rep then
      let again := (comp d n).lastOut.map fun f =>
        { f with map := f.map.map fun _ => 3, stamp := j.stamp, startAt := j.leaves }
      each K.cmp_SUBST_FRAMES (modComp n (fun c => { c with job := none, done := again }) d)
    else
      let (f, d) := composeFrame n j d
      let (sub, d) := layersEnd n j.layers d
      let d := onlyIf sub (each K.cmp_SUBST_FRAMES) (forAll ms_ (fun m => inc64 (K.cmp_FRAMES_COMPOSED m)) d)
      let f := { f with num := (comp d n).num }
      let (ok, d) := writeFrame (0x100 + n) (packFrame (rd d (K.cmp_OUT_PACKING n)) f) d
      let lost := writeFailed d (unitKey 4 n)
      let ok := ok && !lost
      let d := if ok then forAll ms_ (fun m => wr (K.cmp_LAST_OUT_STC m) f.stamp) (publishFrame (0x100 + n) d)
        else each K.cmp_RING_DROPS (modStore (0x100 + n) (fun s => { s with pending := none }) d)
      compHold n (modComp n (fun c => { c with
        job := none, done := some f, lastOut := some f, num := c.num + 1
        freezeRef := if ok && freezeMatches d n then some f.num else c.freezeRef }) d)

/-! ## Selection by layers (R388 to R393, R406 to R409) -/

/-- What a layer finds: its job without a source frame for FILL and SWATCH; a frame; or none with a reason. -/
inductive LayerFind where
  | plain
  | found (store num : Nat) (frame : Option Frame) (again : Bool) (stamp : Nat)
  | nothing (reason : Nat)
  deriving DecidableEq, Repr

/-- The plane ring store number of queue `q`. -/
def planeStore (q : Nat) : Nat := 0x10000 + q

/-- A layer's selection at a seam (R388 to R392). -/
def layerFind (k : Nat) (d : Dev) : LayerFind × Dev :=
  let kind := rd d (K.ly_SRC_KIND k)
  let n := rd d (K.ly_SRC_ID k)
  let x := layerSt d k
  let (rw, rh) := compRaster d (k / 8)
  if kind = 0 ∨ kind = 3 then (.plain, d)
  else if sourceDown d kind n ∨ chipRecovering d then (.nothing 7, d)
  else if kind = 4 then
    match (queue d n).plane.bind fun r => r.frames.getLast? with
    | none => (.nothing 4, d)
    | some f =>
      if (f.w, f.h) ≠ (orRest (rd d (K.ly_SRC_W k)) rw 0, orRest (rd d (K.ly_SRC_H k)) rh 0) then (.nothing 2, d)
      else if rd d (K.ly_PLANE_MODE k) = 1 ∧ x.plane.any (fun p => decide (f.num ≤ p)) then (.nothing 5, d)
      else
        (.found (planeStore n) f.num (some { num := f.num, map := flatMapOf f.w f.h 4, pic := planePic f })
          false 0, modLayer k (fun x => { x with plane := some f.num }) d)
  else if kind = 2 ∧ !producing d n then (.nothing 3, d)
  else match convOf d (0x100 + k) with
    | some c =>
      (match (conv d c).out with
       | some f => (.found (0x200 + c) f.num (some f) false f.stamp, d)
       | none => (.nothing (if sourceMissing d kind n then 1 else 6), d))
    | none =>
      let id := if kind = 1 then n else 0x100 + n
      let q := layerWant d k d.now
      let miss := kind == 1 && inputMissing d n
      match pick d id miss x.sel q with
      | none =>
        let r := pickReason d id miss q
        (.nothing (if r = 5 then 6 else r), modLayer k (fun x => { x with sel := none }) d)
      | some c =>
        let again := x.sel == some c.key
        let drops := match x.lastSel with
          | some o => c.ord - o - 1
          | none => 0
        let d := layerEach k (fun e d => addSat 32 (K.ly_L_DROPS e) drops (onlyIf again (incSat 32 (K.ly_L_REPEATS e)) d)) d
        (.found id (c.key / 2) none again (candStamp d id c),
         modLayer k (fun x => { x with sel := some c.key, lastSel := some c.ord }) d)

/-- Layer entries of all members of a gang follow the lead's (R416). -/
def layerReport (k st reason stamp : Nat) (d : Dev) : Dev :=
  layerEach k (fun e d =>
    change (K.ly_L_STATE e) st (wr (K.ly_L_MISSING_REASON e) reason (wr (K.ly_LAST_SOURCE_STC e) stamp d))) d

/-- The slots that layer `k` holds: the frame it reads and its last complete frame (R275, R406). -/
def layerHold (k : Nat) (sel : Option (Nat × Nat)) (d : Dev) : Dev :=
  hold (unitKey 3 k) (sel.toList ++ ((layerSt d k).whole.map fun w => (w.1, w.2.num)).toList) d

/-- An enabled layer at a seam of its compositor: its job and its entries (R388 to R393, R406 to R410). -/
def layerSeam (k : Nat) (d : Dev) : LayerJob × Dev :=
  let src := rd d (K.ly_SRC_KIND k) * 65536 + rd d (K.ly_SRC_ID k)
  let d := onlyIf ((layerSt d k).src != src) (modLayer k fun x => { second := x.second, inSecond := x.inSecond, src := src }) d
  let d := unitFrame (unitKey 3 k) d
  let (f, d) := layerFind k d
  match f with
  | .plain => ({ layer := k % 8, what := 1 }, layerReport k 1 0 0 d)
  | .found st num fr again stamp =>
    let d := layerReport k 1 0 stamp (modLayer k (fun x => { x with frozen := 0 }) d)
    let hurt := ((if fr.isSome then fr else anyFrame d st num).map fun f => !f.damaged.isEmpty).getD false
    ({ layer := k % 8, what := 1, store := st, num := num, frame := fr, again := again, subst := hurt
       input := if rd d (K.ly_SRC_KIND k) = 1 then some (rd d (K.ly_SRC_ID k)) else none },
     layerHold k (some (st, num)) (onlyIf hurt (layerSubst k) d))
  | .nothing r =>
    let x := layerSt d k
    let limit := rd d (K.ly_FREEZE_LIMIT k)
    let d := layerHold k none (layerSubst k d)
    match x.whole with
    | some (st, g) =>
      if rd d (K.ly_MISSING_POLICY k) = 0 ∧ (limit = 0 ∨ x.frozen < limit) then
        ({ layer := k % 8, what := 2, store := st, num := g.num, frame := some g, subst := true },
         layerReport k 2 r g.stamp (modLayer k (fun x => { x with frozen := x.frozen + 1 }) d))
      else ({ layer := k % 8, what := 3, subst := true }, layerReport k 3 r 0 d)
    | none => ({ layer := k % 8, what := 3, subst := true }, layerReport k 3 r 0 d)

/-- The enabled layers of compositor `n` at a seam; a lent position reads LENT (R413). -/
def layersSeam (n : Nat) : List Nat → Dev → List LayerJob × Dev
  | [], d => ([], d)
  | l :: r, d =>
    if isLent d (n * 8 + l) then layersSeam n r (layerReport (n * 8 + l) 4 0 0 d)
    else
      let (j, d) := layerSeam (n * 8 + l) d
      let (js, d) := layersSeam n r d
      (j :: js, d)

/-! ## The schedule (R369, R376, R760) -/

/-- What starts a compositor anew when it changes (R376). -/
def compSetup (d : Dev) (n : Nat) : List Nat :=
  [rd d (K.cmp_TG_SELECT n), rd d (K.cmp_OUT_PACKING n), rd d (K.cmp_GANG_LEAD n), tgFormat d (compTg d n)]

/-- COMP_STATE of a compositor and its gang (R420). -/
def compState (n st : Nat) (d : Dev) : Dev := forAll (members d n) (fun m => change (K.cmp_COMP_STATE m) st) d

/-- The output store ring of a display compositor: four slots (R370). -/
def compRing (n slots : Nat) (d : Dev) : Dev :=
  if 64 ≤ n then d
  else
    let (w, h) := compRaster d n
    resizeStore (0x100 + n) 4 n slots (slots * slotPages w h (rd d (K.cmp_OUT_PACKING n))) d

/-- Frames in progress are discarded (R376). -/
def compClear (n : Nat) (d : Dev) : Dev :=
  hold (unitKey 4 n) [] (modComp n (fun c => { c with
    job := none, done := none, ready := none, out := none, lastOut := none, freezeRef := none }) d)

/-- A restored compositor reads STARTING and starts anew at its next seam (R808). -/
def compRestored (n : Nat) (d : Dev) : Dev :=
  if rd d (K.cmp_COMP_STATE n) = 3 then compState n 1 (modComp n (fun c => { c with starting := some 9 }) d) else d

/-- Layer entries of a compositor that composes no layer. -/
def layersIdle (n : Nat) (d : Dev) : Dev :=
  forAll (List.range 8) (fun l d =>
    let k := n * 8 + l
    if isLent d k then change (K.ly_L_STATE k) 4 d
    else if on d (K.ly_L_ENABLE k) then d
    else hold (unitKey 3 k) [] (modLayer k (fun _ => {}) (change (K.ly_L_STATE k) 0 (wr (K.ly_L_MISSING_REASON k) 0 d)))) d

/-- Does compositor `n` take no part at all: a member of a gang led by another? -/
def isFollower (d : Dev) (n : Nat) : Bool := leadOf d n != n

/-- A compositor at a seam of its generator, after the seam's changes: it starts anew, halts, idles, or moves its frames one
seam on (R369, R376, R805, R808); the answer says whether it composes at this seam. -/
def compAdvance (n : Nat) (d : Dev) : Bool × Dev :=
  let en := enabledLayers d n != []
  let st := rd d (K.cmp_COMP_STATE n)
  let setup := compSetup d n
  let d := layersIdle n d
  if !en then
    if st = 0 then (false, d)
    else (false, compRing n 0 (compState n 0 (compClear n (modComp n (fun c => { c with setup := [], starting := none }) d))))
  else if compDown d n then
    (false, compState n 3 (compClear n (modComp n (fun c => { c with starting := none }) d)))
  else if st = 0 ∨ st = 3 ∨ (comp d n).setup ≠ setup ∨ (comp d n).starting = some 9 then
    let d := onlyIf ((comp d n).setup != setup) (compRing n 4) (compClear n d)
    (true, compState n 1 (modComp n (fun c => { c with setup := setup, starting := some 0 }) d))
  else
    let d := modComp n (fun c => { c with
      out := c.ready, ready := c.done, done := none
      starting := match c.starting with
        | some 0 => some 1
        | _ => none }) d
    let d := onlyIf (64 ≤ n && (comp d n).out.isSome) (wr (K.cmp_LAST_OUT_STC n) (((comp d n).out.map (·.stamp)).getD 0)) d
    (true, onlyIf ((comp d n).starting == none && st == 1) (compState n 2) d)

/-- The composition of a seam begins (R369): the stamp is the STC two frames later; at an odd seam under step 4 a display
compositor repeats (R760). -/
def compBegin (n : Nat) (d : Dev) : Dev :=
  let g := compTg d n
  let per := tgPeriodNow d g
  let seams := rd d (K.tg_SEAM_COUNT g)
  let base : Job := { seam := stcNs d, stamp := stcNs d + 2 * per / 1000, leaves := d.now + 2 * per, seams := seams }
  let d := unitFrame (unitKey (if n < 64 then 4 else 5) n) d
  if n < 64 ∧ rd d K.x1602_SHED_STEP = 4 ∧ seams % 2 = 1 then
    modComp n (fun c => { c with job := some { base with rep := true } }) d
  else
    let (l, d) := layersSeam n (enabledLayers d n) d
    onlyIf (n < 64) (takeSlot (0x100 + n)) (modComp n (fun c => { c with job := some { base with layers := l } }) d)

/-- A latched action released. -/
def RegionRun.release (x : RegionRun) : RegionRun := if x.acting then { x with released := true, good := 0 } else x

/-- RELEASE of latched actions (R442). -/
def regionRelease (n mask : Nat) (d : Dev) : Dev :=
  modComp n (fun c => { c with regions := c.regions.map fun p => (p.1, if bitAt mask p.1 then p.2.release else p.2) }) d

/-- A region whose definition a commit changed: its action ends, its count restarts (R447). -/
def regionRedefined (n i : Nat) (d : Dev) : Dev :=
  let r := regionDef d n i
  let was := (regionRun d n i).acting
  let d := wr (K.sr_ACTION_MAP n) (setBitAt (rd d (K.sr_ACTION_MAP n)) i false)
    (modComp n (fun c => { c with regions := tabDel i c.regions }) d)
  onlyIf was (regionEvent 3 n i (regionResult d n i) r.action) d

end Sys2Proof.Machine
end

