-- ==== Sys2Proof/Machine/Audio.lean ====
section
/-! DEFINITION. Audio (09): the audio clock, crosspoint samples, crossfades, embedded inputs and outputs, AES3 receivers and
transmitters, capture and playback streams, evidence taps. -/

namespace Sys2Proof.Machine

/-! ## Instants (R484; nominal rate, log entry 17) -/

/-- Instants per second of a plane. -/
def planeRate (plane : Nat) : Nat := if plane = 1 then 96000 else 48000

/-- Samples in 1 ms of a plane: the length of a crossfade (R489). -/
def fadeLen (plane : Nat) : Nat := if plane = 1 then 96 else 48

/-- The instant nearest to an STC time. -/
def instNear (plane stc : Nat) : Nat := (stc * planeRate plane + 500000000) / 1000000000

/-- The first instant at or after an STC time. -/
def instFrom (plane stc : Nat) : Nat := (stc * planeRate plane + 999999999) / 1000000000

/-- The STC time of an instant in whole ns. -/
def instStc (plane k : Nat) : Nat := k * 1000000000 / planeRate plane

/-- D_MIN, 4 ms, in instants (R488). -/
def dMin (plane : Nat) : Nat := 4 * fadeLen plane

/-! ## Crossfades (R489, R490) -/

/-- Step `n` of a crossfade of `len` samples between two streams. -/
def xfade (len n : Nat) (a b : Smp) : Smp :=
  if n < len then
    { b with v := Int.tdiv (a.v * ((len - n : Nat) : Int) + b.v * (n : Int)) (len : Int), ok := a.ok && (n == 0 || b.ok) }
  else b

/-- The zero stream: valid. -/
def zeroSmp : Smp := { v := 0, ok := true }

/-- What NONE delivers: zeros, invalid. -/
def noSmp : Smp := { v := 0, ok := false }

/-! ## Sources (R486) -/

def modAud (f : Audio → Audio) (d : Dev) : Dev := { d with aud := f d.aud }

def aunit (d : Dev) (u : Nat) : AudioUnit := tabGet {} d.aud.unit u

def modUnit (u : Nat) (f : AudioUnit → AudioUnit) (d : Dev) : Dev := modAud (fun a => { a with unit := tabMod {} u f a.unit }) d

/-- The first quarter of TONE in the 96 kHz plane, and its end. -/
def toneQuarter : List Int := [
  0, 54864, 109493, 163654, 217113, 269643, 321018, 371019, 419431, 466046, 510666, 553099] ++ [
  593164, 630689, 665513, 697487, 726475, 752352, 775007, 794343, 810278, 822743, 831684, 837065, 838861]

/-- Sample `k` of TONE. -/
def toneAt (plane k : Nat) : Int :=
  let i := if plane = 1 then k % 96 else 2 * (k % 48)
  let q (j : Nat) : Int := toneQuarter.getD j 0
  if i ≤ 24 then q i else if i ≤ 48 then q (48 - i) else if i ≤ 72 then - q (i - 48) else - q (96 - i)

/-- The plane of a source code; none when it suits either. -/
def sourcePlane (d : Dev) (code : Nat) : Option Nat :=
  if code < 0x1000 then some 0
  else if code < 0x1020 then some (rd d (K.ar_PLANE ((code - 0x1000) / 2)))
  else if 0x1400 ≤ code ∧ code < 0x1800 then some (rd d (K.pb_PLANE ((code - 0x1400) / 32)))
  else none

/-- The sample of a source at an instant of a plane; a channel that its playback stream does not have delivers NONE (R535). -/
def readSrc (d : Dev) (code plane k : Nat) : Smp :=
  if code = 0x1F00 then zeroSmp
  else if code = 0x1F01 then { v := toneAt plane k, ok := true }
  else if 0x1400 ≤ code ∧ code < 0x1800 ∧ rd d (K.pb_CHANNELS ((code - 0x1400) / 32)) ≤ (code - 0x1400) % 32 then noSmp
  else ((tabGet [] d.aud.feed code).find? fun s => s.k == k).getD noSmp

/-- A sample is placed by its instant, newest first. -/
def insertSmp (s : Smp) : List Smp → List Smp
  | [] => [s]
  | a :: r => if a.k < s.k then s :: a :: r else if a.k = s.k then s :: r else a :: insertSmp s r

/-- The samples that some destination may still read: 1.2 s of them. -/
def keepSmp (l : List Smp) : List Smp :=
  let n := ((l.head?).map (·.k)).getD 0
  l.filter fun s => decide (n ≤ s.k + 115200)

def pushSmp (code : Nat) (s : Smp) (d : Dev) : Dev :=
  modAud (fun a => { a with feed := tabMod [] code (fun l => keepSmp (insertSmp s l)) a.feed }) d

/-- The latest instant that a source has delivered. -/
def lastInst (d : Dev) (code : Nat) : Option Nat := ((tabGet [] d.aud.feed code).head?).map (·.k)

/-- The last 1 ms that a source delivered is ramped to zero (R488, R494, R497, R515, R532). -/
def rampEnd (code plane : Nat) (d : Dev) : Dev :=
  let n := fadeLen plane
  let f (l : List Smp) : List Smp :=
    match l with
    | [] => []
    | a :: _ => l.map fun s => if a.k < s.k + n then xfade n (s.k + n - 1 - a.k) s { zeroSmp with k := s.k } else s
  modAud (fun x => { x with feed := tabMod [] code f x.feed }) d

/-- A sample as a source's own events shape it: a crossfade between bypass and conversion (R493), a ramp from zero (R489). -/
def shape (x : AudioUnit) (plane : Nat) (bypass converted : Smp) : Smp :=
  let n := fadeLen plane
  let s := match x.cross with
    | some (k0, leaving) =>
      if leaving then xfade n (bypass.k - k0) converted bypass else xfade n (bypass.k - k0) bypass converted
    | none => if x.conv then converted else bypass
  match x.fade with
  | some k0 => if k0 ≤ s.k then xfade n (s.k - k0) { zeroSmp with k := s.k } s else { noSmp with k := s.k }
  | none => s

/-- A received sample enters the crosspoint: unchanged in BYPASS, resampled in CONVERTING, where every instant up to `k` gets a
value (R493; the conversion's value is free, log entry 18), not at all while muted (R494). -/
def deliver1 (u code plane k : Nat) (v : Int) (ok : Bool) (d : Dev) : Dev :=
  let x := aunit d u
  let last := lastInst d code
  if x.muted then d
  else if x.conv then
    let from_ := match last with
      | some l => if l < k ∧ k ≤ l + 4 * fadeLen plane then l + 1 else k
      | none => k
    forAll (List.range (k + 1 - from_)) (fun i d =>
      let s : Smp := { k := from_ + i, v := v, ok := ok }
      let c : Smp := { s with v := sx 24 (Config.srcSample code plane d.free).toNat }
      pushSmp code (shape x plane s c) { d with free := d.free + 1 }) d
  else
    let s : Smp := { k := k, v := v, ok := ok }
    let c : Smp := { s with v := sx 24 (Config.srcSample code plane d.free).toNat }
    pushSmp code (shape x plane s c) { d with free := d.free + 1 }

/-! ## The audio clock (R481, R482) -/

/-- The frequency of the audio clock against the root in ppb. -/
def audioPpb (d : Dev) : Int :=
  let a := d.aud
  let m : Int := ((d.now - a.slewAt) * 1000 / 1000000000000 : Nat)
  if a.ppbFrom ≤ a.ppbTo then min (a.ppbFrom + m) a.ppbTo else max (a.ppbFrom - m) a.ppbTo

/-- [3400:07] as it reads. -/
def audioSlewPpb (d : Dev) : Nat := tc 32 (audioPpb d - d.aud.ppbTo)

/-- The frequency to follow: that of the generator named, or of the root clock. -/
def audioTarget (d : Dev) : Int := let g := rd d K.x3400_AUDIO_TG; if g < 8 then (tg d g).freqPpb else 0

/-- The clock has reached the frequency it follows. -/
def audioSettled (d : Dev) : Dev := wr K.x3400_AUDIO_CLOCK_STATE (if rd d K.x3400_AUDIO_TG < 8 then 1 else 0) d

/-- The audio clock follows its generator: a new frequency is reached at 1 ppm per second, without a phase step. -/
def audioFollow (d : Dev) : Dev :=
  let to_ := audioTarget d
  if to_ = d.aud.ppbTo then (if rd d K.x3400_AUDIO_CLOCK_STATE = 2 then d else audioSettled d)
  else
    let now := audioPpb d
    let d := modAud (fun a => { a with ppbFrom := now, ppbTo := to_, slewAt := d.now }) d
    if now = to_ then audioSettled d else wr K.x3400_AUDIO_CLOCK_STATE 2 d

/-- A slew of the audio clock ends (R482). -/
def audioSlewEnd (d : Dev) : Dev :=
  if rd d K.x3400_AUDIO_CLOCK_STATE = 2 ∧ audioPpb d = d.aud.ppbTo then audioSettled d else d

/-! ## Sample-rate converters (R492) -/

/-- Is the rate of transmitter `a` another than its plane rate? -/
def atConverts (d : Dev) (a : Nat) : Bool := rd d (K.at_AT_RATE a) != planeRate (rd d (K.at_PLANE a))

/-- Converters reserved in slice `s`: by embedded inputs of 32 ports, four receivers, four transmitters. -/
def srcReserved (d : Dev) (s : Nat) : Nat :=
  (List.range 32).foldl (fun n i => n + popCount (rd d (K.ea_SRC_MASK (32 * s + i))) 4) 0 +
    ((List.range 4).filter fun i => on d (K.ar_SRC_RESERVE (4 * s + i))).length +
    ((List.range 4).filter fun i => atConverts d (4 * s + i)).length

/-- [3400:03] to [3400:06]. -/
def srcRecount (d : Dev) : Dev := forAll (List.range 4) (fun s d => wr (K.x3400_SRC_RESERVED s) (srcReserved d s) d) d

/-! ## Embedded inputs (R495 to R500) -/

/-- Unit of group `g` (from 0) of port `p`, and the code of its first channel. -/
def groupUnit (p g : Nat) : Nat := p * 8 + g

def groupCode (p g : Nat) : Nat := p * 32 + 4 * g

/-- The unit that delivers a source code. -/
def unitOfCode (code : Nat) : Nat :=
  if code < 0x1000 then code / 4 else if code < 0x1020 then 0x1000 + (code - 0x1000) / 2 else 0x2000 + (code - 0x1400) / 32

/-- Has group `g` of port `p` a converter? -/
def groupReserved (d : Dev) (p g : Nat) : Bool := bitAt (rd d (K.ea_SRC_MASK p)) (g / 2)

/-- Groups that the link of port `p` carries (R495); at level B only groups 1 to 4 have packets. -/
def carriesGroup (d : Dev) (p g : Nat) : Bool :=
  if (tieOf d p).isSome then true
  else match rd d (K.rx_RX_RATE p) % 16 with
    | 1 => false
    | 2 => decide (g < 4)
    | _ => true

/-- Does port `p` stand for an assembly led by another port? -/
def isMember (d : Dev) (p : Nat) : Bool :=
  match rxAssembly d p with
  | some ms => ms.headD p != p
  | none => false

/-- GROUPS_PRESENT, SRC_STATE and SYNC of port `p`. -/
def embedReport (p : Nat) (d : Dev) : Dev :=
  let gs := (List.range 8).filter fun g => (aunit d (groupUnit p g)).present
  let pair (b : Nat) : Nat :=
    let us_ := (gs.filter fun g => g / 2 == b).map fun g => aunit d (groupUnit p g)
    if bitAt (rd d (K.ea_SRC_MASK p)) b then (if us_.any (·.conv) then 2 else 1) else if us_.any (·.muted) then 3 else 0
  let async := gs.any fun g => (aunit d (groupUnit p g)).conv || (aunit d (groupUnit p g)).muted
  wr (K.ea_GROUPS_PRESENT p) (gs.foldl (fun a g => a + 2 ^ g) 0)
    (wr (K.ea_SRC_STATE p) (pair 0 + 4 * pair 1 + 16 * pair 2 + 64 * pair 3)
      (wr (K.ea_SYNC p) (if gs = [] then 2 else if async then 1 else 0) d))

/-- A group is lost (R497): its last 1 ms is ramped to zero, from then on zeros marked invalid. -/
def groupLost (p g : Nat) (d : Dev) : Dev :=
  let u := groupUnit p g
  if !(aunit d u).present then modUnit u (fun x => { x with run := 0, seen := false }) d
  else
    let d := onlyIf (!(aunit d u).muted) (forAll (List.range 4) fun c => rampEnd (groupCode p g + c) 0) d
    embedReport p (incSat 32 (K.ea_GROUP_LOSSES p)
      (modUnit u (fun x => { x with present := false, run := 0, seen := false, fade := none, cross := none }) d))

/-- Is the signal that carries the audio of port `p` there: its first link LOCKED, or its bundle UP (R497)? -/
def audioSignal (d : Dev) (p : Nat) : Bool :=
  match tieOf d p with
  | some _ => signalPresent d p
  | none => rd d (K.rx_RX_STATE p) == 3

/-- The signal of a port is lost: all its groups are. -/
def audioSignalLost (p : Nat) (d : Dev) : Dev := forAll (List.range 8) (groupLost p) d

/-- A packet of a group (R496, R498): four samples of one instant; under an ECC error the previous samples, counted. -/
def embedPacket (p : Nat) (x : AudioPacket) (d : Dev) : Dev :=
  let g := x.group.val
  if !x.locked48 ∨ !audioSignal d p ∨ isMember d p ∨ !carriesGroup d p g then d
  else
    let u := groupUnit p g
    let d := modUnit u (fun y => { y with lastAt := d.now, seen := true }) d
    if !(aunit d u).present then d
    else
      let k := instNear 0 x.sampleTime
      let d := onlyIf (!x.eccOk) (addSat 32 (K.ea_ECC_ERRORS p) 4) d
      forAll (List.range 4) (fun c d =>
        let code := groupCode p g + c
        let prev := ((tabGet [] d.aud.feed code).head?).getD noSmp
        if x.eccOk then deliver1 u code 0 k (x.samples.getD c 0) (!(x.invalid.getD c false)) d
        else deliver1 u code 0 k prev.v prev.ok d) d

/-- A frame boundary of port `p` for its audio (R497, R499, R500): groups that return, CH_VALID, the block of the frame. -/
def audioFrame (p stamp periodPs : Nat) (d : Dev) : Dev :=
  if isMember d p then d
  else
    let d := forAll (List.range 8) (fun g d =>
      let u := groupUnit p g
      let x := aunit d u
      let run := if x.seen then x.run + 1 else 0
      let back := !x.present && decide (2 ≤ run)
      modUnit u (fun x => { x with
        seen := false, run := run, present := x.present || back
        fade := if back then some (instFrom 0 (stcNs d)) else x.fade }) d) d
    let k0 := instFrom 0 stamp
    let k1 := instFrom 0 (stamp + periodPs / 1000)
    let valid (c : Nat) : Bool :=
      (aunit d (groupUnit p (c / 4))).present &&
        (let l := (tabGet [] d.aud.feed (p * 32 + c)).filter fun s => decide (k0 ≤ s.k) && decide (s.k < k1)
         l != [] && l.all (·.ok))
    let d := wr (K.ea_CH_VALID p) ((List.range 32).foldl (fun a c => if valid c then a + 2 ^ c else a) 0) d
    let d := embedReport p d
    if rd d (K.ea_GROUPS_PRESENT p) = 0 then d
    else wr (K.ea_LAST_BLOCK_STC p) (instStc 0 k0) (wr (K.ea_BLOCK_SAMPLES p) (k1 - k0) d)

/-! ## Loss and return of synchronism (R493, R494) -/

/-- The codes that a unit delivers and its plane. -/
def unitCodes (d : Dev) (u : Nat) : List Nat × Nat :=
  if u < 0x1000 then ((List.range 4).map (4 * u + ·), 0)
  else if u < 0x2000 then ([0x1000 + 2 * (u - 0x1000), 0x1001 + 2 * (u - 0x1000)], rd d (K.ar_PLANE (u - 0x1000)))
  else ((List.range 32).map (0x1400 + 32 * (u - 0x2000) + ·), rd d (K.pb_PLANE (u - 0x2000)))

/-- The units that share the clock of a code: all groups of a port, one receiver. A playback stream is synchronous always. -/
def clockUnits (code : Nat) : List Nat :=
  if code < 0x1000 then (List.range 8).map (groupUnit (code / 32)) else if code < 0x1020 then [unitOfCode code] else []

/-- Has a unit a converter? -/
def unitReserved (d : Dev) (u : Nat) : Bool :=
  if u < 0x1000 then groupReserved d (u / 8) (u % 8) else if u < 0x2000 then on d (K.ar_SRC_RESERVE (u - 0x1000)) else false

/-- Does a unit deliver or wait muted? -/
def unitThere (d : Dev) (u : Nat) : Bool :=
  if u < 0x1000 then (aunit d u).present
  else if u < 0x2000 then rd d (K.ar_AR_STATE (u - 0x1000)) == 3 || rd d (K.ar_AR_STATE (u - 0x1000)) == 4 else false

/-- The instant at which an event of now begins to act on the samples of a plane. -/
def nowInst (d : Dev) (plane : Nat) : Nat := instFrom plane (stcNs d)

/-- The entries of a unit after such a change. -/
def unitReport (u : Nat) (d : Dev) : Dev :=
  if u < 0x1000 then embedReport (u / 8) d
  else
    let a := u - 0x1000
    let x := aunit d u
    wr (K.ar_SRC_STATE a) (if !on d (K.ar_SRC_RESERVE a) || x.muted then 0 else if x.conv then 2 else 1)
      (wr (K.ar_AR_STATE a) (if x.muted then 4 else 3) d)

/-- A unit becomes asynchronous: its converter converts, or it is muted. -/
def unitAsync (u : Nat) (d : Dev) : Dev :=
  let x := aunit d u
  if !unitThere d u then d
  else
    let (codes, plane) := unitCodes d u
    let d := modUnit u (fun x => { x with asyncAt := d.now }) d
    if unitReserved d u then
      (if x.conv then d
       else unitReport u (modUnit u (fun x => { x with conv := true, cross := some (nowInst d plane, false) }) d))
    else if x.muted then d
    else unitReport u (modUnit u (fun x => { x with muted := true, fade := none })
      (forAll codes (fun c => rampEnd c plane) d))

/-- Does a unit run at its plane rate? -/
def atPlaneRate (d : Dev) (u : Nat) : Bool :=
  u < 0x1000 || rd d (K.ar_RATE_HZ (u - 0x1000)) == planeRate (rd d (K.ar_PLANE (u - 0x1000)))

/-- A converting unit has been synchronous at its plane rate for 1 s: BYPASS. -/
def unitBypass (u : Nat) (d : Dev) : Dev :=
  let x := aunit d u
  if unitThere d u ∧ x.conv ∧ atPlaneRate d u ∧ x.asyncAt + sec 1 ≤ d.now then
    unitReport u (modUnit u (fun x => { x with conv := false, cross := some (nowInst d (unitCodes d u).2, true) }) d)
  else d

/-- A muted unit has been synchronous at its plane rate for 1 s: it returns with a ramp from zero. -/
def unitReturns (u : Nat) (d : Dev) : Dev :=
  let x := aunit d u
  if unitThere d u ∧ x.muted ∧ atPlaneRate d u ∧ x.asyncAt + sec 1 ≤ d.now then
    unitReport u (modUnit u (fun x => { x with muted := false, fade := some (nowInst d (unitCodes d u).2) }) d)
  else d

/-- Converters reserved or given up for the channels of port `p` (R492 to R494): a converting group without one is muted, a muted group
with one converts, from a ramp. -/
def embedReserve (p : Nat) (d : Dev) : Dev :=
  embedReport p (forAll (List.range 8) (fun g d =>
    let u := groupUnit p g
    let x := aunit d u
    let has := groupReserved d p g
    if !x.present then modUnit u (fun x => { x with conv := x.conv && has, muted := x.muted && !has }) d
    else if x.conv ∧ !has then
      modUnit u (fun x => { x with conv := false, muted := true, fade := none, cross := none })
        (forAll (List.range 4) (fun c => rampEnd (groupCode p g + c) 0) d)
    else if x.muted ∧ has then
      modUnit u (fun x => { x with muted := false, conv := true, fade := some (nowInst d 0), cross := none }) d
    else d) d)

/-! ## Channel status (R503, R513, R517, R519; the bits of AES3 and IEC 60958-3, PRESUMED, log entry 19) -/

/-- One bit of the CRCC of AES3, polynomial x^8 + x^4 + x^3 + x^2 + 1, low bit first. -/
def crccBit (c : Nat) (b : Bool) : Nat :=
  let x := (c + (if b then 1 else 0)) % 2
  if x = 1 then Nat.xor (c / 2) 0xB8 else c / 2

/-- The CRCC of the first 23 bytes of a block. -/
def crcc (l : List Byte) : Nat :=
  ((l.take 23).flatMap fun b => (List.range 8).map fun i => bitAt b.toNat i).foldl crccBit 0xFF

/-- A block with its CRCC in byte 23. -/
def withCrcc (l : List Byte) : List Byte := l.take 23 ++ [BitVec.ofNat 8 (crcc l)]

/-- A byte with some of its bits replaced. -/
def maskByte (l : List Byte) (i m v : Nat) : List Byte :=
  let old := (l.getD i 0).toNat
  setAt l i (BitVec.ofNat 8 (Nat.land old (255 - m) + v))

/-- The professional block of a rate over a template: professional, audio, sampling frequency, 24 bits, CRCC. -/
def csPro (rate : Nat) (t : List Byte) : List Byte :=
  let t := padTo 24 t
  let f0 := if rate = 48000 then 0x80 else if rate = 44100 then 0x40 else if rate = 32000 then 0xC0 else 0
  let f4 := if rate = 96000 then 2 else if rate = 192000 then 3 else if rate = 88200 then 10 else if rate = 176400 then 11 else 0
  withCrcc (maskByte (maskByte (maskByte t 0 0xC3 (f0 + 1)) 2 0x38 0x28) 4 0x78 (f4 * 8))

/-- The consumer block of a rate over a template. -/
def csConsumer (rate : Nat) (t : List Byte) : List Byte :=
  let t := padTo 24 t
  let f := if rate = 44100 then 0 else if rate = 48000 then 2 else if rate = 32000 then 3 else if rate = 88200 then 8
    else if rate = 96000 then 10 else if rate = 176400 then 12 else 14
  maskByte (maskByte (maskByte t 0 0x03 0) 3 0x0F f) 4 0x0F 0x0B

/-- The channel status block sent under CS_MODE. -/
def csBlock (mode rate : Nat) (t : List Byte) : List Byte :=
  if mode = 0 then csPro rate t
  else if mode = 1 then csConsumer rate t
  else if bitAt ((padTo 24 t).getD 0 0).toNat 0 then withCrcc (padTo 24 t) else padTo 24 t

/-- The bytes of 192 bits, first bit in bit 0 of byte 0. -/
def bitBytes : Nat → List Bool → List Byte
  | 0, _ => []
  | n + 1, l => BitVec.ofNat 8 (((l.take 8).zipIdx).foldl (fun a (b, i) => if b then a + 2 ^ i else a) 0) :: bitBytes n (l.drop 8)

/-! ## AES3 receivers (R510 to R517) -/

def aesRx (d : Dev) (a : Nat) : AesRx := tabGet {} d.aud.rx a

def modAesRx (a : Nat) (f : AesRx → AesRx) (d : Dev) : Dev := modAud (fun x => { x with rx := tabMod {} a f x.rx }) d

/-- The nominal rates of R510. -/
def aesRates : List Nat := [32000, 44100, 48000, 88200, 96000, 176400, 192000]

/-- A complete channel status block is reported. -/
def aesBlock (a : Nat) (d : Dev) : Dev :=
  let x := aesRx d a
  let c1 := bitBytes 24 x.c1.reverse
  let c2 := bitBytes 24 x.c2.reverse
  let pro (l : List Byte) : Bool := bitAt (l.getD 0 0).toNat 0
  let bad (l : List Byte) : Bool := pro l && (l.getD 23 0).toNat != crcc l
  let b (c : Bool) (v : Nat) : Nat := if c then v else 0
  wrB (K.ar_CS_1 a) c1 (wrB (K.ar_CS_2 a) c2 (wrB (K.ar_USER_1 a) (bitBytes 24 x.u1.reverse)
    (wrB (K.ar_USER_2 a) (bitBytes 24 x.u2.reverse)
      (wr (K.ar_CS_FORMAT a) (b (pro c1) 1 + b (pro c2) 2 + b (bad c1) 4 + b (bad c2) 8)
        (wr (K.ar_LAST_BLOCK_STC a) x.blockAt d)))))

/-- The C and U bits of a frame join the running block; a block that began with preamble Z is reported at its 192nd frame. -/
def aesStatus (a : Nat) (f : AesFrame) (d : Dev) : Dev :=
  let start := f.good && f.blockStart
  let d := onlyIf start (modAesRx a fun x => { x with c1 := [], c2 := [], u1 := [], u2 := [], inBlock := true, blockAt := stcNs d }) d
  let d := modAesRx a (fun x => { x with
    c1 := f.c.getD 0 false :: x.c1, c2 := f.c.getD 1 false :: x.c2
    u1 := f.u.getD 0 false :: x.u1, u2 := f.u.getD 1 false :: x.u2 }) d
  if !(aesRx d a).inBlock then modAesRx a (fun x => { x with c1 := [], c2 := [], u1 := [], u2 := [] }) d
  else if (aesRx d a).c1.length = 192 then modAesRx a (fun x => { x with inBlock := false }) (aesBlock a d)
  else d

/-- The samples of one frame (R513): a frame or subframe in error repeats the previous samples and is counted. -/
def aesSamples (a : Nat) (f : AesFrame) (d : Dev) : Dev :=
  let plane := rd d (K.ar_PLANE a)
  let k := instNear plane (stcNs d)
  let d := onlyIf (!f.good) (incSat 32 (K.ar_CONCEALED_FRAMES a)) d
  forAll [0, 1] (fun c d =>
    let code := 0x1000 + 2 * a + c
    let prev := ((tabGet [] d.aud.feed code).head?).getD noSmp
    let parity := f.parityOk.getD c true
    let v := f.v.getD c false
    let d := onlyIf (f.good && !parity) (incSat 32 (K.ar_PARITY_ERRORS a)) d
    let d := onlyIf (f.good && v) (incSat 32 (K.ar_INVALID_SAMPLES a)) d
    if f.good && parity then deliver1 (0x1000 + a) code plane k (f.samples.getD c 0) (!v) d
    else deliver1 (0x1000 + a) code plane k prev.v prev.ok d) d

/-- An AES3 frame arrives (R511, R512, R513). -/
def aesFrame (a : Nat) (f : AesFrame) (d : Dev) : Dev :=
  let st := rd d (K.ar_AR_STATE a)
  if st = 0 then d
  else if st = 1 then wr (K.ar_AR_STATE a) 2 d
  else if st = 2 then d
  else aesStatus a f (aesSamples a f d)

/-- A receiver has acquired a rate (R512, R516): delivery starts with a ramp from zero through the converter; without one it
is muted. -/
def aesAcquired (a rate : Nat) (d : Dev) : Dev :=
  if rd d (K.ar_AR_STATE a) = 2 ∧ aesRates.contains rate then
    let u := 0x1000 + a
    let res := on d (K.ar_SRC_RESERVE a)
    let last := (aesRx d a).lastRate
    let k := nowInst d (rd d (K.ar_PLANE a))
    let d := onlyIf (last != 0 && last != rate) (incSat 32 (K.ar_RATE_CHANGES a)) d
    let d := modAesRx a (fun x => { x with lastRate := rate, inBlock := false, c1 := [], c2 := [], u1 := [], u2 := [] }) d
    unitReport u (wr (K.ar_RATE_HZ a) rate (modUnit u (fun _ =>
      { present := true, muted := !res, conv := res, fade := if res then some k else none, asyncAt := d.now }) d))
  else d

/-- A receiver loses its signal (R514, R515). A rate change is counted with its loss, once (log entry 20). -/
def aesLost (a : Nat) (kind : AesLossKind) (d : Dev) : Dev :=
  let st := rd d (K.ar_AR_STATE a)
  let next := if kind = .clockStopped then 1 else 2
  if st = 3 ∨ st = 4 then
    let plane := rd d (K.ar_PLANE a)
    let d := onlyIf (st == 3) (fun d => rampEnd (0x1000 + 2 * a) plane (rampEnd (0x1001 + 2 * a) plane d)) d
    let d := condition (K.ar_LOSSES a) (incSat 32 (K.ar_LOSSES a) d)
    let d := onlyIf (kind == .rateChange) (fun d => modAesRx a (fun x => { x with lastRate := 0 })
      (incSat 32 (K.ar_RATE_CHANGES a) d)) d
    wr (K.ar_AR_STATE a) next (wr (K.ar_RATE_HZ a) 0 (wr (K.ar_SRC_STATE a) 0 (modUnit (0x1000 + a) (fun _ => {}) d)))
  else if st = 2 ∧ kind = .clockStopped then wr (K.ar_AR_STATE a) 1 d
  else d

/-- The settings of receiver `a` applied (R517): enable and disable; a new plane or converter acquires anew. -/
def aesApply (a : Nat) (changed : Bool) (d : Dev) : Dev :=
  let en := on d (K.ar_AR_ENABLE a)
  let st := rd d (K.ar_AR_STATE a)
  let plane := rd d (K.ar_PLANE a)
  let off (n : Nat) (d : Dev) : Dev :=
    let d := onlyIf (st == 3) (fun d => rampEnd (0x1000 + 2 * a) plane (rampEnd (0x1001 + 2 * a) plane d)) d
    wr (K.ar_AR_STATE a) n (wr (K.ar_RATE_HZ a) 0 (wr (K.ar_SRC_STATE a) 0 (modUnit (0x1000 + a) (fun _ => {}) d)))
  if !en then off 0 d else if st = 0 then off 1 d else if changed && decide (3 ≤ st) then off 2 d else d

/-! ## AES3 transmitters (R518 to R526) -/

def aesTx (d : Dev) (a : Nat) : AesTx := tabGet {} d.aud.tx a

def modAesTx (a : Nat) (f : AesTx → AesTx) (d : Dev) : Dev := modAud (fun x => { x with tx := tabMod {} a f x.tx }) d

/-- A block of a phase begins; its stamp is the sample time of its first sample, D_MIN earlier (R525). -/
def aesTxBegin (a phase : Nat) (d : Dev) : Dev :=
  let stamp := stcNs d - 4000000
  let x := aesTx d a
  let fromStart := decide (phase = 1)
  let rate := if fromStart then rd d (K.at_AT_RATE a) else x.rate
  let plane := if fromStart then rd d (K.at_PLANE a) else x.plane
  let src := [rd d (K.at_SOURCE_1 a), rd d (K.at_SOURCE_2 a)]
  let d := modAesTx a (fun x => { x with
    phase := phase, rate := rate, plane := plane, stamp := stamp
    was := if phase = 2 ∧ x.phase = 1 then [0x1F00, 0x1F00] else x.src, src := if phase = 2 ∨ phase = 1 then src else x.src
    mode := rd d (K.at_CS_MODE a), template := rdB d (K.at_CS_TEMPLATE a) }) d
  wr (K.at_AT_STATE a) (if phase = 0 then 0 else if phase = 1 then 1 else if phase = 2 then 2 else 3)
    (wr (K.at_SRC_STATE a) (if phase ≠ 0 ∧ rate ≠ planeRate plane then 2 else 0)
      (onlyIf (phase != 0) (wr (K.at_LAST_BLOCK_STC a) stamp) d))

/-- A block boundary of transmitter `a` (R520 to R524). -/
def aesTxBoundary (a : Nat) (d : Dev) : Dev :=
  let x := aesTx d a
  let en := on d (K.at_AT_ENABLE a)
  let same := x.rate == rd d (K.at_AT_RATE a) && x.plane == rd d (K.at_PLANE a)
  let d := onlyIf (x.phase != 0) (inc64 (K.at_BLOCKS_SENT a)) d
  match x.phase with
  | 0 => if en then aesTxBegin a 1 d else d
  | 1 => if !en then aesTxBegin a 0 d else if same then aesTxBegin a 2 d else aesTxBegin a 1 d
  | 2 => if en && same then aesTxBegin a 2 d else aesTxBegin a 3 d
  | 3 => aesTxBegin a 4 d
  | _ => if en then aesTxBegin a 1 d else aesTxBegin a 0 d

/-- What transmitter `a` sends in subframe `c` for sample `i` of its running block: ramps and crossfades of 1 ms at the block's
start; a rate other than the plane's is converted (free, log entry 18). -/
def aesTxSample (d : Dev) (a c i : Nat) : Smp :=
  let x := aesTx d a
  let n := x.rate / 1000
  let k := instNear x.plane (x.stamp + i * 1000000000 / x.rate)
  let at_ (code : Nat) : Smp :=
    let s := readSrc d code x.plane k
    if x.rate = planeRate x.plane ∨ code = 0x1F00 ∨ code = 0xFFFF then s else { s with v := sx 24 (Config.srcSample code (2 + a) (x.stamp + i)).toNat }
  let new := at_ (x.src.getD c 0xFFFF)
  match x.phase with
  | 2 => if x.was = x.src then new else xfade n i (at_ (x.was.getD c 0xFFFF)) new
  | 3 => xfade n i new zeroSmp
  | _ => zeroSmp

/-! ## Packings and blocks (R527, R528) -/

/-- The bytes of a sample. -/
def packSample (packing : Nat) (v : Int) : List Byte :=
  let u := tc 24 v
  match packing with
  | 0 => natLE 3 u
  | 1 => natLE 4 (u * 256)
  | _ => natLE 4 (u * 256 + (if 2 ^ 23 ≤ u then 255 else 0))

/-- The sample in some bytes. -/
def unpackSample (packing : Nat) (b : List Byte) : Int := if packing = 0 then sx 24 (leAt b 0 3) else sx 24 (leAt b 1 3)

/-- An audio block; `l` holds the channels of each instant in order. -/
def audioBlock (stamp seq channels packing flags : Nat) (l : List (List Smp)) : List Byte :=
  let invalid := (List.range channels).foldl (fun a c => if l.any fun x => !(x.getD c noSmp).ok then a + 2 ^ c else a) 0
  let b := natLE 8 stamp ++ natLE 4 seq ++ natLE 2 l.length ++ natLE 1 channels ++ natLE 1 packing ++ natLE 4 invalid ++
    natLE 4 flags ++ natLE 8 0 ++ l.flatMap fun x => x.flatMap fun s => packSample packing s.v
  padTo ((b.length + 15) / 16 * 16) b

/-! ## Capture streams (R529, R534) -/

def capSt (d : Dev) (n : Nat) : CapSt := tabGet {} d.aud.cap n

def modCap (n : Nat) (f : CapSt → CapSt) (d : Dev) : Dev := modAud (fun x => { x with cap := tabMod {} n f x.cap }) d

/-- The sources of stream `n` as its entries name them. -/
def capSources (d : Dev) (n : Nat) : List Nat := (List.range (rd d (K.cap_CHANNELS n))).map fun c => rd d (K.cap_CH_SOURCE n c)

/-- The settings of a stream come into force at instant `k` of its plane; a changed source crossfades. -/
def capSettings (n k : Nat) (first : Bool) (d : Dev) : Dev :=
  let src := capSources d n
  modCap n (fun x => { x with
    plane := rd d (K.cap_PLANE n), packing := rd d (K.cap_PACKING n), channels := rd d (K.cap_CHANNELS n)
    src := src, was := if first then src else if x.src = src then x.was else x.src
    since := if first ∨ x.src ≠ src then k else x.since }) d

/-- A stream that a commit enabled starts: its first block begins now, or at the next seam of BLOCK_TG. -/
def capApply (n : Nat) (d : Dev) : Dev :=
  if on d (K.cap_CAP_ENABLE n) ∧ rd d (K.cap_CAP_STATE n) = 0 then
    let k := nowInst d (rd d (K.cap_PLANE n))
    let d := modCap n (fun x => { seq := x.seq, next := if rd d (K.cap_BLOCK_TG n) = 0xFF then k else 0 }) d
    wr (K.cap_CAP_STATE n) 1 (capSettings n k true d)
  else d

/-- A seam of generator `g` ends a block of every stream that follows it. -/
def capSeam (g : Nat) (d : Dev) : Dev :=
  forAll (List.range 64) (fun n d =>
    if rd d (K.cap_CAP_STATE n) ≠ 0 ∧ rd d (K.cap_BLOCK_TG n) = g then
      let k := nowInst d (capSt d n).plane
      modCap n (fun x => if x.next = 0 then { x with next := k } else { x with ends := x.ends ++ [k] }) d
    else d) d

/-- Channel `c` of stream `n` at an instant. -/
def capSample (d : Dev) (n c k : Nat) : Smp :=
  let x := capSt d n
  let new := readSrc d (x.src.getD c 0xFFFF) x.plane k
  if x.was.getD c 0xFFFF = x.src.getD c 0xFFFF then new
  else xfade (fadeLen x.plane) (k - x.since) (readSrc d (x.was.getD c 0xFFFF) x.plane k) new

/-- The waiting CAPTURE_BUFFER of a queue. -/
def captureBufferOf (d : Dev) (q : Nat) : Option Descr :=
  let c := queue d q
  if c.st = 1 ∧ c.typ = 3 then c.descs.find? fun x => x.status.isNone && dOpcode x.bytes == 0x0301 else none

/-- A block is discarded: the gap is counted once and the next block carries DISCONTINUITY (R529). -/
def capDiscard (n : Nat) (d : Dev) : Dev :=
  let d := onlyIf (!(capSt d n).lost) (incSat 32 (K.cap_DISCONTINUITIES n)) d
  wr (K.cap_CAP_STATE n) 2 (modCap n (fun x => { x with lost := true }) d)

/-- The running block ends at instant `e` and is written to the queue. -/
def capWrite (n e : Nat) (d : Dev) : Dev :=
  let x := capSt d n
  let l := (List.range (e - x.next)).map fun i => (List.range x.channels).map fun c => capSample d n c (x.next + i)
  let stamp := instStc x.plane x.next
  let q := rd d (K.cap_QUEUE n)
  let d := modCap n (fun x => { x with seq := x.seq + 1 }) d
  match captureBufferOf d q with
  | none => capDiscard n d
  | some b =>
    let flags := (if x.lost then 1 else 0) + (if x.plane = 1 then 2 else 0) + (if b.replayed then 4 else 0)
    let bytes := audioBlock stamp x.seq x.channels x.packing flags l
    if dLength b.bytes < bytes.length then capDiscard n (finishDescr q b.ring 7 0 0 0 false d)
    else
      let d := modDescr q b.ring (fun y => { y with wrote := [(dAddr b.bytes, bytes)] }) d
      let d := finishDescr q b.ring 0 bytes.length 0 0 false (countBytes q bytes.length false
        (dmaWrite ((qFn d q).getD 0) (dAddr b.bytes) bytes d))
      wr (K.cap_CAP_STATE n) 1 (inc64 (K.cap_CAP_BLOCKS n) (wr (K.cap_LAST_BLOCK_STC n) stamp
        (modCap n (fun x => { x with lost := false }) d)))

/-- The end of the block that a stream forms next, in instants. -/
def capEnd (d : Dev) (n : Nat) : Option Nat :=
  let x := capSt d n
  if rd d (K.cap_BLOCK_TG n) = 0xFF then some (x.next + 192) else x.ends.head?

/-- CAPTURE_BLOCK_FORM: the block of a stream whose last sample has passed D_MIN; then its staged settings apply. -/
def capForm (n : Nat) (d : Dev) : Dev :=
  if rd d (K.cap_CAP_STATE n) = 0 then d
  else match capEnd d n with
    | none => d
    | some e =>
      let plane := (capSt d n).plane
      if (capSt d n).next = 0 ∨ instNear plane (stcNs d) < e + dMin plane then d
      else
        let d := capWrite n e d
        let d := modCap n (fun x => { x with next := e, ends := x.ends.drop 1 }) d
        if on d (K.cap_CAP_ENABLE n) then
          let rescaled := if rd d (K.cap_PLANE n) = plane then e else instFrom (rd d (K.cap_PLANE n)) (instStc plane e)
          let d := modCap n (fun x => if rescaled = e then x else { x with next := rescaled, ends := [] }) d
          capSettings n rescaled false d
        else wr (K.cap_CAP_STATE n) 0 (modCap n (fun x => { x with next := 0, ends := [] }) d)

/-! ## Playback streams (R530 to R535) -/

def playSt (d : Dev) (n : Nat) : PlaySt := tabGet {} d.aud.play n

def modPlay (n : Nat) (f : PlaySt → PlaySt) (d : Dev) : Dev := modAud (fun x => { x with play := tabMod {} n f x.play }) d

/-- The code of channel `c` of stream `n`. -/
def playCode (n c : Nat) : Nat := 0x1400 + 32 * n + c

/-- The stream that plays from queue `q`. -/
def playStreamOf (d : Dev) (q : Nat) : Option Nat :=
  (List.range 32).find? fun n => on d (K.pb_PB_ENABLE n) && rd d (K.pb_QUEUE n) == q

/-- Channel `c` of instant `i` of a block. -/
def blockSample (b : List Byte) (i c : Nat) : Smp :=
  let ch := leAt b 14 1
  let pk := leAt b 15 1
  let w := if pk = 0 then 3 else 4
  { v := unpackSample pk (slice (32 + (i * ch + c) * w) w b), ok := !bitAt (leAt b 16 4) c }

/-- Instant `k` of a stream is published; `i` is its place in the block, `k0` where a ramp from zero starts. -/
def playInstant (n plane ch : Nat) (b : List Byte) (k0 : Option Nat) (i k : Nat) (d : Dev) : Dev :=
  forAll (List.range ch) (fun c d =>
    let s := { blockSample b i c with k := k }
    pushSmp (playCode n c) (match k0 with
      | some f => xfade (fadeLen plane) (k - f) { zeroSmp with k := k } s
      | none => s) d) d

/-- A block is published in full (R530 to R533, R535). -/
def playPublish (n : Nat) (b : List Byte) (d : Dev) : Dev :=
  let plane := rd d (K.pb_PLANE n)
  let ch := rd d (K.pb_CHANNELS n)
  let len := leAt b 12 2
  if leAt b 14 1 ≠ ch ∨ bitAt (leAt b 20 4) 1 ≠ (plane == 1) then incSat 32 (K.pb_LATE_BLOCKS n) d
  else
    let k0 := instNear plane (leAt b 0 8)
    let late := decide (leAt b 0 8 ≤ stcNs d)
    let floor := if late then instFrom plane (stcNs d + 1000000) else 0
    let covered := (tabGet [] d.aud.feed (playCode n 0)).map (·.k)
    let all := (List.range len).map fun i => (i, k0 + i)
    let fresh_ := all.filter fun x => !covered.contains x.2
    let keep := fresh_.filter fun x => decide (floor ≤ x.2)
    let d := onlyIf late (incSat 32 (K.pb_LATE_BLOCKS n)) d
    let d := addSat 32 (K.pb_OVERLAP_SAMPLES n) (ch * (len - fresh_.length)) d
    match keep.head? with
    | none => d
    | some (_, first) =>
      let gap := (playSt d n).until_.all fun u => decide (u + 1 < first)
      let torn := (playSt d n).until_.isSome && gap && rd d (K.pb_PB_STATE n) == 2
      let d := onlyIf torn (forAll (List.range ch) fun c => rampEnd (playCode n c) plane) d
      let d := forAll keep (fun x => playInstant n plane ch b (if gap then some first else none) x.1 x.2) d
      let last := (keep.getLast?).map (·.2)
      wr (K.pb_PB_STATE n) 2 (inc64 (K.pb_PB_BLOCKS n)
        (modPlay n (fun p => { p with until_ := match p.until_, last with
          | some u, some l => some (max u l)
          | none, l => l
          | u, none => u }) d))

/-- No sample stands for the next instant (R532): the 1 ms before it is ramped to zero. -/
def playGap (n : Nat) (d : Dev) : Dev :=
  let plane := rd d (K.pb_PLANE n)
  if rd d (K.pb_PB_STATE n) = 2 ∧ (playSt d n).until_.any (fun u => decide (u < instNear plane (stcNs d) + 2 * fadeLen plane)) then
    wr (K.pb_PB_STATE n) 3 (forAll (List.range (rd d (K.pb_CHANNELS n))) (fun c => rampEnd (playCode n c) plane) d)
  else d

/-- [pb:08] as it reads: the latest instant delivered by now. -/
def playedUntil (d : Dev) (n : Nat) : Nat :=
  match (playSt d n).until_ with
  | some u =>
    let plane := rd d (K.pb_PLANE n)
    let now := stcNs d * planeRate plane / 1000000000
    (((tabGet [] d.aud.feed (playCode n 0)).find? fun s => decide (s.k ≤ now)).map fun s => instStc plane s.k).getD
      (if u ≤ now then instStc plane u else 0)
  | none => 0

/-- The settings of a stream applied: it waits for its first block, or is idle. -/
def playApply (n : Nat) (d : Dev) : Dev :=
  let plane := rd d (K.pb_PLANE n)
  if !on d (K.pb_PB_ENABLE n) then
    wr (K.pb_PB_STATE n) 0 (modPlay n (fun _ => {}) (onlyIf (rd d (K.pb_PB_STATE n) == 2)
      (forAll (List.range 32) fun c => rampEnd (playCode n c) plane) d))
  else if rd d (K.pb_PB_STATE n) = 0 then wr (K.pb_PB_STATE n) 1 d else d

/-! ## Embedded outputs (R501 to R509) -/

def embed (d : Dev) (p : Nat) : EmbedSt := tabGet {} d.aud.embed p

def modEmbed (p : Nat) (f : EmbedSt → EmbedSt) (d : Dev) : Dev := modAud (fun x => { x with embed := tabMod {} p f x.embed }) d

/-- Channels that output `p` can carry (R502). -/
def embedChannels (d : Dev) (p : Nat) : Nat :=
  if p % 8 < 5 ∧ on d (K.tb_TIE_ENABLE (p / 8)) then 32
  else match rd d (K.tx_TX_RATE p) % 16 with
    | 1 => 0
    | 2 => 16
    | 3 => if 0x80 ≤ rd d (K.route_OUT_MAPPING p) then 16 else 32
    | _ => 32

/-- The groups of which any channel is in a mask. -/
def groupsOf (mask : Nat) : Nat := (List.range 8).foldl (fun a g => if fld mask (4 * g) 4 = 0 then a else a + 2 ^ g) 0

/-- What a source gives an embedder at output instant `k` through its delays and slips. -/
def embedRead (d : Dev) (x : EmbedSt) (delay code k : Nat) : Smp :=
  let one (dl : Nat) (sh : Int) : Smp := readSrc d code 0 ((k : Int) - (dl * 48 / 1000 : Nat) + sh).toNat
  let slip (dl : Nat) : Smp := if x.shiftAt ≤ k then xfade 48 (k - x.shiftAt) (one dl x.shiftWas) (one dl x.shift) else one dl x.shift
  if x.delayAt ≤ k then xfade 48 (k - x.delayAt) (slip x.delayWas) (slip delay) else slip delay

/-- The channel status of every embedded channel (R503). -/
def embedStatus : List Byte := csPro 48000 []

/-- The sample that output `p` carries in channel `c` at output instant `k` (R503 to R507). -/
def embedSample (d : Dev) (p c k : Nat) : Smp :=
  let x := embed d p
  let dl := rd d (K.eo_DELAY_USED_US p)
  let mask := rd d (K.eo_ACTIVE_MASK p)
  let new := embedRead d x dl (x.src.getD c 0xFFFF) k
  let old := embedRead d x dl (x.was.getD c 0xFFFF) k
  let n := k - x.since
  if bitAt mask c then (if x.was.getD c 0xFFFF = x.src.getD c 0xFFFF then new else xfade 48 n old new)
  else if bitAt x.removed c ∧ n < 48 then xfade 48 n old zeroSmp
  else noSmp

/-- INVALID_CH of the frame that ended, instants `k0` to `k1`. -/
def embedInvalid (d : Dev) (p k0 k1 : Nat) : Nat :=
  (List.range 32).foldl (fun a c =>
    if (bitAt (groupsOf (Nat.lor (rd d (K.eo_ACTIVE_MASK p)) (embed d p).removed)) (c / 4)) &&
        (List.range (k1 - k0)).any fun i => !(embedSample d p c (k0 + i)).ok then a + 2 ^ c else a) 0

/-- The delay that the route's source asks for in us (R507); none while no source frame stands. -/
def autoDelay (d : Dev) (p : Nat) : Option Nat :=
  let kind := rd d (K.route_SOURCE_KIND p)
  let n := rd d (K.route_SOURCE_ID p)
  let since (stc : Nat) : Nat := (stcNs d - stc) / 1000
  let tus := tgPeriod d (routeTg d p) / 1000000
  if kind = 1 then
    (if rd d (K.route_SHOWN p) = 0 ∨ rd d (K.route_SHOWN p) = 3 then some (max 4000 (since (rd d (K.route_LAST_SOURCE_STC p)))) else none)
  else if kind = 2 then
    match (enabledLayers d n).find? fun l => rd d (K.ly_SRC_KIND (n * 8 + l)) == 1 with
    | some l => if rd d (K.ly_L_STATE (n * 8 + l)) = 1 then some (max 4000 (since (rd d (K.ly_LAST_SOURCE_STC (n * 8 + l))) + 2 * tus))
        else none
    | none => some 4000
  else some 4000

/-- A delay comes into force with a crossfade. -/
def setDelay (p v : Nat) (d : Dev) : Dev :=
  let old := rd d (K.eo_DELAY_USED_US p)
  if old = v then d
  else wr (K.eo_DELAY_USED_US p) v
    (modEmbed p (fun x => { x with delayWas := if old = 0 then v else old, delayAt := nowInst d 0, departs := none }) d)

/-- The delay of an embedder at a seam (R507). -/
def embedDelay (p : Nat) (d : Dev) : Dev :=
  let set := rd d (K.eo_AUDIO_DELAY_US p)
  if set ≠ 0 then setDelay p set d
  else
    let src := rd d (K.route_SOURCE_KIND p) * 65536 + rd d (K.route_SOURCE_ID p) + 1
    let x := embed d p
    let tus := tgPeriod d (routeTg d p) / 1000000
    match autoDelay d p with
    | none => onlyIf (rd d (K.eo_DELAY_USED_US p) == 0) (setDelay p 4000) d
    | some v =>
      let u := rd d (K.eo_DELAY_USED_US p)
      if x.routed ≠ src ∨ u = 0 then setDelay p v (modEmbed p (fun x => { x with routed := src, departs := none }) d)
      else if tus < (v - u) + (u - v) then
        match x.departs with
        | some t => if t + sec 1 ≤ d.now then setDelay p v d else d
        | none => modEmbed p (fun x => { x with departs := some d.now }) d
      else modEmbed p (fun x => { x with departs := none }) d

/-- An output's audio at a seam of its generator (R503, R504, R507): the frame that ended, a new mask or sources, the delay. -/
def embedSeam (p : Nat) (d : Dev) : Dev :=
  let k := nowInst d 0
  let per := tgPeriod d (routeTg d p) / 1000
  let act_ := rd d (K.eo_ACTIVE_MASK p)
  let x := embed d p
  let d := wr (K.eo_INVALID_CH p) (if act_ = 0 ∧ x.removed = 0 then 0 else embedInvalid d p (k - per * 48 / 1000000) k) d
  let mask := rd d (K.eo_SLOT_MASK p)
  let src := (List.range 32).map fun c => rd d (K.eo_CH_SOURCE p c)
  let gone := Nat.land act_ (2 ^ 32 - 1 - mask)
  let added := Nat.land mask (2 ^ 32 - 1 - act_)
  let d := if mask = act_ ∧ src = x.src then modEmbed p (fun x => { x with removed := 0 }) d
    else modEmbed p (fun x => { x with
      was := (List.range 32).map fun c => if bitAt added c then 0x1F00 else x.src.getD c 0xFFFF
      src := src, removed := gone, since := k }) d
  embedDelay p (wr (K.eo_ACTIVE_MASK p) mask (wr (K.eo_GROUPS_ACTIVE p) (groupsOf (Nat.lor mask gone)) d))

/-- An output that sends no content embeds nothing. -/
def embedOff (p : Nat) (d : Dev) : Dev :=
  if rd d (K.eo_ACTIVE_MASK p) = 0 ∧ rd d (K.eo_DELAY_USED_US p) = 0 then d
  else wr (K.eo_ACTIVE_MASK p) 0 (wr (K.eo_GROUPS_ACTIVE p) 0 (wr (K.eo_INVALID_CH p) 0 (wr (K.eo_DELAY_USED_US p) 0
    (modEmbed p (fun _ => {}) d))))

/-- A slip (R505, R506): one sample of all channels is omitted or repeated; an embedder on the generator that the audio clock
follows never slips. -/
def embedSlip (p : Nat) (omits : Bool) (d : Dev) : Dev :=
  if routeTg d p = rd d K.x3400_AUDIO_TG ∨ rd d (K.eo_ACTIVE_MASK p) = 0 then d
  else incSat 32 (K.eo_SLIPS p) (modEmbed p (fun x => { x with
    shiftWas := x.shift, shift := if omits then x.shift + 1 else x.shift - 1, shiftAt := nowInst d 0 }) d)

/-! ## Evidence taps (R536 to R539) -/

/-- The taps of group `g` of evidence compositor `e`. -/
def tapCodes (d : Dev) (e g : Nat) : List Nat := (List.range 8).map fun k => rd d (K.et_TAP_SOURCE e (8 * g + k))

/-- AUDIO_MASK: the groups of which a tap names a source. -/
def tapMask (d : Dev) (e : Nat) : Nat :=
  (List.range 4).foldl (fun a g => if (tapCodes d e g).any (· != 0xFFFF) then a + 2 ^ g else a) 0

/-- The aligned block of group `g` for the seam at STC `s` and the period `per` in ns. -/
def tapBlock (d : Dev) (e g s per : Nat) : List Byte :=
  let k0 := instFrom 0 (s - per)
  let k1 := instFrom 0 s
  (List.range (k1 - k0)).flatMap fun i =>
    let l := (tapCodes d e g).map fun c => readSrc d c 0 (k0 + i)
    natLE 1 ((l.zipIdx).foldl (fun a (x, k) => if x.ok then a else a + 2 ^ k) 0) ++ l.flatMap fun x => packSample 0 x.v

/-- The digests of the present groups in order. -/
def tapDigests (d : Dev) (e s per : Nat) : List Byte :=
  ((List.range 4).filter fun g => bitAt (tapMask d e) g).flatMap fun g => sha256 (tapBlock d e g s per)

/-- Does the device have its audio unit (R771, AUDIO_DISABLED)? -/
def audioOn (d : Dev) : Bool := !bitAt (rd d K.x1C40_REDUCED) 14

end Sys2Proof.Machine
end

