-- ==== Sys2Proof/Machine/Pack.lean ====
section
/-! DEFINITION. Frames and maps as bytes: the packings of R267 and the provenance map of R429. -/

namespace Sys2Proof.Machine

/-- The number whose bits are some fields of `w` bits, the first in the low bits. -/
def bitFields (w : Nat) : List Nat → Nat
  | [] => 0
  | a :: r => a % 2 ^ w + 2 ^ w * bitFields w r

/-- Groups of `n` members of a list, `k` of them. -/
def groupsN {α : Type} (n : Nat) : Nat → List α → List (List α)
  | 0, _ => []
  | k + 1, l => l.take n :: groupsN n k (l.drop n)

/-- A line in P12.444: 8 pixels in 36 bytes; pixel positions beyond the line are 0 (R267, R455). -/
def packP12 (l : List Px) : List Byte :=
  (groupsN 8 ((l.length + 7) / 8) l).flatMap fun g =>
    natLE 36 (bitFields 12 (g.flatMap fun p => [p.c0, p.c1, p.c2]))

/-- A line in P10.422: 32 samples in SDI order and 16 key samples in 80 bytes. -/
def packP10 (l : List Px) : List Byte :=
  (groupsN 16 ((l.length + 15) / 16) l).flatMap fun g =>
    let s (i : Nat) (p : Px) : List Nat := if i % 2 = 0 then [p.c1 / 4, p.c0 / 4, p.c2 / 4, 0] else [p.c0 / 4]
    let samples := (groupsN 2 8 g).flatMap fun q =>
      match q with
      | [a, b] => (s 0 a).take 3 ++ s 1 b
      | [a] => s 0 a
      | _ => [0, 0, 0, 0]
    let keys := (List.range 16).map fun i => ((g[i]?).map (·.key)).getD 0
    natLE 80 (bitFields 10 samples + 2 ^ 320 * bitFields 10 keys)

/-- A line in a packing. -/
def packLine (packing : Nat) (l : List Px) : List Byte := if packing = 1 then packP10 l else packP12 l

/-- The frame as P12.444 bytes, lines top to bottom. -/
def pixelBytes (p : Picture) : List Byte := p.flatMap packP12

/-- The bytes of a provenance map (R429). -/
def mapBytes (m : List Nat) : List Byte :=
  (groupsN 2 ((m.length + 1) / 2) m).map fun g => BitVec.ofNat 8 (bitFields 4 g)

end Sys2Proof.Machine
end

