-- ==== Sys2Proof/Machine/Evidence.lean ====
section
/-! DEFINITION. Evidence chains (08): pools, cairns, gaps, chain starts, seals, export, the power-loss record. -/

namespace Sys2Proof.Machine

def chain (d : Dev) (e : Nat) : Chain := tabGet {} d.ev.chains e

def modEv (f : Evid → Evid) (d : Dev) : Dev := { d with ev := f d.ev }

def modChain (e : Nat) (f : Chain → Chain) (d : Dev) : Dev := modEv (fun x => { x with chains := tabMod {} e f x.chains }) d

/-! ## Keys, time and the start (R463, R674, R778, R787) -/

/-- START_SEQ of the running start (R778). -/
def startSeqNow (d : Dev) : Nat := ((d.nv.ledger.getLast?).map (·.startSeq)).getD 0

/-- The owner salt of the evidence keys: the OWNER_KEY_ID of the lowest enrolled slot, or 0 (R787). -/
def evidenceSalt (d : Dev) : Nat := ((d.boot.otp.keys.head?).map fun p => beNat p.2).getD 0

/-- The salt of an epoch: an epoch that has begun keeps the salt it began with (R789). -/
def epochSalt (d : Dev) (epoch : Nat) : Nat := tabGet (evidenceSalt d) d.ev.salts epoch

/-- The evidence key of an epoch as `Config` numbers keys. -/
def evidenceKey (d : Dev) (epoch : Nat) : Nat := 1 + epoch + 2 ^ 32 * epochSalt d epoch

/-- The two signatures over some bytes under a context string (R464, R476); zeros without keys (R795; of a power-loss record
DESIGN CHOICE, log entry 63). -/
def signBoth (key : Nat) (ctx bytes : List Byte) (d : Dev) : List Byte × Dev :=
  if !d.boot.keys then (List.replicate 3373 0, d)
  else (natBE 64 (Config.sigEd25519 key (beNat bytes)).toNat ++ natBE 3309 (Config.sigMlDsa65 key (beNat (ctx ++ bytes)) d.free).toNat,
   { d with free := d.free + 1 })

/-- The bytes of an ASCII string. -/
def ascii (s : String) : List Byte := s.toList.map fun c => BitVec.ofNat 8 c.toNat

/-- The evidence certificate of an epoch (R788). -/
def evidenceCert (epoch : Nat) (d : Dev) : List Byte × Dev :=
  let head := ascii "EVC1" ++ natLE 4 epoch ++ padTo 32 (rdB d K.x1802_DEVICE_KEY_ID) ++
    natBE 1984 (Config.evidencePub epoch (epochSalt d epoch)).toNat
  let (sig, d) := signBoth 0 (ascii "VX-EVCERT") head d
  (head ++ sig, d)

/-- KEY_EPOCH reads a new epoch, and its certificate is in force (R788, R789). -/
def epochInForce (d : Dev) : Dev :=
  if rd d K.x1830_KEY_EPOCH = d.ev.epoch then d
  else
    let (c, d) := evidenceCert d.ev.epoch d
    wr K.x1830_KEY_EPOCH d.ev.epoch (wrB K.x1802_PREV_EVIDENCE_CERT (rdB d K.x1802_EVIDENCE_CERT) (wrB K.x1802_EVIDENCE_CERT c d))

/-- TIME_ANCHOR_NS at STC time `x` (R674). -/
def timeOfDay (d : Dev) (x : Nat) : Nat :=
  let a := leAt (rdB d K.x1468_ANCHOR) 0 8
  if rd d K.x1468_ANCHOR_STATE = 0 ∨ a + rd d K.x1468_ANCHOR_MAX_AGE_S * 1000000000 < x then 0
  else (leAt (rdB d K.x1468_ANCHOR) 8 8 + x - a) % 2 ^ 64

/-! ## Persisted state (R475, R717) -/

/-- The record of a chain's state. -/
def chainPayload (c : Chain) : List Byte :=
  natLE 8 (c.nextSeq - 1) ++ padTo 32 c.digest ++ natLE 8 c.exportedTo ++ natLE 8 (c.nextMan - 1) ++ padTo 32 c.manDigest ++
    natLE 4 c.startSeq

def persistChain (e : Nat) (d : Dev) : Dev :=
  let d := modChain e (fun c => { c with formed := true, startSeq := startSeqNow d }) d
  persist (0xF010 + e) 0 (chainPayload (chain d e)) 0x2000 d

/-! ## Records (R453 to R461) -/

/-- A record's bytes: header, body, padding. -/
def cairnBytes (kind e seq stc : Nat) (prev body : List Byte) : List Byte :=
  let n := (56 + body.length + 7) / 8 * 8
  padTo n (ascii "CRN1" ++ natLE 1 kind ++ natLE 1 e ++ natLE 2 n ++ natLE 8 seq ++ natLE 8 stc ++ padTo 32 prev ++ body)

/-- KIND, SEQ and STC of a record. -/
def cairnKind (b : List Byte) : Nat := leAt b 4 1

def cairnStc (b : List Byte) : Nat := leAt b 16 8

/-- A record is appended to its chain. -/
def appendCairn (e kind stc : Nat) (body : List Byte) (pages : List Nat) (pic : Picture) (d : Dev) : Dev :=
  let c := chain d e
  let b := cairnBytes kind e c.nextSeq stc c.digest body
  let d := modChain e (fun c => { c with
    records := c.records ++ [{ seq := c.nextSeq, bytes := b, pages := pages, pic := pic }]
    digest := sha256 b, nextSeq := c.nextSeq + 1 }) d
  persistChain e (wr (K.ec_RECORD_SEQ e) c.nextSeq (wrB (K.ec_LAST_RECORD_DIGEST e) (sha256 b) d))

/-- The CHAIN_START that is pending precedes the next record (R460, R461, R463). -/
def chainStart (e : Nat) (d : Dev) : Dev :=
  match (chain d e).pending with
  | none => d
  | some (cause, loss, first, last) =>
    let anew := cause == 1 || cause == 5
    let none64 := 2 ^ 64 - 1
    let lost := cause == 2 && loss != [] && first != none64
    let body := natLE 4 cause ++ natLE 4 (chain d e).epoch ++ padTo 32 (if cause = 2 then loss else []) ++
      natLE 8 (if lost then first else none64) ++ natLE 8 (if lost then last else none64)
    let d := modChain e (fun c => { c with
      pending := none
      opened := if cause = 4 then c.opened else stcNs d
      nextSeq := if anew then 0 else c.nextSeq, digest := if anew then [] else c.digest
      nextMan := if anew then 0 else c.nextMan, manDigest := if anew then [] else c.manDigest }) d
    appendCairn e 3 (stcNs d) body [] [] d

/-- The GAP record of the missed seams so far is formed (R458, R459), when the record area has its reserved room (R856). -/
def gapRecord (e : Nat) (d : Dev) : Dev :=
  match (chain d e).gap with
  | none => d
  | some g =>
    if !(chain d e).reserved then d
    else
      let d := chainStart e (modChain e (fun c => { c with gap := none }) d)
      appendCairn e 2 g.first (natLE 4 g.count ++ natLE 1 g.reason ++ [0, 0, 0] ++ natLE 8 g.last) [] [] d

/-- CHAIN_STATE takes a value, with an event on a change (R480). -/
def chainState (e st : Nat) (d : Dev) : Dev := change (K.ec_CHAIN_STATE e) st d

/-- A seam whose frame would have carried `stamp` is missed (R457, R458). -/
def missSeam (e reason stamp : Nat) (d : Dev) : Dev :=
  let d := match (chain d e).gap with
    | some g => if g.reason = reason then d else gapRecord e d
    | none => d
  let d := modChain e (fun c => { c with gap := match c.gap with
    | some g => some { g with count := g.count + 1, last := stamp }
    | none => some { reason := reason, count := 1, first := stamp, last := stamp } }) d
  chainState e (if reason = 1 then 2 else if reason = 2 then 3 else 1) (incSat 32 (K.ec_GAP_SEAMS e) d)

/-! ## Pools (R448 to R452, R856) -/

/-- Frame pages of one frame of compositor `n` in P12.444. -/
def evFramePages (d : Dev) (n : Nat) : Nat :=
  let (w, h) := compRaster d n
  slotPages w h 0

/-- Frame pages of the pool as configured: its first 32 pages are the record area. -/
def evPoolPages (d : Dev) (e : Nat) : Nat := rd d (K.ec_EV_POOL_MIB e) * 16 - 32

def poolReport (e : Nat) (d : Dev) : Dev := wr (K.ec_POOL_FREE_PAGES e) (chain d e).free.length d

/-- Pages are locked for the record `seq`, or unlocked (R450, R451, R553). -/
def lockPages (l : List Nat) (lock : Bool) (seq : Nat) (d : Dev) : Dev :=
  forAll l (fun p d => setPte p { pte d p with lock := lock, lockSeq := if lock then seq % 2 ^ 32 else 0 } d) d

/-- The retirement of a page waited for its lock (R550). -/
def retireUnlocked (l : Nat) (d : Dev) : Dev :=
  let p := (pte d l).ppn
  if d.fm.waiting.contains p then retirePage p (modFm (fun m => { m with waiting := m.waiting.filter (· != p) }) d) else d

/-- Pages return to the pool they belong to, or are freed (R450, R452); a retirement that waited for the lock runs (R550). -/
def returnPages (e : Nat) (l : List Nat) (d : Dev) : Dev :=
  let c := chain d e
  let back := l.filter c.pool.contains
  let gone := l.filter fun p => !c.pool.contains p
  let d := forAll back retireUnlocked d
  poolReport e (forAll gone freePage (modChain e (fun c => { c with free := c.free ++ back }) d))

/-- The pool takes its configured size, 0 frame pages when the compositor is idle (R448, R452). -/
def poolResize (e size : Nat) (d : Dev) : Dev :=
  let c := chain d e
  let (area, d) := if c.area = [] ∧ size ≠ 0 then allocPages 32 5 (64 + e) 0 3 false false true d else (c.area, d)
  let keep := c.pool.take size
  let (more, d) := if c.pool.length < size then allocPages (size - c.pool.length) 5 (64 + e) 0 3 false false true d else ([], d)
  let gone := c.free.filter fun p => !keep.contains p
  poolReport e (forAll gone freePage (modChain e (fun c => { c with
    area := area, pool := keep ++ more, free := (c.free.filter keep.contains) ++ more }) d))

/-- Bytes used in the record area: records and manifests that stand there. -/
def areaUsed (c : Chain) : Nat :=
  (c.records.foldl (fun a r => a + r.bytes.length) 0) + 3536 * (c.manifests.length + c.sealing.length)

/-- Room that stays reserved: a manifest and a GAP record. -/
def areaReserve : Nat := 3536 + 72

/-- The reservation of the running interval is taken as soon as there is room (R856). -/
def takeReservation (e : Nat) (d : Dev) : Dev :=
  modChain e (fun c => { c with reserved := c.reserved || decide (areaUsed c + areaReserve ≤ 2097152) }) d

/-- Bytes of the FRAME record of compositor `n`. -/
def frameRecordBytes (d : Dev) (n : Nat) : Nat :=
  let (w, h) := compRaster d n
  let (ta, td) := tilesOf w h
  (364 + (ta * td + 1) / 2 + 7) / 8 * 8

/-- Does the record area have room for the next frame's record and what must precede it? -/
def areaRoom (d : Dev) (n : Nat) : Bool :=
  let c := chain d (n - 64)
  c.reserved && decide (areaUsed c + areaReserve + frameRecordBytes d n + (if c.gap.isSome then 72 else 0) +
    (if c.pending.isSome then 112 else 0) ≤ 2097152)

/-! ## Frames (R450, R455 to R457) -/

/-- The regions' 8 bytes each in a FRAME record. -/
def regionBytes (d : Dev) (n : Nat) : List Byte :=
  (List.range 16).flatMap fun i =>
    let s := rdB d (K.sr_REGION_STATUS n i)
    natLE 1 (leAt s 8 1) ++ slice 8 1 (rdB d (K.sr_REGION_DEF n i)) ++ [0, 0] ++ padTo 4 (s.take 4)

/-- The body of a FRAME record (R455). -/
def frameBody (d : Dev) (n : Nat) (f : Frame) (upstream : Bool) (seam per : Nat) : List Byte :=
  let e := n - 64
  let (w, h) := frameSize f
  let (ta, td) := tilesOf w h
  let classes := (List.range 5).foldl (fun a c => if f.map.contains c then a + 2 ^ (8 + c) else a) 0
  let mask := tapMask d e
  sha256 (pixelBytes f.pic) ++ natLE 4 f.format ++
    natLE 4 (classes + (if f.mark then 1 else 0) + (if upstream then 2 else 0)) ++ regionBytes d n ++ natLE 1 mask ++ natLE 7 0 ++
    ((List.range 4).flatMap fun g => if bitAt mask g then sha256 (tapBlock d e g seam per) else List.replicate 32 0) ++
    natLE 2 ta ++ natLE 2 td ++ mapBytes f.map

/-- A composed frame becomes a record, its pages piton pages. -/
def recordFrame (n : Nat) (f : Frame) (upstream : Bool) (seam per : Nat) (d : Dev) : Dev :=
  let e := n - 64
  let d := chainStart e (gapRecord e d)
  let c := chain d e
  let d := lockPages c.taken true c.nextSeq d
  let d := modChain e (fun c => { c with taken := [] }) d
  onlyIf (f.mark || upstream) (incSat 32 (K.ec_MARKED_FRAMES e))
    (appendCairn e 1 f.stamp (frameBody d n f upstream seam per) c.taken f.pic d)

/-- The pages of a frame that is not completed return to the pool, and its seam is missed. -/
def loseFrame (n reason stamp : Nat) (d : Dev) : Dev :=
  let e := n - 64
  let l := (chain d e).taken
  missSeam e reason stamp (returnPages e l (modChain e (fun c => { c with taken := [] }) d))

/-- Compositor `n` is held in reset: frames in flight are lost (R457, R802). -/
def compHalt (n : Nat) (d : Dev) : Dev :=
  if rd d (K.cmp_COMP_STATE n) = 0 ∨ leadOf d n ≠ n then d
  else
    let d := match (comp d n).job with
      | some j => onlyIf (decide (64 ≤ n)) (loseFrame n 2 j.stamp) d
      | none => d
    compState n 3 (compClear n (modComp n (fun c => { c with starting := none }) d))

/-- A composition of an evidence compositor ends (R450, R457). -/
def completeEvidence (n : Nat) (d : Dev) : Dev :=
  match (comp d n).job with
  | none => d
  | some j =>
    let e := n - 64
    let up := upstreamMark d j
    let (f, d) := composeFrame n j d
    let (sub, d) := layersEnd n j.layers d
    let d := onlyIf sub (incSat 32 (K.cmp_SUBST_FRAMES n)) (inc64 (K.cmp_FRAMES_COMPOSED n) d)
    let f := { f with num := (comp d n).num }
    let d := modComp n (fun c => { c with job := none, done := some f, lastOut := some f, num := c.num + 1 }) d
    let per := f.periodPs / 1000
    if (chain d e).taken = [] then d
    else if writeFailed d (unitKey 5 n) then loseFrame n 4 j.stamp d
    else recordFrame n f up j.seam per d

/-- A composition ends (R369). -/
def completeComp (n : Nat) (d : Dev) : Dev := if n < 64 then completeDisplay n d else completeEvidence n d

/-! ## Seals (R462 to R466, R474) -/

/-- Bytes 0 to 159 of a manifest (R463); PREV_MANIFEST is set when it is signed. -/
def manifestHead (d : Dev) (e first count close : Nat) : List Byte :=
  let c := chain d e
  ascii "BUA1" ++ natLE 1 1 ++ natLE 1 e ++ natLE 2 0 ++ natLE 8 c.nextMan ++ natLE 8 first ++ natLE 4 count ++
    natLE 4 c.epoch ++ natLE 8 c.opened ++ natLE 8 close ++ padTo 32 c.digest ++ padTo 32 [] ++
    padTo 32 (rdB d K.x1802_DEVICE_KEY_ID) ++ natLE 8 (timeOfDay d close) ++ natLE 8 0

/-- A manifest of chain `e` is formed: it covers the records that no manifest covers; the missed seams before it come first. -/
def sealForm (e close : Nat) (slot : Option Nat) (d : Dev) : Dev :=
  let d := takeReservation e d
  if !(chain d e).reserved then d
  else
    let d := gapRecord e d
    let c := chain d e
    let new := c.records.filter fun r => r.sealed.isNone
    let first := ((new.head?).map (·.seq)).getD (if c.pending.any (fun p => p.1 == 1 || p.1 == 5) then 0 else c.nextSeq)
    let m : Sealing := { seq := c.nextMan, head := manifestHead d e first new.length close, boundary := close, slot := slot
                         upTo := c.nextSeq - 1 }
    let d := modChain e (fun c => { c with
      records := c.records.map fun r => if r.sealed.isNone then { r with sealed := some m.seq } else r
      sealing := c.sealing ++ [m], nextMan := c.nextMan + 1, opened := close, reserved := false }) d
    takeReservation e (jOpen 5 (e / 2) 0x2000 e m.seq 0 d)

/-- The journal entry of a seal. -/
def jSeal (e seq : Nat) (x : JEntry) : Bool := x.kind == 5 && x.unit == e && x.ref == seq

/-- Seals that operation 0x0020 in slot `s` still waits for. -/
def sealsOwed (d : Dev) (s : Nat) : Nat :=
  d.ev.chains.foldl (fun a p => a + (p.2.sealing.filter fun m => m.slot == some s).length) 0

/-- Both signatures of the oldest manifest of chain `e` that waits are complete. -/
def sealSigned (e : Nat) (d : Dev) : Dev :=
  match (chain d e).sealing with
  | [] => d
  | m :: rest =>
    let c := chain d e
    let head := m.head.take 80 ++ padTo 32 (if leAt m.head 8 8 = 0 then [] else c.manDigest) ++ m.head.drop 112
    let (sig, d) := signBoth (evidenceKey d (leAt head 28 4)) (ascii "BUARO") head d
    let bytes := head ++ sig
    let us_ := Nat.min ((stcNs d - m.boundary) / 1000) 0xFFFF
    let d := modChain e (fun c => { c with
      sealing := rest, manifests := c.manifests ++ [{ seq := m.seq, bytes := bytes }], manDigest := sha256 bytes }) d
    let d := onlyIf (leAt head 24 4 != 0) (wr (K.ec_SEALED_SEQ e) m.upTo) (wr (K.ec_MANIFEST_SEQ e) m.seq d)
    let d := wr K.x1830_LAST_SIGN_US us_ (wr K.x1830_MAX_SIGN_US (max us_ (rd d K.x1830_MAX_SIGN_US)) (inc64 K.x1830_MANIFESTS_SIGNED d))
    let d := persistChain e (jClose (jSeal e m.seq) d)
    match m.slot with
    | some s =>
      if running d s 0x20 then
        (let d := pushResult s (e * 2 ^ 56 + m.seq) d
         if sealsOwed d s = 0 then finishSlot s 3 0 d else d)
      else d
    | none => d

/-- The latest seal boundary of chain `e` by now (R465). -/
def lastBoundaryAt (d : Dev) (e : Nat) : Option Nat :=
  let si := rd d K.x1830_SEAL_INTERVAL_MS * 1000000
  let o := e * 500000
  if stcNs d < o ∨ si = 0 then none else some ((stcNs d - o) / si * si + o)

/-- An epoch that has advanced takes effect on chain `e` after its boundary (R789). -/
def epochStep (e : Nat) (d : Dev) : Dev :=
  let d := epochInForce d
  if (chain d e).epoch = d.ev.epoch then d
  else modChain e (fun c => { c with
    epoch := d.ev.epoch, pending := if c.enabled && c.pending.isNone then some (4, [], 0, 0) else c.pending }) d

/-- A seal boundary of chain `e` (R458, R465). -/
def sealBoundary (e : Nat) (d : Dev) : Dev :=
  match lastBoundaryAt d e with
  | none => d
  | some b =>
    if b ≤ (chain d e).boundary then d
    else
      let d := modChain e (fun c => { c with boundary := b }) d
      epochStep e (if (chain d e).enabled then sealForm e b none d else d)

/-- Operation 0x0020 enters RUNNING: its argument (R474). -/
def sealOpEnter (s : Nat) (d : Dev) : Dev := if 255 < arg d s 6 then finishSlot s 4 1 d else d

/-- Operation 0x0020 forms its manifests. -/
def sealOp (s : Nat) (d : Dev) : Dev :=
  if (slotRun d s).abortAsked then abortSlot s d
  else if (slotRun d s).pos ≠ 0 then d
  else
    let named := (List.range 8).filter fun e => bitAt (arg d s 6) e && (chain d e).enabled
    let d := forAll named (fun e d => sealForm e (stcNs d) (some s) d) (modSlot s (fun x => { x with pos := 1 }) d)
    if sealsOwed d s = 0 then finishSlot s 3 0 d else d

/-- An abort before the last signature: manifests of the slot that nothing follows are not formed (R474). -/
def sealOpAbort (s : Nat) (d : Dev) : Dev :=
  forAll (List.range 8) (fun e d =>
    match (chain d e).sealing.getLast? with
    | some m =>
      if m.slot = some s ∧ m.seq + 1 = (chain d e).nextMan then
        jClose (jSeal e m.seq) (modChain e (fun c => { c with
          sealing := c.sealing.dropLast, nextMan := m.seq, opened := leAt m.head 32 8
          records := c.records.map fun r => if r.sealed = some m.seq then { r with sealed := none } else r }) d)
      else d
    | none => d) d

/-! ## Compositor seams (R448, R450, R457, R462) -/

/-- An idle chain without unexported records gives up its record area. -/
def areaRelease (e : Nat) (d : Dev) : Dev :=
  let c := chain d e
  if !c.enabled ∧ c.records.all (·.exported) ∧ c.sealing = [] then forAll c.area freePage (modChain e (fun c => { c with area := [] }) d) else d

/-- The chain follows its compositor's layers and pool size at a seam. -/
def poolSeam (e : Nat) (d : Dev) : Dev :=
  let en := enabledLayers d (64 + e) != []
  let c := chain d e
  if en then
    let d := onlyIf (!c.enabled) (fun d => chainState e 1 (modChain e (fun c => { c with
      enabled := true, epoch := rd d K.x1830_KEY_EPOCH, boundary := stcNs d
      pending := match c.pending with
        | some p => some p
        | none => some (3, [], 0, 0) }) d)) d
    takeReservation e (poolResize e (evPoolPages d e) d)
  else if c.enabled then
    let d := sealForm e (stcNs d) none d
    chainState e 0 (areaRelease e (poolResize e 0 (modChain e (fun c => { c with enabled := false }) d)))
  else d

/-- Evidence compositor `n` at a seam: what a fault or restart discarded, its pool, and the frame that begins. -/
def evidenceSeam (n : Nat) (d : Dev) : Dev :=
  let e := n - 64
  let was := (comp d n).job
  let d := poolSeam e d
  let (go, d) := compAdvance n d
  let per := tgPeriod d (compTg d n) / 1000
  let d := wr (K.et_GROUPS_PRESENT e) (tapMask d e) d
  if !(chain d e).enabled then d
  else
    let d := match was with
      | some j => if (comp d n).job.isNone then loseFrame n (if compDown d n then 2 else 3) j.stamp d else d
      | none => d
    if !go then missSeam e 2 (stcNs d + 2 * per) d
    else
      let d := takeReservation e (compBegin n d)
      let stamp := (((comp d n).job).map (·.stamp)).getD 0
      let need := evFramePages d n
      if (chain d e).free.length < need ∨ !areaRoom d n then missSeam e 1 stamp d
      else
        chainState e 1 (poolReport e (modChain e (fun c => { c with
          taken := c.free.take need, free := c.free.drop need }) d))

/-! ## Export (R467 to R473) -/

/-- A unit as it is written: header, body, padding. -/
def unitBytes (type flags seq : Nat) (body : List Byte) : List Byte :=
  let n := (body.length + 15) / 16 * 16
  natLE 2 type ++ natLE 2 flags ++ natLE 4 body.length ++ natLE 8 seq ++ padTo n body

/-- The oldest sealed record not exported whose manifest is signed. -/
def nextExport (c : Chain) : Option Cairn :=
  (c.records.find? fun r => !r.exported).filter fun r => r.sealed.any fun m => c.manifests.any fun x => x.seq == m

/-- The sealed records not exported. -/
def exportable (c : Chain) : Nat :=
  (c.records.filter fun r => !r.exported && r.sealed.any fun m => c.manifests.any fun x => x.seq == m).length

/-- The units of a record: manifests not sent up to the one that covers it, the record, its pixels. -/
def recordUnits (c : Chain) (r : Cairn) (poisoned replayed : Bool) : List (List Byte) :=
  let fl := if replayed then 2 else 0
  ((c.manifests.filter fun m => !m.sent && decide (m.seq ≤ r.sealed.getD 0)).map fun m => unitBytes 1 fl m.seq m.bytes) ++
    [unitBytes 2 fl r.seq r.bytes] ++
    (if cairnKind r.bytes = 1 then [unitBytes 3 (fl + (if poisoned then 1 else 0)) r.seq (pixelBytes r.pic)] else [])

/-- Ends of units in a stream. -/
def unitEnds : Nat → List (List Byte) → List Nat
  | _, [] => []
  | a, u :: r => (a + u.length) :: unitEnds (a + u.length) r

/-- The waiting EVIDENCE_BUFFER of a queue. -/
def evBuffer (c : Queue) : Option Descr := c.descs.find? fun x => x.status.isNone && dOpcode x.bytes == 0x0601

/-- A stream from byte `pos` to `stop` flows into the buffers of queue `q`; the answer is the byte reached. -/
def streamOut (q stop : Nat) (stream : List Byte) (ends : List Nat) : Nat → Nat → Dev → Nat × Dev
  | 0, pos, d => (pos, d)
  | fuel + 1, pos, d =>
    match evBuffer (queue d q) with
    | none => (pos, d)
    | some x =>
      let n := Nat.min (dLength x.bytes - x.moved) (stop - pos)
      let ended := (ends.filter fun a => decide (pos < a) && decide (a ≤ pos + n)).length
      let d := onlyIf (n != 0) (fun d => countBytes q n false
        (dmaWrite ((qFn d q).getD 0) (dAddr x.bytes + x.moved) (slice pos n stream) d)) d
      let d := modDescr q x.ring (fun x => { x with
        moved := x.moved + n, detail := x.detail + ended
        wrote := if n = 0 then x.wrote else x.wrote ++ [(dAddr x.bytes + x.moved, slice pos n stream)] }) d
      let full := x.moved + n == dLength x.bytes
      let d := onlyIf full (finishDescr q x.ring 0 (x.moved + n) (x.detail + ended) 0 false) d
      if full ∧ pos + n < stop then streamOut q stop stream ends fuel (pos + n) d else (pos + n, d)

/-- The running record of an export is written again from its start (R473): what the buffer in use has of it is taken back. -/
def streamBack (q pos : Nat) (ends : List Nat) (d : Dev) : Dev :=
  match evBuffer (queue d q) with
  | some x =>
    let n := Nat.min pos x.moved
    let ended := (ends.filter fun a => decide (pos - n < a) && decide (a ≤ pos)).length
    modDescr q x.ring (fun x => { x with
      moved := x.moved - n, detail := x.detail - ended, wrote := takePlaced (x.moved - n) x.wrote }) d
  | none => d

/-- Buffers in use complete when an export stops (R617). -/
def buffersStop (q : Nat) (d : Dev) : Dev :=
  match evBuffer (queue d q) with
  | some x => if x.moved = 0 then d else finishDescr q x.ring 0 x.moved x.detail 0 false d
  | none => d

/-- A record is exported: its pages are unlocked and return to the pool; space is freed when every record of its manifest is
exported (R467). -/
def recordExported (e : Nat) (r : Cairn) (d : Dev) : Dev :=
  let d := modChain e (fun c => { c with
    exportedTo := r.seq
    manifests := c.manifests.map fun m => if m.seq ≤ r.sealed.getD 0 then { m with sent := true } else m
    records := c.records.map fun x => if x.seq = r.seq then { x with exported := true, pages := [], pic := [] } else x }) d
  let d := returnPages e r.pages (lockPages r.pages false 0 d)
  let whole (c : Chain) (m : Nat) : Bool := c.records.all fun x => x.sealed != some m || x.exported
  let d := modChain e (fun c => { c with
    records := c.records.filter fun x => !(x.exported && x.sealed.any (whole c))
    manifests := c.manifests.filter fun m => !(m.sent && whole c m.seq) }) d
  areaRelease e (takeReservation e (persistChain e (wr (K.ec_EXPORTED_SEQ e) r.seq d)))

/-- Operation 0x0021 enters RUNNING (R470, R471). -/
def exportEnter (s : Nat) (d : Dev) : Dev :=
  let e := arg d s 6
  let q := arg d s 7
  let own := rd d (K.slot_OWNER s)
  if 7 < e ∨ arg d s 8 = 0 ∨ 240 < arg d s 8 then finishSlot s 4 1 d
  else if 65535 < q ∨ (queue d q).typ ≠ 6 ∨ !isPcie own ∨ qFn d q ≠ some own then finishSlot s 4 2 d
  else if (busySlots d).any fun x => x != s && rd d (K.slot_OPCODE x) == 0x21 && arg d x 6 == e then finishSlot s 4 3 d
  else
    let c := chain d e
    let n := Nat.min (arg d s 8) (exportable c)
    if n = 0 then finishSlot s 3 0 d
    else
      let man := ((nextExport c).bind (·.sealed)).getD 0
      modSlot s (fun x => { x with pos := 0, aux := [n, 0, 0, 0] })
        (modChain e (fun c => { c with manifests := c.manifests.map fun m => if m.seq = man then { m with sent := false } else m }) d)

/-- The export goes on by the units paid (R185, R471): `aux` holds records planned and done, POISONED of the running record, and
REPLAYED. -/
def exportStep (s : Nat) (poisoned : Bool) (d : Dev) : Dev :=
  let e := arg d s 6
  let q := arg d s 7
  let x := slotRun d s
  if x.abortAsked then abortSlot s (buffersStop q d)
  else if (queue d q).st ≠ 1 then finishSlot s 4 4 (buffersStop q d)
  else match nextExport (chain d e) with
    | none => finishSlot s 3 0 (buffersStop q d)
    | some r =>
      let pois := if x.pos = 0 then poisoned else x.aux.getD 2 0 == 1
      let us_ := recordUnits (chain d e) r pois (x.aux.getD 3 0 == 1)
      let stream := us_.flatten
      let stop := Nat.min stream.length ((x.pos / 4096 + d.ctl.paid.getD 2 0) * 4096)
      let (pos, d) := streamOut q stop stream (unitEnds 0 us_) ((queue d q).descs.length + 1) x.pos d
      let d := spend 2 ((pos + 4095) / 4096 - (x.pos + 4095) / 4096) d
      if pos < stream.length then
        modSlot s (fun x => { x with pos := pos, aux := setAt x.aux 2 (if pois then 1 else 0) }) d
      else
        let n := x.aux.getD 1 0 + 1
        let planned := x.aux.getD 0 1
        let d := recordExported e r d
        let d := pushResult s r.seq (setArg s 10 r.seq (onlyIf (n == 1) (setArg s 9 r.seq) d))
        let d := modSlot s (fun x => { x with pos := 0, aux := [planned, n, 0, 0] }) (setProgress s (100 * n / planned) d)
        if n = planned then finishSlot s 3 0 (buffersStop q d) else d

/-! ## Power loss and the next start (R476, R477) -/

/-- Does the power-loss record list chain `e`: enabled, holding unexported records, or with the loss of an earlier stop pending? -/
def lossListed (c : Chain) : Bool := c.enabled || c.records.any (fun r => !r.exported) || c.pending.any fun p => p.1 == 2

/-- The CHAIN_LOSS entry of a chain. -/
def chainLoss (d : Dev) (e : Nat) : List Byte :=
  let c := chain d e
  let l := c.records.filter fun r => !r.exported
  match l.head?, l.getLast? with
  | some a, some b =>
    natLE 8 a.seq ++ natLE 8 b.seq ++ natLE 8 (cairnStc a.bytes) ++ natLE 8 (cairnStc b.bytes) ++ sha256 b.bytes
  | _, _ =>
    if c.pending.any fun p => p.1 == 2 then padTo 64 (slice (72 + 64 * e) 64 (rdB d K.x1830_POWER_LOSS_RECORD))
    else List.replicate 64 0

/-- The power-loss record is formed and signed (R476). -/
def formLossRecord (pfailStc : Nat) (d : Dev) : Dev :=
  let bits := (List.range 8).foldl (fun a e => if lossListed (chain d e) then a + 2 ^ e else a) 0
  let head := ascii "CRN1" ++ natLE 1 4 ++ natLE 1 0xFF ++ natLE 2 3960 ++ natLE 8 d.ev.lossSeq ++ natLE 8 (stcNs d) ++
    padTo 32 d.ev.lossDigest ++ natLE 8 pfailStc ++ natLE 1 bits ++ natLE 3 0 ++ natLE 4 (startSeqNow d) ++
    (List.range 8).flatMap fun e => if lossListed (chain d e) then chainLoss d e else List.replicate 64 0
  let (sig, d) := signBoth (evidenceKey d (rd d K.x1830_KEY_EPOCH)) (ascii "BUARO-PL") head d
  let bytes := padTo 3960 (head ++ sig)
  wrB K.x1830_POWER_LOSS_RECORD bytes (modEv (fun x => { x with lossSeq := x.lossSeq + 1, lossDigest := sha256 bytes }) d)

/-- The chains after a stop that lost frame memory: only the persisted state stands (R475, R705). -/
def chainsLost (d : Dev) : Dev :=
  modEv (fun x => { x with chains := x.chains.map fun p => (p.1, ({
    formed := p.2.formed, nextSeq := p.2.nextSeq, digest := p.2.digest, nextMan := p.2.nextMan, manDigest := p.2.manDigest
    startSeq := p.2.startSeq, exportedTo := p.2.exportedTo, pending := p.2.pending } : Chain)) }) d

/-- The chain states that the NV store holds (R475, R717). -/
def chainsMount (d : Dev) : Dev :=
  forAll (List.range 8) (fun e d =>
    match mounted d (0xF010 + e) with
    | some (_, p) =>
      let man := slice 56 32 p
      let none_ := man.all (· == 0)
      modChain e (fun c => { c with
        formed := true, nextSeq := leAt p 0 8 + 1, digest := slice 8 32 p, exportedTo := leAt p 40 8
        nextMan := if none_ then 0 else leAt p 48 8 + 1, manDigest := if none_ then [] else man, startSeq := leAt p 88 4 }) d
    | none => modChain e (fun c => { c with formed := false, nextSeq := 0, digest := [], nextMan := 0, manDigest := [] }) d) d

/-- Step S22: the cause of each chain's next CHAIN_START from its persisted state and the latest power-loss record (R477). A cause
0x02 or 0x05 that no record has taken yet stands. -/
def chainCauses (d : Dev) : Dev :=
  let rec_ := rdB d K.x1830_POWER_LOSS_RECORD
  let has := rec_.length == 3960
  forAll (List.range 8) (fun e d =>
    let c := chain d e
    let entry := slice (72 + 64 * e) 64 rec_
    let lost := entry.any (· != 0)
    let p : Nat × List Byte × Nat × Nat :=
      if !c.formed then (if rd d K.x1640_RESTART_CAUSE = 2 then (5, [], 0, 0) else (1, [], 0, 0))
      else if !has || decide (leAt rec_ 68 4 < c.startSeq) then (5, [], 0, 0)
      else if bitAt (leAt rec_ 64 1) e then
        (2, sha256 rec_, if lost then leAt entry 0 8 else 2 ^ 64 - 1, if lost then leAt entry 8 8 else 2 ^ 64 - 1)
      else (3, [], 0, 0)
    let kept := c.pending.any fun x => x.1 == 5
    modChain e (fun c => { c with epoch := d.ev.epoch, pending := if kept then c.pending else some p }) d) d

end Sys2Proof.Machine
end

