-- ==== Sys2Proof/Machine/Plan.lean ====
section
/-! DEFINITION. What a configuration asks for (02, 03, 06): staged values put in place, timing domains, lenders, the scalers of
each compositor's pool and the AUTO_TAPS reduction. -/

namespace Sys2Proof.Machine

/-! ## Configurations (R113) -/

/-- The block with a staged value in its entry. -/
def putValue (x : Staged) (d : Dev) : Dev :=
  match rowOf x.key with
  | some r => if r.ty.isBody then wrB x.key x.val d else wr x.key (leNat x.val) d
  | none => d

/-- The block with some staged values in place. -/
def putValues (l : List Staged) (d : Dev) : Dev := forAll l putValue d

/-- The configuration that stands after every ARMED commit has applied (R113). -/
def standing (d : Dev) : Dev :=
  forAll (d.ctl.commits.filter fun c => c.phase == 2) (fun c => putValues (c.left.map (·.2)))
    (putValues (d.ctl.lenders.map (·.2.2)) d)

/-! ## Timing domains (R117) -/

/-- The generator that output `p` follows: that of the first member of its assembly (R289). -/
def outTg (d : Dev) (p : Nat) : Nat := routeTg d (outFirst d p)

/-- The users of colour pipeline `n`: outputs by number, layers from 0x100 on (R352). -/
def colourUsers (d : Dev) (n : Nat) : List Nat :=
  ((List.range 128).filter fun p => outputOn d p && hasColour d p && rd d (K.oc_COLOUR_PIPE p) == n) ++
  (((List.range 576).filter fun k => on d (K.ly_L_ENABLE k) && rd d (K.ly_COLOUR_PIPE k) == n).map (0x100 + ·))

/-- The generator of a colour pipeline's users, none without users (R350). -/
def colourTg (d : Dev) (n : Nat) : Option Nat := ((colourUsers d n).head?).map (userTg d)

/-- The first ports of the transmit assemblies of quad `q`. -/
def quadOutputs (d : Dev) (q : Nat) : List Nat :=
  ((List.range 4).map (4 * q + ·)).filter fun p => (txAssembly d p).isSome && outFirst d p == p

/-- The domain of entry `k` in a configuration: 0 to 7 a generator, 8 INPUT, 9 CHIP (R117). -/
def domainOf (d : Dev) (k : Nat) : Nat :=
  let i := k / 256
  if 0x1440 ≤ i ∧ i < 0x1448 then i - 0x1440
  else if 0x1450 ≤ i ∧ i < 0x1458 then i - 0x1450
  else if 0x1840 ≤ i ∧ i < 0x1848 then compTg d (64 + (i - 0x1840))
  else if (0x2000 ≤ i ∧ i < 0x2080) ∨ (0x2400 ≤ i ∧ i < 0x2480) ∨ (0x3410 ≤ i ∧ i < 0x3420) ∨ (0x3500 ≤ i ∧ i < 0x3580) then 8
  else if 0x2080 ≤ i ∧ i < 0x2100 then outTg d (i - 0x2080)
  else if 0x2200 ≤ i ∧ i < 0x2220 then
    (if k % 256 = 1 then 8 else outTg d ((quadOutputs d (i - 0x2200)).headD (4 * (i - 0x2200))))
  else if 0x2800 ≤ i ∧ i < 0x2848 then compTg d (i - 0x2800)
  else if 0x2900 ≤ i ∧ i < 0x2B40 then compTg d ((i - 0x2900) / 8)
  else if 0x2C00 ≤ i ∧ i < 0x2C48 then compTg d (i - 0x2C00)
  else if 0x3020 ≤ i ∧ i < 0x3040 then
    (let a := rd d (K.frc_ATTACH (i - 0x3020)); if a = 0xFFFF then 9 else attachTg d a)
  else if 0x3040 ≤ i ∧ i < 0x3080 then (colourTg d (i - 0x3040)).getD 9
  else if 0x3080 ≤ i ∧ i < 0x3100 then routeTg d (i - 0x3080)
  else if 0x3430 ≤ i ∧ i < 0x3438 then compTg d (64 + (i - 0x3430))
  else if 0x3580 ≤ i ∧ i < 0x3600 then routeTg d (i - 0x3580)
  else if 0x4000 ≤ i ∧ i < 0x4080 then routeTg d (i - 0x4000)
  else 9

/-! ## Failing checks (R126) -/

/-- A failing check: INDEX, SUB, REASON, DETAIL. -/
structure Fail where
  index : Nat
  sub : Nat
  reason : Nat
  detail : Nat
  deriving DecidableEq, Repr

/-- RANGE on an entry. -/
def rangeOn (k : Nat) : Fail := ⟨k / 256, k % 256, 5, 0⟩

/-- An admission reason (R179). -/
def admFail (reason detail : Nat) : Fail := ⟨0xFFFF, 0xFF, reason, detail⟩

/-- `f` where `c` holds. -/
def failIf (c : Bool) (f : Fail) : List Fail := if c then [f] else []

/-! ## Lenders (R317 to R320) -/

/-- Is layer position `k` enabled, by its own or its gang's lead's layer (R417)? -/
def positionOn (d : Dev) (k : Nat) : Bool := on d (K.ly_L_ENABLE (leadOf d (k / 8) * 8 + k % 8))

/-- Does output `p` borrow a scaler? -/
def borrows (d : Dev) (p : Nat) : Bool := outputOn d p && hasScale d p

/-- The position lent to output `p` in a configuration. -/
def lentTo (d : Dev) (p : Nat) : Option Nat :=
  if borrows d p && rd d (K.oc_LENDER_USED p) != 0xFFFF then some (rd d (K.oc_LENDER_USED p)) else none

/-- The positions lent in a configuration. -/
def lentPositions (d : Dev) : List Nat := (List.range 128).filterMap (lentTo d)

/-- The order in which automatic lenders of a region are tried (R318). -/
def lenderOrder (r : Nat) : List Nat :=
  (List.range 16).flatMap fun i => (List.range 8).map fun l => (16 * r + 15 - i) * 8 + (7 - l)

/-- May position `k` be lent to output `p`, beside the positions in `taken`? -/
def mayLend (d : Dev) (taken : List Nat) (p k : Nat) : Bool :=
  decide (k < 512) && k / 128 == regionOfPort p && !positionOn d k && !taken.contains k

/-- The explicit lenders, none of which another output names, then the standing automatic ones, then new ones in port order: (output, position), with the failures of
R317 and R318. -/
def chooseLenders (d0 d1 : Dev) : List (Nat × Nat) × List Fail :=
  let ps := (List.range 128).filter (borrows d1)
  let explicit := ps.filter fun p => rd d1 (K.oc_LENDER p) != 0xFFFF
  let auto := ps.filter fun p => rd d1 (K.oc_LENDER p) == 0xFFFF
  let ok (p : Nat) : Bool :=
    mayLend d1 ((explicit.filter (· != p)).map fun x => rd d1 (K.oc_LENDER x)) p (rd d1 (K.oc_LENDER p))
  let named := ((explicit.filter ok).map fun p => (p, rd d1 (K.oc_LENDER p)),
    (explicit.filter fun p => !ok p).map fun p => rangeOn (K.oc_LENDER p))
  let kept := auto.foldl (fun (a : List (Nat × Nat)) p =>
    match lentTo d0 p with
    | some k => if mayLend d1 (a.map (·.2)) p k then (p, k) :: a else a
    | none => a) named.1
  (auto.filter fun p => kept.all fun x => x.1 != p).foldl (fun (a : List (Nat × Nat) × List Fail) p =>
    match (lenderOrder (regionOfPort p)).find? (mayLend d1 (a.1.map (·.2)) p) with
    | some k => ((p, k) :: a.1, a.2)
    | none => (a.1, admFail 0x10D p :: a.2)) (kept, named.2)

/-- LENDER_USED of every output after a choice, where it differs from the configuration. -/
def lenderItems (d1 : Dev) (l : List (Nat × Nat)) : List Staged :=
  (List.range 128).filterMap fun p =>
    let v := ((l.find? fun x => x.1 == p).map (·.2)).getD 0xFFFF
    if v = rd d1 (K.oc_LENDER_USED p) then none else some { key := K.oc_LENDER_USED p, val := natLE 2 v }

/-- Layers enabled by the commit on a position that is or was lent, or that an output names in [oc:10] (R317, R319, R417). -/
def lentEnables (d0 d1 : Dev) : List Fail :=
  let named := ((List.range 128).filter (borrows d1)).map fun p => rd d1 (K.oc_LENDER p)
  let lent := lentPositions d0 ++ lentPositions d1 ++ named
  (List.range 576).flatMap fun k =>
    failIf (!on d0 (K.ly_L_ENABLE k) && on d1 (K.ly_L_ENABLE k) &&
      (members d1 (k / 8)).any fun m => lent.contains (m * 8 + k % 8)) (rangeOn (K.ly_L_ENABLE k))

/-! ## Scalers in a pool (R156, R157, R418) -/

/-- A scaler that counts in a compositor's pool: its compositor and position, its user (an output, or a layer from 0x100 on), the
domain it is charged to and the RATE code of its output, the crop, the destination, the part of the destination it handles
(columns a to b, lines c to e; none: all of it), the taps and pre-decimation in force, AUTO_TAPS, twice the bytes per
pixel of what it fetches, and the pixels it fetches where that is not its source part (R379). -/
structure ScalerUse where
  comp : Nat
  pos : Nat
  user : Nat
  dom : Nat
  rate : Nat
  cropW : Nat
  cropH : Nat
  dstW : Nat
  dstH : Nat
  part : Option (Nat × Nat × Nat × Nat)
  taps : Nat
  predec : Nat
  auto : Bool
  fetchB2 : Nat
  fetchPx : Option Nat
  deriving DecidableEq, Repr

/-- The quotient rounded up. -/
def ceilDiv (a b : Nat) : Nat := (a + b - 1) / b

/-- Pixels per second of an area at a RATE code, rounded up (R148). -/
def pxRate (area r : Nat) : Nat := ceilDiv (area * (rateFrac r).1) (rateFrac r).2

/-- Is the user scaled vertically (R338)? -/
def ScalerUse.vertical (u : ScalerUse) : Bool := hEff u.cropH u.predec != u.dstH

def ScalerUse.srcCols (u : ScalerUse) : Nat :=
  match u.part with
  | none => u.cropW
  | some (a, b, _, _) => let s := sourceSpan u.cropW u.dstW 3 4 1 a b; s.2 + 1 - s.1

def ScalerUse.srcRows (u : ScalerUse) : Nat :=
  match u.part with
  | none => u.cropH
  | some (_, _, c, e) => let s := sourceSpan u.cropH u.dstH (u.taps / 2 - 1) (u.taps / 2) u.predec c e; s.2 + 1 - s.1

def ScalerUse.dstArea (u : ScalerUse) : Nat :=
  match u.part with
  | none => u.dstW * u.dstH
  | some (a, b, c, e) => (b + 1 - a) * (e + 1 - c)

/-- Entries of the line-buffer pool (R157, R338). -/
def ScalerUse.need (u : ScalerUse) : Nat :=
  let h := hEff u.cropH u.predec
  u.srcCols * (if h = u.dstH then 2 else u.taps + (if u.dstH < h then ceilDiv h u.dstH else 1))

/-- Pixels per second of the scaler (R156). -/
def ScalerUse.px (u : ScalerUse) : Nat := pxRate (max (u.srcCols * u.srcRows) u.dstArea) u.rate

/-- Twice the bytes per pixel of a packing (R149). -/
def packB2 (packing : Nat) : Nat := if packing = 0 then 9 else 10

/-- Twice the bytes per pixel of what a reader of a source fetches; a converter's ring takes the source's place (R321). -/
def sourceB2 (d : Dev) (kind id attach : Nat) : Nat :=
  if kind ≠ 1 ∧ kind ≠ 2 then 0
  else match convOf d attach with
    | some f => packB2 (rd d (K.frc_FRC_PACKING f))
    | none => if kind = 1 then packB2 (rd d (K.ip_PACKING id)) else packB2 (rd d (K.cmp_OUT_PACKING (leadOf d id)))

/-- The rectangle of the raster that compositor `n` produces: a quadrant in a gang (R415). -/
def compBox (d : Dev) (n : Nat) : Nat × Nat × Nat × Nat :=
  let (w, h) := compRaster d n
  if (members d (leadOf d n)).length = 4 then (n % 4 % 2 * (w / 2), n % 4 / 2 * (h / 2), w / 2, h / 2) else (0, 0, w, h)

/-- The part of a destination within a box, relative to the destination: none when they do not meet. -/
def boxPart (s : ScaleSet) (b : Nat × Nat × Nat × Nat) : Option (Nat × Nat × Nat × Nat) :=
  let (bx, by_, bw, bh) := b
  let x0 := max s.dstX bx
  let x1 := Nat.min (s.dstX + s.dstW) (bx + bw)
  let y0 := max s.dstY by_
  let y1 := Nat.min (s.dstY + s.dstH) (by_ + bh)
  if x0 < x1 ∧ y0 < y1 then some (x0 - s.dstX, x1 - 1 - s.dstX, y0 - s.dstY, y1 - 1 - s.dstY) else none

/-- The scaler of layer `l` of the lead of compositor `n` as `n` runs it; none for a layer that fetches nothing (R379, R416). -/
def layerUse (d : Dev) (n l : Nat) : Option ScalerUse :=
  let lead := leadOf d n
  let k := lead * 8 + l
  let kind := rd d (K.ly_SRC_KIND k)
  if kind = 0 ∨ kind = 3 then none
  else
    let (w, h) := compRaster d n
    let s := layerScale d k w h
    let gang := (members d lead).length == 4
    let g := compTg d n
    let sw := orRest (rd d (K.ly_SRC_W k)) w 0
    let sh := orRest (rd d (K.ly_SRC_H k)) h 0
    (boxPart s (compBox d n)).map fun part => {
      comp := n, pos := l, user := 0x100 + k, dom := g, rate := fmtRate (tgFormat d g)
      cropW := s.cropW, cropH := s.cropH, dstW := s.dstW, dstH := s.dstH
      part := if gang then some part else none, taps := rd d (K.ly_V_TAPS k), predec := 1
      auto := on d (K.ly_AUTO_TAPS k)
      fetchB2 := if kind = 4 then (if rd d (K.ly_GFX_FORMAT k) = 0 then 8 else 10)
        else sourceB2 d kind (rd d (K.ly_SRC_ID k)) (0x100 + k)
      fetchPx := if kind = 4 && !gang then some (sw * sh) else none }

/-- The scaler of output `p` on the position lent to it (R22, R321, R342, R852). -/
def routeUse (d : Dev) (p k : Nat) : ScalerUse :=
  let g := routeTg d p
  let (w, h) := rasterSize (fmtRaster (tgFormat d g))
  let s := routeScale d p w h
  { comp := k / 8, pos := k % 8, user := p, dom := g, rate := fmtRate (tgFormat d g)
    cropW := s.cropW, cropH := if rd d (K.oc_SCAN_CONV p) = 3 then s.cropH / 2 else s.cropH
    dstW := s.dstW, dstH := s.dstH, part := none, taps := rd d (K.oc_V_TAPS p), predec := 1
    auto := on d (K.oc_AUTO_TAPS p)
    fetchB2 := sourceB2 d (rd d (K.route_SOURCE_KIND p)) (rd d (K.route_SOURCE_ID p)) p
    fetchPx := none }

/-- The scalers in the pool of compositor `n`, as configured. -/
def usesOf (d : Dev) (n : Nat) : List ScalerUse :=
  ((enabledLayers d (leadOf d n)).filterMap (layerUse d n)) ++
  ((List.range 128).filterMap fun p => match lentTo d p with
    | some k => if k / 8 = n then some (routeUse d p k) else none
    | none => none)

/-! ## AUTO_TAPS (R339) -/

/-- Entries of the line-buffer pool of a compositor. -/
def lbPool : Nat := 196608

/-- The need of compositor `n` in a list of scalers. -/
def poolNeed (l : List ScalerUse) (n : Nat) : Nat := (l.filter fun u => u.comp == n).foldl (fun a u => a + u.need) 0

/-- May the user be reduced further? -/
def ScalerUse.reducible (u : ScalerUse) : Bool :=
  u.auto && u.vertical &&
    (decide (2 < u.taps) || (decide (u.predec < 8) && decide (u.dstH ≤ ceilDiv (hEff u.cropH u.predec) 2)))

/-- One reduction. -/
def ScalerUse.reduce (u : ScalerUse) : ScalerUse :=
  if 2 < u.taps then { u with taps := u.taps - 2 } else { u with predec := 2 * u.predec }

/-- The user to reduce: the largest need, on a tie the highest position. -/
def pickReduce (l : List ScalerUse) : Option ScalerUse :=
  l.foldl (fun a u => match a with
    | none => some u
    | some b => if b.need < u.need ∨ (b.need = u.need ∧ b.pos < u.pos) then some u else some b) none

/-- The procedure of R339 over the pools of `ns`, a compositor or the members of a gang, which keep one setting for each layer
(R416); the answer also holds the compositors whose pool stays too small. -/
def reduceTaps : Nat → List Nat → List ScalerUse → List Nat × List ScalerUse
  | 0, _, l => ([], l)
  | fuel + 1, ns, l =>
    match ns.find? fun n => decide (lbPool < poolNeed l n) with
    | none => ([], l)
    | some n =>
      match pickReduce (l.filter fun u => u.comp == n && u.reducible) with
      | none =>
        let r := reduceTaps fuel (ns.filter (· != n)) l
        (n :: r.1, r.2)
      | some v => reduceTaps fuel ns (l.map fun u => if u.user == v.user then u.reduce else u)

/-- The scalers of a compositor, or of all members of a gang, after the reduction. -/
def groupPlan (d : Dev) (lead : Nat) : List Nat × List ScalerUse :=
  let ns := members d lead
  reduceTaps 256 ns (ns.flatMap (usesOf d))

/-- All scalers of a configuration after the reduction, with the compositors whose pool is too small. -/
def scalerPlan (d : Dev) : List Nat × List ScalerUse :=
  ((List.range 72).filter fun n => leadOf d n == n).foldl (fun a n =>
    let r := groupPlan d n
    (a.1 ++ r.1, a.2 ++ r.2)) ([], [])

end Sys2Proof.Machine
end

