-- ==== Sys2Proof/Machine/Admission.lean ====
section
/-! DEFINITION. Admission (03): the charges of a configuration, the limits, final and transitional sums, pages, and the
reports of the reservation. -/

namespace Sys2Proof.Machine

/-! ## Charges (R150 to R159) -/

/-- A charge: its resource, named by the reason and detail of R179 (0x10B counts mW, 0 counts pages), its timing domain and its
amount. -/
structure Charge where
  res : Nat
  det : Nat
  dom : Nat
  amt : Nat
  deriving DecidableEq, Repr

/-- MB/s of a pixel rate at `b2` half bytes per pixel (R149). -/
def mbps (px b2 : Nat) : Nat := ceilDiv (px * b2) 2000000

/-- Traffic of one block: its fabric port, its direction (0 toward memory, 1 from memory) (R153). -/
def portCharge (dom dir port mb : Nat) : Charge := ⟨0x104, dir * 256 + port, dom, mb⟩

/-- Memory traffic of a class (0 RT-OUT, 1 RT-IN, 2 RT-EV): the class, the sum, the port and the region's uplinks (R150, R153). -/
def memCharge (dom cls dir port mb : Nat) : List Charge :=
  [⟨0x102, cls, dom, mb⟩, ⟨0x101, 0, dom, mb⟩, portCharge dom dir port mb, ⟨0x105, dir * 256 + port / 32, dom, mb⟩]

/-- Reserved power (R159). -/
def powerCharge (dom mw : Nat) : Charge := ⟨0x10B, 0, dom, mw⟩

/-- Pages (R562). -/
def pageCharge (dom n : Nat) : Charge := ⟨0, 0, dom, n⟩

/-- The fabric port of the port block of port `p` (R155). -/
def pbPort (p : Nat) : Nat := p / 32 * 32 + p % 32 / 8

/-- The fabric port of compositor `n` (R154, R155). -/
def compPort (n : Nat) : Nat := if n < 64 then n / 16 * 32 + 4 + n % 16 / 2 else (n - 64) / 2 * 32 + 12 + n % 2

/-- The fabric port of converter `f`. -/
def frcPort (f : Nat) : Nat := f / 8 * 32 + 14 + f % 8

/-- The largest pixel rate of an SDI rate class 1 to 6 (R151). -/
def rhoMax : Nat → Nat
  | 1 => 10497600
  | 2 => 62208000
  | 3 => 124416000
  | 4 => 248832000
  | 5 => 497664000
  | 6 => 995328000
  | _ => 0

/-- The pixel rate an input pipeline is charged at (R151, R213, R252). -/
def inputRho (d : Dev) (p : Nat) : Nat :=
  if (tieOf d p).isSome then rhoMax 6
  else match rxAssembly d p with
    | some ms => ms.length * rhoMax (mlRate (rd d (K.ml_RX_ML_MODE (p / 4))))
    | none => rhoMax (topRate d p)

/-- Power of a receiver or transmitter by its rate class in mW (R159). -/
def laneMw : Nat → Nat
  | 1 => 60
  | 2 => 80
  | 3 => 95
  | 4 => 110
  | 5 => 128
  | 6 => 160
  | _ => 0

/-- Receivers, tie lanes and input pipelines (R150, R151, R159, R252, R272). -/
def inputCharges (d : Dev) (p : Nat) : List Charge :=
  let tied := (tieOf d p).isSome
  let rho := inputRho d p
  let packing := rd d (K.ip_PACKING p)
  let (w, h) := slotRaster d p
  (if tied then [powerCharge 9 320] else if on d (K.rx_RX_ENABLE p) then [powerCharge 8 (laneMw (topRate d p))] else []) ++
  (if on d (K.ip_IP_ENABLE p) then
    memCharge 8 1 0 (pbPort p) (mbps rho (packB2 packing)) ++
      [powerCharge 8 (ceilDiv (20000000000 + 195 * rho) 1000000000),
       pageCharge 8 (rd d (K.ip_STORE_DEPTH p) * slotPages w h packing)]
   else [])

/-- Guaranteed shares and windows of function `f` (R158, R159, R562). -/
def functionCharges (d : Dev) (f : Nat) : List Charge :=
  let a := rd d (K.fn_GUAR_D2H_MBPS f)
  let b := rd d (K.fn_GUAR_H2D_MBPS f)
  [⟨0x103, 0, 9, a⟩, ⟨0x103, 1, 9, b⟩, powerCharge 9 (ceilDiv (20 * a) 1000), powerCharge 9 (ceilDiv (20 * b) 1000),
   pageCharge 9 (rd d (K.dom_WINDOW_PAGES f))]

/-- Does the route of output `p` use the direct path (R23, R288, R321)? -/
def directPath (d : Dev) (p : Nat) : Bool :=
  let n := rd d (K.route_SOURCE_ID p)
  rd d (K.route_SOURCE_KIND p) == 2 && decide (n < 64) && regionOfComp n == regionOfPort p && compTg d n == routeTg d p &&
    !hasScale d p && !hasConv d p

/-- An output's transmitters and its read without a scale stage (R150, R152, R153, R159). -/
def outputCharges (d : Dev) (p : Nat) : List Charge :=
  let g := outTg d p
  let f := tgFormat d (routeTg d p)
  let (w, h) := rasterSize (fmtRaster f)
  let kind := rd d (K.route_SOURCE_KIND p)
  let n := rd d (K.route_SOURCE_ID p)
  let b2 := sourceB2 d kind n p
  (if (tieOf d p).isNone ∧ on d (K.tx_TX_ENABLE p) then [powerCharge g (laneMw (rd d (K.tx_TX_RATE p) % 16))] else []) ++
  (if !outputOn d p || hasScale d p || b2 == 0 then []
   else if directPath d p then
     portCharge g 1 (pbPort p) (mbps (pxRate (w * h) (fmtRate f)) b2) ::
       (members d (leadOf d n)).map fun m =>
         let (_, _, bw, bh) := compBox d m
         portCharge g 0 (compPort m) (mbps (pxRate (bw * bh) (fmtRate f)) b2)
   else memCharge g 0 1 (pbPort p) (mbps (pxRate (w * h) (fmtRate f)) b2))

/-- The blend charge of compositor `n` (R156, R418). -/
def blendRate (d : Dev) (n : Nat) : Nat :=
  let lead := leadOf d n
  let (w, h) := compRaster d n
  let box := compBox d n
  let (_, _, bw, bh) := box
  let dst := (enabledLayers d lead).foldl (fun a l => a + match boxPart (layerScale d (lead * 8 + l) w h) box with
    | some (x0, x1, y0, y1) => (x1 + 1 - x0) * (y1 + 1 - y0)
    | none => 0) 0
  pxRate (bw * bh + dst) (fmtRate (tgFormat d (compTg d n)))

/-- Does compositor `n` compose: has its lead an enabled layer? -/
def composes (d : Dev) (n : Nat) : Bool := enabledLayers d (leadOf d n) != []

/-- The pages that E(n − 64) holds: its pool, or while it has no enabled layer the pages of frames not exported (R448, R562). -/
def evidencePages (d : Dev) (n : Nat) : Nat :=
  if enabledLayers d n != [] then 16 * rd d (K.ec_EV_POOL_MIB (n - 64))
  else (chain d (n - 64)).pool.length + (chain d (n - 64)).area.length

/-- A compositor's blending, writing and power; `us` are the scalers in its pool (R150, R156, R159, R415, R418). -/
def compCharges (d : Dev) (us : List ScalerUse) (n : Nat) : List Charge :=
  let g := compTg d n
  let f := tgFormat d g
  let (_, _, bw, bh) := compBox d n
  let (w, h) := compRaster d n
  let sc := us.foldl (fun a u => a + u.px) 0
  let packing := rd d (K.cmp_OUT_PACKING (leadOf d n))
  let area := pxRate (bw * bh) (fmtRate f)
  if composes d n then
    let blend := blendRate d n
    [⟨0x106, n, g, blend⟩, powerCharge g (ceilDiv (6000000000 + 6 * blend + 2 * sc) 100000000)] ++
      (if n < 64 then memCharge g 0 0 (compPort n) (mbps area (packB2 packing)) ++
          (if leadOf d n = n then [pageCharge g (4 * slotPages w h packing)] else [])
       else memCharge g 2 0 (compPort n) (mbps area 9) ++ [pageCharge g (evidencePages d n)])
  else [powerCharge g (ceilDiv (2 * sc) 100000000)] ++ (if n < 64 then [] else [pageCharge g (evidencePages d n)])

/-- A scaler's time, line buffers and fetch (R150, R156, R157, R321). -/
def useCharges (u : ScalerUse) : List Charge :=
  [⟨0x107, u.comp * 8 + u.pos, u.dom, u.px⟩, ⟨0x108, u.comp, u.dom, u.need⟩] ++
    (if u.fetchB2 = 0 then []
     else memCharge u.dom 0 1 (compPort u.comp) (mbps (pxRate (u.fetchPx.getD (u.srcCols * u.srcRows)) u.rate) u.fetchB2))

/-- Frames read by a converter per output frame, in quarters (R150), and its power in mW per 10^7 px/s (R159). -/
def convQuarters (mode : Nat) : Nat := if mode = 0 then 4 else if mode = 1 then 8 else 9

def convMw (mode : Nat) : Nat := if mode = 0 then 1 else if mode = 1 then 6 else 20

/-- Working size of converter `f` (R354). -/
def convSize (d : Dev) (f : Nat) : Nat × Nat :=
  let q := attachWant d (rd d (K.frc_ATTACH f)) d.now
  (q.w, q.h)

/-- A converter (R150, R156, R159); its ring has four slots (log entry 15). -/
def convCharges (d : Dev) (f : Nat) : List Charge :=
  let a := rd d (K.frc_ATTACH f)
  if a = 0xFFFF then []
  else
    let (w, h) := convSize d f
    let g := attachTg d a
    let mode := rd d (K.frc_FRC_MODE f)
    let packing := rd d (K.frc_FRC_PACKING f)
    let px := pxRate (w * h) (fmtRate (tgFormat d g))
    memCharge g 0 1 (frcPort f) (ceilDiv (px * packB2 packing * convQuarters mode) 8000000) ++
      memCharge g 0 0 (frcPort f) (mbps px (packB2 packing)) ++
      [⟨0x109, f, g, px⟩, powerCharge g (ceilDiv (convMw mode * px) 10000000), pageCharge g (4 * slotPages w h packing)] ++
      (if mode = 2 then [⟨0x10A, 0, g, px⟩] else [])

/-- Pixels per second that a user sends through its colour pipeline (R352). -/
def colourPxOf (d : Dev) (u : Nat) : Nat :=
  let r := fmtRate (tgFormat d (userTg d u))
  if u < 0x100 then
    (let (w, h) := rasterSize (fmtRaster (tgFormat d (routeTg d u))); pxRate (w * h) r)
  else
    let (w, h) := compRaster d ((u - 0x100) / 8)
    let s := layerScale d (u - 0x100) w h
    pxRate (s.dstW * s.dstH) r

/-- A colour pipeline in use (R159). -/
def colourCharges (d : Dev) (n : Nat) : List Charge :=
  match colourTg d n with
  | none => []
  | some g => [powerCharge g (ceilDiv ((colourUsers d n).foldl (fun a u => a + colourPxOf d u) 0) 100000000)]

/-- The largest plane of the enabled layers that name queue `q`, in bytes (R604). -/
def planeBytes (d : Dev) (k : Nat) : Nat :=
  let (w, h) := compRaster d (k / 8)
  orRest (rd d (K.ly_SRC_W k)) w 0 * orRest (rd d (K.ly_SRC_H k)) h 0 * (if rd d (K.ly_GFX_FORMAT k) = 0 then 4 else 5)

/-- The enabled GRAPHICS layers. -/
def graphicsLayers (d : Dev) : List Nat :=
  (List.range 576).filter fun k => on d (K.ly_L_ENABLE k) && rd d (K.ly_SRC_KIND k) == 4

/-- Slot size of the plane ring of queue `q`, in whole pages (R604). -/
def planePages (d : Dev) (q : Nat) : Nat :=
  ceilDiv (((graphicsLayers d).filter fun k => rd d (K.ly_SRC_ID k) == q).foldl (fun a k => max a (planeBytes d k)) 0) 65536

/-- The plane rings: each counts in the domain of the first layer that names it (R560, R604). -/
def planeCharges (d : Dev) : List Charge :=
  ((graphicsLayers d).foldl (fun (a : List (Nat × Nat)) k =>
    let q := rd d (K.ly_SRC_ID k)
    if a.any fun x => x.1 == q then a else (q, compTg d (k / 8)) :: a) []).map fun x => pageCharge x.2 (4 * planePages d x.1)

/-- All charges of a configuration. -/
def charges (d : Dev) : List Charge :=
  let us := (scalerPlan d).2
  (List.range 128).flatMap (inputCharges d) ++ (List.range 64).flatMap (functionCharges d) ++
    (List.range 128).flatMap (outputCharges d) ++ us.flatMap useCharges ++
    ((List.range 72).flatMap fun n => compCharges d (us.filter fun u => u.comp == n) n) ++
    (List.range 32).flatMap (convCharges d) ++ (List.range 64).flatMap (colourCharges d) ++ planeCharges d

/-! ## Sums and limits (R158, R163) -/

/-- Charges summed by resource and domain. -/
def tally (l : List Charge) : Tab Nat :=
  l.foldl (fun m c => tabMod 0 ((c.res * 65536 + c.det) * 16 + c.dom) (fun a => a + c.amt) m) []

/-- The final sum of a resource. -/
def sumOf (m : Tab Nat) (res det : Nat) : Nat :=
  (List.range 10).foldl (fun a g => a + tabGet 0 m ((res * 65536 + det) * 16 + g)) 0

/-- The transitional sum of a resource: each touched domain at the larger of before and after (R163). -/
def sumAcross (before after : Tab Nat) (touched res det : Nat) : Nat :=
  (List.range 10).foldl (fun a g =>
    let k := (res * 65536 + det) * 16 + g
    a + if bitAt touched g then max (tabGet 0 before k) (tabGet 0 after k) else tabGet 0 after k) 0

/-- Is one stack alone in service? -/
def singleStack (d : Dev) : Bool := bitAt (rd d K.x1C40_REDUCED) 0

/-- The limit of a resource (R158); the memory limits and the shares are half in single-stack mode. -/
def limitOf (single : Bool) (res det : Nat) : Nat :=
  let half (n : Nat) : Nat := if single then n / 2 else n
  match res with
  | 0x101 => half 1600000
  | 0x102 => half (if det = 0 then 1200000 else if det = 1 then 600000 else 64000)
  | 0x103 => half 200000
  | 0x104 => 44800
  | 0x105 => 537600
  | 0x106 => 6000000000
  | 0x107 => 6000000000
  | 0x108 => lbPool
  | 0x109 => 497664000
  | _ => 7962624000

/-- P_res of a memory sum and the items of R159. -/
def reservedPower (single : Bool) (mem items : Nat) : Nat :=
  35000 + (if single then 4000 else 8000) + ceilDiv (14 * mem) 1000 + items

/-- The allocatable pages (R561). -/
def pageLimit (d : Dev) : Nat := (if singleStack d then 256704 else 518848) - rd d K.x3800_RETIRED_PAGES

/-- The resources of two tallies, by reason and detail. -/
def resources (a b : Tab Nat) : List Nat :=
  ((a ++ b).map fun p => p.1 / 16).foldl (fun l k => if l.contains k then l else k :: l) []

/-- The limits of R158 and P_res, final and transitional (R144, R159, R162 to R164). -/
def limitFails (d1 : Dev) (before after : Tab Nat) (touched : Nat) : List Fail :=
  let single := singleStack d1
  let over_ (res det fin tr lim : Nat) : List Fail :=
    if lim < fin then [admFail res det] else failIf (decide (lim < tr)) (admFail res (det + 0x8000))
  ((resources before after).flatMap fun k =>
    let res := k / 65536
    let det := k % 65536
    if res = 0 ∨ res = 0x10B then []
    else over_ res det (sumOf after res det) (sumAcross before after touched res det) (limitOf single res det)) ++
  over_ 0x10B 0 (reservedPower single (sumOf after 0x101 0) (sumOf after 0x10B 0))
    (reservedPower single (sumAcross before after touched 0x101 0) (sumAcross before after touched 0x10B 0))
    (rd d1 K.x5101_ENVELOPE_MW)

/-- May an entry of the snapshot add pages (R562)? -/
def allocating (k : Nat) : Bool :=
  let i := k / 256
  let s := k % 256
  (decide (0x2000 ≤ i) && decide (i < 0x2080) && s == 2) ||
  (decide (0x2400 ≤ i) && decide (i < 0x2480) && decide (1 ≤ s) && decide (s ≤ 3)) ||
  (decide (0x2200 ≤ i) && decide (i < 0x2220) && s == 1) || (decide (0x2220 ≤ i) && decide (i < 0x2230) && s == 1) ||
  (decide (0x1440 ≤ i) && decide (i < 0x1448) && s == 1) ||
  (decide (0x2800 ≤ i) && decide (i < 0x2848) && (s == 1 || s == 2 || s == 7)) ||
  (decide (0x2900 ≤ i) && decide (i < 0x2B40) && [1, 2, 3, 0xA, 0xB, 0x19].contains s) ||
  (decide (0x1840 ≤ i) && decide (i < 0x1848) && s == 1) || (decide (0x3840 ≤ i) && decide (i < 0x3880) && s == 1) ||
  (decide (0x3020 ≤ i) && decide (i < 0x3040) && (s == 1 || s == 3)) ||
  (decide (0x3080 ≤ i) && decide (i < 0x3100) && (s == 1 || s == 2)) ||
  (decide (0x4000 ≤ i) && decide (i < 0x4080) && (s == 1 || s == 6))

/-- The pages of a configuration by domain. -/
def pageTally (d : Dev) : Tab Nat := tally ((charges d).filter fun c => c.res == 0)

/-- The allocating entries from the first whose pages exceed the limit on (R562): `l` ascending, `d` the configuration so far. -/
def pagesFrom (before : Tab Nat) (touched lim : Nat) : List Staged → Dev → List Fail
  | [], _ => []
  | x :: r, d =>
    let d := putValue x d
    let t := pageTally d
    if lim < max (sumOf t 0 0) (sumAcross before t touched 0 0) then (x :: r).map fun y => rangeOn y.key
    else pagesFrom before touched lim r d

/-- A list of staged values in ascending order of entry. -/
def insertStaged (x : Staged) : List Staged → List Staged
  | [] => [x]
  | y :: r => if x.key ≤ y.key then x :: y :: r else y :: insertStaged x r

def sortStaged (l : List Staged) : List Staged := l.foldl (fun a x => insertStaged x a) []

/-- The page count of R562: `d0` stands, `d1` would stand, `snap` are the values of the commit. -/
def pageFails (d0 d1 : Dev) (before after : Tab Nat) (touched : Nat) (snap : List Staged) : List Fail :=
  let lim := pageLimit d1
  if max (sumOf after 0 0) (sumAcross before after touched 0 0) ≤ lim then []
  else
    let alloc := sortStaged (snap.filter fun x => allocating x.key)
    pagesFrom before touched lim alloc (putValues (snap.filter fun x => !allocating x.key) d0)

/-! ## Low-latency routes and units (R146, R172, R300) -/

/-- A route that asks for low latency without the conditions of R172 and R300; I_TO_P scales vertically (R341). -/
def lowLatencyFails (d : Dev) (p : Nat) : List Fail :=
  let g := routeTg d p
  let f := tgFormat d g
  let n := rd d (K.route_SOURCE_ID p)
  let off := rd d (K.route_LL_OFFSET_LINES p)
  let (w, h) := rasterSize (fmtRaster f)
  let s := routeScale d p w h
  let ok := rd d (K.route_SOURCE_KIND p) == 1 && decide (n < 128) && rd d (K.tg_LOCK_SOURCE g) == 0x100 + n &&
    rd d (K.ip_EXPECT_FORMAT n) != 0 && rd d (K.ip_EXPECT_FORMAT n) / 65536 == f / 65536 &&
    !hasConv d p && (!hasScale d p || (s.cropH == s.dstH && rd d (K.oc_SCAN_CONV p) != 3)) &&
    decide (16 ≤ off) && decide (off ≤ rasterLines (fmtRaster f)) &&
    rd d (K.tg_PHASE_LINES g) == off && rd d (K.tg_PHASE_NS g) == 0
  failIf (rd d (K.route_ROUTE_MODE p) == 1 && !ok) (admFail 0x10C p)

/-- Does block `b` of [1012] or its region read DISABLED? -/
def blockOff (d : Dev) (b : Nat) : Bool :=
  rd d (0x1012 * 256 + b) == 3 || (regionOfBlock b).any fun r => rd d (K.x1011_REGION_STATE r) == 4

/-- Units in use that read DISABLED (R146). -/
def disabledFails (d : Dev) (us : List ScalerUse) : List Fail :=
  ((List.range 128).flatMap fun p =>
    failIf ((on d (K.rx_RX_ENABLE p) || on d (K.ip_IP_ENABLE p) || on d (K.tx_TX_ENABLE p) || (tieOf d p).isSome) &&
      blockOff d (blockOfPort p)) (admFail 0x10F p)) ++
  ((List.range 72).flatMap fun n =>
    failIf ((composes d n || us.any fun u => u.comp == n) && blockOff d (blockOfComp n)) (admFail 0x10F (0x100 + n))) ++
  ((List.range 32).flatMap fun f =>
    failIf (rd d (K.frc_ATTACH f) != 0xFFFF && rd d (K.x1011_REGION_STATE (f / 8)) == 4) (admFail 0x10F (0x200 + f)))

/-! ## Figures (R180, R181) -/

/-- The final RT sum and P_res of a tally. -/
def rtTotal (m : Tab Nat) : Nat := sumOf m 0x101 0

def pRes (d : Dev) (m : Tab Nat) : Nat := reservedPower (singleStack d) (rtTotal m) (sumOf m 0x10B 0)

/-- [5102] to [5104] report the reservation of the active configuration (R180). -/
def reportReservation (d : Dev) : Dev :=
  let m := tally (charges d)
  let us := (scalerPlan d).2
  let set : List (Nat × Nat) := [
    (K.x5102_RT_OUT_MBPS, sumOf m 0x102 0), (K.x5102_RT_IN_MBPS, sumOf m 0x102 1), (K.x5102_RT_EV_MBPS, sumOf m 0x102 2),
    (K.x5102_RT_TOTAL_MBPS, rtTotal m), (K.x5102_RT_LIMIT_MBPS, if singleStack d then 800000 else 1600000),
    (K.x5102_HOST_SHARE_D2H_MBPS, sumOf m 0x103 0), (K.x5102_HOST_SHARE_H2D_MBPS, sumOf m 0x103 1),
    (K.x5102_P_RESERVED_MW, pRes d m), (K.x5102_MOTION_PXPS, sumOf m 0x10A 0)] ++
    (List.range 4).map fun r => (K.x5102_UPLINK_TO_MEM_MBPS r, sumOf m 0x105 r)
  let d := set.foldl (fun d x => wr x.1 x.2 d) d
  forAll (List.range 72) (fun n d => wr (K.x5103_BLEND_KPXPS n) (ceilDiv (sumOf m 0x106 n) 1000)
    (wr (K.x5104_LB_USED n) (poolNeed us n) d)) d

end Sys2Proof.Machine
end

