-- ==== Sys2Proof/Machine/Rules.lean ====
section
/-! DEFINITION. The checks of VALIDATING (R112) that the chapters state for entries together: each gives the failing entries of
one object family in the configuration that would stand. -/

namespace Sys2Proof.Machine

/-! ## Ports and assemblies (04) -/

/-- The link kind of a transmit assembly in the table of R283. -/
def assemblyLink (m : Nat) : Nat :=
  if mlLayout m = 4 then 0x41 else if mlLayout m = 5 then 0x42 else if m % 2 = 0 then 0x40 else 0x43

/-- Receivers and transmitters (R204, R206, R213, R214, R283, R853). -/
def portFails (d : Dev) (p : Nat) : List Fail :=
  let f := tgFormat d (outTg d p)
  let m := rd d (K.route_OUT_MAPPING p)
  let rate := rd d (K.tx_TX_RATE p)
  let tied := (tieOf d p).isSome
  failIf (on d (K.rx_RX_ENABLE p) && !tied && (rxAssembly d p).isNone && rd d (K.rx_RATE_MASK p) == 0) (rangeOn (K.rx_RATE_MASK p)) ++
  failIf (isMember d p && on d (K.ip_IP_ENABLE p)) (rangeOn (K.ip_IP_ENABLE p)) ++
  failIf (on d (K.tx_TX_ENABLE p) && rate == 0) (rangeOn (K.tx_TX_RATE p)) ++
  (match txAssembly d p with
   | some ms =>
     if outFirst d p ≠ p then []
     else
       let mode := rd d (K.ml_TX_ML_MODE (p / 4))
       let link := mlRate mode
       let same (r : Nat) : Bool := ms.all fun x => rd d (K.tx_TX_RATE x) == r
       failIf (!(same link || same (link + 0x10)) || !carries (assemblyLink mode) rate f m) (rangeOn (K.tx_TX_RATE p))
   | none => failIf (on d (K.tx_TX_ENABLE p) && !tied && !carries rate rate f m) (rangeOn (K.tx_TX_RATE p)))

/-- Quads: the assemblies of one quad follow one generator (R216). -/
def quadFails (d : Dev) (q : Nat) : List Fail :=
  match (quadOutputs d q).map (routeTg d) with
  | g :: r => failIf (r.any (· != g)) (rangeOn (K.ml_TX_ML_MODE q))
  | [] => []

/-- A tie bundle that the commit enables (R239). -/
def tieFails (d0 d1 : Dev) (b : Nat) : List Fail :=
  let ports := (List.range 5).map (8 * b + ·)
  let bad (m : Nat) : Bool := [1, 3, 4, 5].contains (mlLayout m)
  failIf (!on d0 (K.tb_TIE_ENABLE b) && on d1 (K.tb_TIE_ENABLE b) &&
    ((ports.any fun p => on d1 (K.rx_RX_ENABLE p) || on d1 (K.tx_TX_ENABLE p)) ||
     mlLayout (rd d1 (K.ml_RX_ML_MODE (2 * b))) != 0 || mlLayout (rd d1 (K.ml_TX_ML_MODE (2 * b))) != 0 ||
     bad (rd d1 (K.ml_RX_ML_MODE (2 * b + 1))) || bad (rd d1 (K.ml_TX_ML_MODE (2 * b + 1))))) (rangeOn (K.tb_TIE_ENABLE b))

/-- Is a profile within its ranges (R218)? -/
def profileOk (b : List Byte) : Bool :=
  let v (i : Nat) : Nat := leAt b i 1
  let tap (i : Nat) : Bool := let x := sx 8 (v i); decide (-63 ≤ x) && decide (x ≤ 63)
  decide (v 0 ≤ 1) && decide (v 1 ≤ 15) && decide (v 2 ≤ 31) && [3, 4, 5, 6, 7].all tap && decide (8 ≤ v 8) && decide (v 8 ≤ 32) &&
    decide (v 9 ≤ 32) && decide (v 10 ≤ 15) && decide (v 11 ≤ 31) && decide (v 10 + v 11 ≤ 40) && leAt b 12 4 == 0

/-- Are the equalisation tables accepted (R217 to R220)? -/
def eqTablesOk (prof asg : List Byte) : Bool :=
  let n := leAt prof 6 2
  let valid (i : Nat) : Bool := decide (i < n) && bitAt (leAt prof (16 + 16 * i) 1) 0
  slice 0 4 prof == [0x45, 0x51, 0x54, 0x31] && leAt prof 4 2 == 1 && decide (1 ≤ n) && decide (n ≤ 16) &&
    prof.length == 16 + 16 * n && leAt prof 12 4 == 0 && leAt prof 8 4 == crc32c (prof.drop 16) &&
    ((List.range n).all fun i => profileOk (slice (16 + 16 * i) 16 prof)) && asg.length == 1024 &&
    asg.zipIdx.all fun (b, i) => if i % 8 = 7 then b == 0 else valid (b.toNat / 16) && valid (b.toNat % 16)

/-- A change of the equalisation tables (R220). -/
def eqFails (d0 d1 : Dev) : List Fail :=
  let changed (k : Nat) : Bool := rdB d0 k != rdB d1 k
  if eqTablesOk (rdB d1 K.x2120_EQ_PROFILES) (rdB d1 K.x2120_EQ_ASSIGN) then []
  else ([K.x2120_EQ_PROFILES, K.x2120_EQ_ASSIGN].filter changed).map rangeOn

/-! ## Timing generators (R278, R658) -/

/-- Does the alignment period of two rates exceed 1.001 s (R658)? -/
def alignTooLong (a b : Nat) : Bool :=
  let (n, m) := rateFrac a
  let (p, q) := rateFrac b
  decide (1001 * Nat.gcd n p < 1000 * Nat.lcm m q)

def tgFails (d : Dev) (g : Nat) : List Fail :=
  let f := tgFormat d g
  let ref := rd d K.x1410_REF_FRAME_RATE
  failIf (decide (rasterLines (fmtRaster f) ≤ rd d (K.tg_PHASE_LINES g))) (rangeOn (K.tg_PHASE_LINES g)) ++
  failIf (decide (linePeriod f < (rd d (K.tg_PHASE_NS g) + 1) * 1000)) (rangeOn (K.tg_PHASE_NS g)) ++
  failIf (rd d (K.tg_LOCK_SOURCE g) == 1 && ref != 0 && alignTooLong (fmtRate f) ref) (rangeOn (K.tg_LOCK_SOURCE g))

/-! ## Outputs (05, 06) -/

/-- Can an output or a layer of compositor `self` (none for an output) name this source (R287, R378, R419)? -/
def sourceOk (d : Dev) (kind id : Nat) : Bool :=
  match kind with
  | 0 => id == 0
  | 1 => decide (id < 128) && on d (K.ip_IP_ENABLE id) && !isMember d id
  | 2 => decide (id < 64) && leadOf d id == id && enabledLayers d id != []
  | 3 => decide (id < 4)
  | _ => false

/-- The geometry of a scaler (R322, R330, R331): `base` is the sub-index of CROP_X, `idx` the object. -/
def geometryFails (d : Dev) (idx base : Nat) (s : ScaleSet) (sw sh rw rh cropH predec taps : Nat) (fetch : Bool) : List Fail :=
  let at_ (i : Nat) : Fail := rangeOn (idx * 256 + base + i)
  let he := hEff cropH predec
  let setBad (n : Nat) : Bool := (decide (4096 < s.cropW) && decide (n < 0x20)) ||
    (decide (n < 0x20) && rd d (K.cs_SET_STATE n) == 0)
  failIf (s.dstW == 0 || decide (rw < s.dstX + s.dstW) || (fetch && (decide (16 * s.dstW < s.cropW) ||
    decide (16 * s.cropW < s.dstW)))) (at_ 6) ++
  failIf (s.dstH == 0 || decide (rh < s.dstY + s.dstH) || (fetch && (decide (16 * s.dstH < he) ||
    decide (16 * he < s.dstH)))) (at_ 7) ++
  (if !fetch then []
   else failIf (s.cropW == 0 || decide (sw < s.cropX + s.cropW)) (at_ 2) ++
     failIf (s.cropH == 0 || decide (sh < s.cropY + s.cropH)) (at_ 3) ++
     failIf (setBad s.hSet) (at_ 8) ++ failIf (setBad s.vSet || !vAvailable s.vSet taps) (at_ 9))

/-- An output's route and chain (R252, R286, R287, R316, R322, R330, R331, R343, R344); `us` are the scalers after AUTO_TAPS. -/
def outputFails (d : Dev) (us : List ScalerUse) (p : Nat) : List Fail :=
  let g := routeTg d p
  let f := tgFormat d g
  let (w, h) := rasterSize (fmtRaster f)
  let off := rd d (K.route_LL_OFFSET_LINES p)
  let kind := rd d (K.route_SOURCE_KIND p)
  let id := rd d (K.route_SOURCE_ID p)
  let cp := rd d (K.oc_COLOUR_PIPE p)
  let lit := outputOn d p
  failIf (decide (off < 16) || decide (rasterLines (fmtRaster f) < off)) (rangeOn (K.route_LL_OFFSET_LINES p)) ++
  failIf (lit && (!(kind != 4 && sourceOk d kind id) || ((tieOf d p).isSome &&
    decide (995328000 < pxRate (w * h) (fmtRate f))))) (rangeOn (K.route_SOURCE_ID p)) ++
  failIf (on d (K.oc_SCAN_CONV p) && (!hasScale d p || hasConv d p)) (rangeOn (K.oc_SCAN_CONV p)) ++
  failIf ((hasColour d p && cp == 0xFF) || (cp != 0xFF && cp / 16 != regionOfPort p)) (rangeOn (K.oc_COLOUR_PIPE p)) ++
  (if lit && hasScale d p then
     let s := routeScale d p w h
     let cropH := if rd d (K.oc_SCAN_CONV p) = 3 then s.cropH / 2 else s.cropH
     let k := ((us.find? fun u => u.user == p).map (·.predec)).getD 1
     geometryFails d (0x3080 + p) 4 s (orRest (rd d (K.oc_SRC_W p)) w 0) (orRest (rd d (K.oc_SRC_H p)) h 0) w h cropH k
       (rd d (K.oc_V_TAPS p)) true
   else [])

/-! ## Colour pipelines (R346, R347, R350) -/

/-- The signed 32-bit numbers of a matrix body. -/
def matrixOk (b : List Byte) : Bool :=
  b.length == 60 && (List.range 15).all fun i =>
    let v := sx 32 (leAt b (4 * i) 4)
    if i < 9 then decide (-524288 ≤ v) && decide (v ≤ 524287) else decide (-65535 ≤ v) && decide (v ≤ 65535)

/-- Are the entries of an output LUT at most 4095? -/
def outLutOk (b : List Byte) : Bool := (List.range 12288).all fun i => decide (leAt b (2 * i) 2 ≤ 4095)

def colourFails (d : Dev) (n : Nat) : List Fail :=
  let st := rd d (K.cp_STAGE_ENABLE n)
  let users := (colourUsers d n).map (userTg d)
  failIf (bitAt st 1 && (rdB d (K.cp_IN_LUT n)).length != 24576) (rangeOn (K.cp_IN_LUT n)) ++
  failIf (!matrixOk (rdB d (K.cp_MATRIX n))) (rangeOn (K.cp_MATRIX n)) ++
  failIf (bitAt st 3 && ((rdB d (K.cp_OUT_LUT n)).length != 24576 || !outLutOk (rdB d (K.cp_OUT_LUT n)))) (rangeOn (K.cp_OUT_LUT n)) ++
  failIf (users.any fun g => users.any (· != g)) (rangeOn (K.cp_STAGE_ENABLE n))

/-! ## Frame-rate converters (R316, R353, R360) -/

/-- The converters attached to `a`. -/
def convsAt (d : Dev) (a : Nat) : List Nat := (List.range 32).filter fun f => rd d (K.frc_ATTACH f) == a

/-- The region of an attachment. -/
def attachRegion (a : Nat) : Nat := if a < 0x100 then regionOfPort a else regionOfComp ((a - 0x100) / 8)

/-- Rate and scan that configuration fixes for a source: none when it fixes neither (R360). -/
def fixedSource (d : Dev) (kind id : Nat) : Option (Nat × Nat) :=
  if kind = 2 then let f := tgFormat d (compTg d id); some (fmtRate f, fmtScan f)
  else if kind = 1 ∧ rd d (K.ip_EXPECT_FORMAT id) ≠ 0 then
    let f := rd d (K.ip_EXPECT_FORMAT id); some (fmtRate f, fmtScan f)
  else none

/-- May BLEND or MOTION run from rate `a` to rate `b`: is the source period at most 1.25 output periods? -/
def periodFits (a b : Nat) : Bool :=
  decide (4 * ((rateFrac a).2 * (rateFrac b).1) ≤ 5 * ((rateFrac b).2 * (rateFrac a).1))

def convFails (d : Dev) (f : Nat) : List Fail :=
  let a := rd d (K.frc_ATTACH f)
  if a = 0xFFFF then []
  else
    let (kind, id) := attachSource d a
    failIf (attachRegion a != f / 8 || decide (1 < (convsAt d a).length) || (decide (a < 0x100) && !hasConv d a) ||
      (decide (0x100 ≤ a) && kind != 1 && kind != 2)) (rangeOn (K.frc_ATTACH f)) ++
    (if rd d (K.frc_FRC_MODE f) = 0 then []
     else
       failIf (match fixedSource d kind id with
         | some (r, sc) => sc == 1 || !periodFits r (fmtRate (tgFormat d (attachTg d a)))
         | none => true) (rangeOn (K.frc_FRC_MODE f)) ++
       failIf (decide (0x100 ≤ a) && decide (512 ≤ a - 0x100)) (admFail 0x110 ((a - 0x100) / 8)))

/-- An output whose chain asks for a converter that none is attached to: the entry named is that of the first converter of its
region (R353; log entry 30). -/
def convMissing (d : Dev) (p : Nat) : List Fail :=
  failIf (hasConv d p && convsAt d p == []) (rangeOn (K.frc_ATTACH (8 * regionOfPort p)))

/-! ## Compositors and layers (07) -/

/-- A gang or a raster that does not fit its compositor (R368, R414). -/
def gangFails (d : Dev) (n : Nat) : List Fail :=
  let (w, h) := compRaster d n
  let g := rd d (K.cmp_GANG_LEAD n)
  let mates := (List.range 4).map (n / 4 * 4 + ·)
  let rasters := fmtRaster (tgFormat d (compTg d n))
  if n < 64 ∧ g ≠ 0xFF then
    failIf (g != n / 4 * 4) (admFail 0x10E n) ++
    failIf (g == n / 4 * 4 && ((mates.any fun m => rd d (K.cmp_GANG_LEAD m) != g || compTg d m != compTg d n) ||
      (rasters != 8 && rasters != 9))) (admFail 0x10E (n / 4 * 4))
  else failIf (enabledLayers d n != [] && (decide (4096 < w) || decide (2160 < h))) (admFail 0x10E n)

/-- The compositors that the enabled layers of `n` read. -/
def readsComps (d : Dev) (n : Nat) : List Nat :=
  ((enabledLayers d n).filter fun l => rd d (K.ly_SRC_KIND (n * 8 + l)) == 2).map fun l => rd d (K.ly_SRC_ID (n * 8 + l))

/-- The compositors reached from some by `k` steps or fewer of reading. -/
def reached (d : Dev) : Nat → List Nat → List Nat
  | 0, l => l
  | k + 1, l =>
    let m := (l.flatMap (readsComps d)).foldl (fun (a : List Nat) x => if a.contains x then a else x :: a) l
    if m.length = l.length then l else reached d k m

/-- An enabled layer of a compositor that leads itself (R316, R322, R330, R331, R378, R382, R383, R385). -/
def layerFails (d : Dev) (us : List ScalerUse) (n l : Nat) : List Fail :=
  let k := n * 8 + l
  let (w, h) := compRaster d n
  let kind := rd d (K.ly_SRC_KIND k)
  let id := rd d (K.ly_SRC_ID k)
  let al := rd d (K.ly_ALPHA_SRC k)
  let srcOk := if kind = 4 then (queue d id).typ == 2 && (queue d id).target == 0x05000000 && (qFn d id).isSome
    else sourceOk d kind id && !(kind == 2 && (reached d 64 [id]).contains n)
  let packing := if kind = 1 then rd d (K.ip_PACKING id) else rd d (K.cmp_OUT_PACKING id)
  let fetch := kind == 1 || kind == 2 || kind == 4
  let s := layerScale d k w h
  let predec := ((us.find? fun u => u.user == 0x100 + k).map (·.predec)).getD 1
  failIf (!srcOk) (rangeOn (K.ly_SRC_ID k)) ++
  failIf ((al == 1 && kind != 4) || (al == 2 && !((kind == 1 || kind == 2) && packing == 1))) (rangeOn (K.ly_ALPHA_SRC k)) ++
  geometryFails d (0x2900 + k) 0xC s (orRest (rd d (K.ly_SRC_W k)) w 0) (orRest (rd d (K.ly_SRC_H k)) h 0) w h s.cropH predec
    (rd d (K.ly_V_TAPS k)) fetch

/-- A layer that names a colour pipeline of another region (R316). -/
def layerColourFails (d : Dev) (k : Nat) : List Fail :=
  let cp := rd d (K.ly_COLOUR_PIPE k)
  failIf (cp != 0xFF && cp / 16 != regionOfComp (k / 8)) (rangeOn (K.ly_COLOUR_PIPE k))

/-- The region definitions of a compositor (R435, R436). -/
def regionFails (d : Dev) (n : Nat) : List Fail :=
  let (w, h) := compRaster d n
  (List.range 16).flatMap fun i =>
    let r := regionDef d n i
    let b := rdB d (K.sr_REGION_DEF n i)
    if r.kind = 0 then []
    else
      let s := layerScale d (n * 8 + r.layer) w h
      let inside := decide (s.dstX ≤ r.x) && decide (r.x + r.w ≤ s.dstX + s.dstW) && decide (s.dstY ≤ r.y) &&
        decide (r.y + r.h ≤ s.dstY + s.dstH)
      failIf (r.w == 0 || r.h == 0 || decide (w < r.x + r.w) || decide (h < r.y + r.h) || r.kind == 3 || r.action == 3 ||
        r.trigger == 0 || (r.kind == 2 && (!on d (K.ly_L_ENABLE (n * 8 + r.layer)) || !inside)) ||
        (decide (64 ≤ n) && r.action != 0) || Nat.land r.mode 0x84 != 0 || decide (16 ≤ r.policy) || leAt b 11 5 != 0)
        (rangeOn (K.sr_REGION_DEF n i))

/-- The evidence pools (R449). -/
def poolFails (d0 d1 : Dev) : List Fail :=
  let on_ := (List.range 8).filter fun e => enabledLayers d1 (64 + e) != []
  let size (d : Dev) (e : Nat) : Nat := rd d (K.ec_EV_POOL_MIB e)
  let total := on_.foldl (fun a e => a + size d1 e) 0
  (on_.flatMap fun e =>
    let (w, h) := compRaster d1 (64 + e)
    failIf (decide (16 * size d1 e - 32 < 2 * slotPages w h 0)) (rangeOn (K.ec_EV_POOL_MIB e))) ++
  (if total ≤ (if singleStack d1 then 8192 else 16384) then []
   else (on_.filter fun e => enabledLayers d0 (64 + e) == [] || decide (size d0 e < size d1 e)).map fun e =>
     rangeOn (K.ec_EV_POOL_MIB e))

/-! ## Audio (R487, R492, R502, R534, R603) -/

/-- May a destination in `plane` name source code `c` (R486, R487)? -/
def audioNameOk (d : Dev) (plane c : Nat) : Bool :=
  if c < 0x1000 then plane == 0 && on d (K.ip_IP_ENABLE (c / 32)) && !isMember d (c / 32)
  else if c < 0x1020 then on d (K.ar_AR_ENABLE ((c - 0x1000) / 2)) && rd d (K.ar_PLANE ((c - 0x1000) / 2)) == plane
  else if 0x1400 ≤ c ∧ c < 0x1800 then on d (K.pb_PB_ENABLE ((c - 0x1400) / 32)) && rd d (K.pb_PLANE ((c - 0x1400) / 32)) == plane
  else true

def audioNames (d : Dev) (plane : Nat) (ks : List Nat) : List Fail :=
  ks.flatMap fun k => failIf (!audioNameOk d plane (rd d k)) (rangeOn k)

/-- A slice with more than 128 converters: the reserving entry of the highest index (R492). -/
def sliceFails (d : Dev) (s : Nat) : List Fail :=
  if srcReserved d s ≤ 128 then []
  else
    let ports := ((List.range 32).map (32 * s + ·)).filter fun p => on d (K.ea_SRC_MASK p)
    let tx := ((List.range 4).map (4 * s + ·)).filter (atConverts d)
    let rx := ((List.range 4).map (4 * s + ·)).filter fun a => on d (K.ar_SRC_RESERVE a)
    match ports.getLast?, tx.getLast?, rx.getLast? with
    | some p, _, _ => [rangeOn (K.ea_SRC_MASK p)]
    | none, some a, _ => [rangeOn (K.at_AT_RATE a)]
    | none, none, some a => [rangeOn (K.ar_SRC_RESERVE a)]
    | _, _, _ => []

/-- The enabled streams that name queues: key of the naming entry, the queue, the type it needs. -/
def streamQueues (d : Dev) : List (Nat × Nat × Nat) :=
  (((List.range 64).filter fun n => on d (K.cap_CAP_ENABLE n)).map fun n => (K.cap_QUEUE n, rd d (K.cap_QUEUE n), 3)) ++
  (((List.range 32).filter fun n => on d (K.pb_PB_ENABLE n)).map fun n => (K.pb_QUEUE n, rd d (K.pb_QUEUE n), 4))

/-- Streams and their queues: the type, one stream for each queue, and for an entry of the commit a queue of the writer's function
(R534, R603). A requester that is no function counts as the physical function (log entry 31). -/
def streamFails (d : Dev) (req : Nat) (snap : List Staged) : List Fail :=
  let l := streamQueues d
  let fn := if isPcie req then req else 0
  (l.flatMap fun (k, q, typ) =>
    failIf ((queue d q).typ != typ || (l.any fun (k', q', _) => k' != k && q' == q)) (rangeOn k)) ++
  (snap.flatMap fun x =>
    let i := x.key / 256
    let cap := decide (0x3440 ≤ i) && decide (i < 0x3480) && x.key % 256 == 2
    let pb := decide (0x3480 ≤ i) && decide (i < 0x34A0) && x.key % 256 == 2
    let q := rd d x.key
    failIf ((cap || pb) && ((queue d q).typ != (if cap then 3 else 4) || qFn d q != some fn)) (rangeOn x.key))

def audioFails (d : Dev) (req : Nat) (snap : List Staged) : List Fail :=
  ((List.range 128).flatMap fun p =>
    audioNames d 0 ((List.range 32).map (K.eo_CH_SOURCE p)) ++
    failIf (decide (2 ^ embedChannels d p ≤ rd d (K.eo_SLOT_MASK p))) (rangeOn (K.eo_SLOT_MASK p))) ++
  ((List.range 16).flatMap fun a => audioNames d (rd d (K.at_PLANE a)) [K.at_SOURCE_1 a, K.at_SOURCE_2 a]) ++
  ((List.range 8).flatMap fun e => audioNames d 0 ((List.range 32).map (K.et_TAP_SOURCE e))) ++
  ((List.range 64).flatMap fun n =>
    audioNames d (rd d (K.cap_PLANE n)) ((List.range (rd d (K.cap_CHANNELS n))).map (K.cap_CH_SOURCE n))) ++
  (List.range 4).flatMap (sliceFails d) ++ streamFails d req snap

/-! ## Functions and user partitions (R608, R739) -/

/-- The shares of the queues of function `f` in a direction (0 device to host, 1 host to device) (R601, R608). -/
def queueShares (d : Dev) (f dir : Nat) : Nat :=
  d.host.queues.foldl (fun a p =>
    let c := p.2
    let own := qFn d p.1 == some f && (if dir = 0 then c.typ == 1 || c.typ == 3 || c.typ == 6 else c.typ == 2 || c.typ == 4)
    if own then a + c.guar else a) 0

def functionFails (d : Dev) (f : Nat) : List Fail :=
  failIf (decide (rd d (K.fn_GUAR_D2H_MBPS f) < queueShares d f 0)) (rangeOn (K.fn_GUAR_D2H_MBPS f)) ++
  failIf (decide (rd d (K.fn_GUAR_H2D_MBPS f) < queueShares d f 1)) (rangeOn (K.fn_GUAR_H2D_MBPS f))

/-- The staged body of a partition from a requester that may no longer stage it (R739). -/
def userFails (d : Dev) (req : Nat) (snap : List Staged) : List Fail :=
  snap.flatMap fun x =>
    let i := x.key / 256
    failIf (decide (0x1A10 ≤ i) && decide (i < 0x1A14) && x.key % 256 == 1 && !mayStageBody d (i - 0x1A10) req)
      ⟨i, 1, 8, 0⟩

/-! ## The snapshot itself (R112) -/

/-- Poison met while a staged body was read: the control complex reads it as unit `index`, line `sub` (R552; log entry 32). -/
def bodyPoisoned (d : Dev) (k : Nat) : Bool := (badLines d (unitKey 0xA (k / 256))).contains (k % 256)

/-- The first entry of a commit whose records would exceed the store (R723); `conf` is the configuration that would stand. -/
def storeFails (d conf : Dev) (snap : List Staged) : List Fail :=
  let objs := (snap.map fun x => x.key / 256).eraseDups
  let over_ (tables : Bool) : List Nat :=
    let l := objs.filter fun i => isTables i == tables
    let size (i : Nat) : Nat := bodySize (objPayload conf i 0).length
    let r := l.foldl (fun (a : Nat × List Nat) i =>
      let n := a.1 + size i
      (n, if n ≤ storeLimit tables then a.2 else a.2 ++ [i])) (keptBytes d tables l, [])
    r.2
  match snap.find? fun x => (over_ false ++ over_ true).contains (x.key / 256) with
  | some x => [⟨x.key / 256, x.key % 256, 0xE, 0⟩]
  | none => []

/-- The first failing check of one entry: poison, length, range. -/
def valueFail (d : Dev) (x : Staged) : Option Fail :=
  match rowOf x.key with
  | none => some ⟨x.key / 256, x.key % 256, 1, 0⟩
  | some r =>
    if bodyPoisoned d x.key then some ⟨x.key / 256, x.key % 256, 0x10, 0⟩
    else if r.ty != .domain && x.val.length != r.size then some ⟨x.key / 256, x.key % 256, 4, 0⟩
    else if r.ty.isBody then
      (if 0x1A10 ≤ x.key / 256 ∧ x.key / 256 < 0x1A14 ∧ 65536 < x.val.length then some (rangeOn x.key) else none)
    else if inRange r.rng (leNat x.val) then none else some (rangeOn x.key)

/-- All checks of the chapters on a configuration. -/
def ruleFails (d0 d1 : Dev) (us : List ScalerUse) (req : Nat) (snap : List Staged) : List Fail :=
  let comps := (List.range 72).filter fun n => leadOf d1 n == n
  (List.range 128).flatMap (portFails d1) ++ (List.range 32).flatMap (quadFails d1) ++
  (List.range 16).flatMap (tieFails d0 d1) ++ eqFails d0 d1 ++ (List.range 8).flatMap (tgFails d1) ++
  (List.range 128).flatMap (outputFails d1 us) ++ (List.range 64).flatMap (colourFails d1) ++
  (List.range 32).flatMap (convFails d1) ++ (List.range 128).flatMap (convMissing d1) ++
  (List.range 72).flatMap (gangFails d1) ++
  (comps.flatMap fun n => (enabledLayers d1 n).flatMap (layerFails d1 us n)) ++
  (List.range 576).flatMap (layerColourFails d1) ++ comps.flatMap (regionFails d1) ++ poolFails d0 d1 ++
  audioFails d1 req snap ++ (List.range 64).flatMap (functionFails d1) ++ userFails d1 req snap ++
  lentEnables d0 d1

/-! ## Validation (R112, R141 to R145) -/

/-- Does failing check `a` come before `b` (R126)? Of checks with one index and sub-index, reason and detail decide (log entry 88). -/
def Fail.before (a b : Fail) : Bool :=
  let k (x : Fail) : Nat := ((x.index * 256 + x.sub) * 65536 + x.reason) * 65536 + x.detail
  decide (k a < k b)

/-- A failing check enters an ordered list, once: equal checks count as one (log entry 88). -/
def insertFail (x : Fail) : List Fail → List Fail
  | [] => [x]
  | y :: r => if x = y then y :: r else if x.before y then x :: y :: r else y :: insertFail x r

def sortFails (l : List Fail) : List Fail := l.foldl (fun a x => insertFail x a) []

/-- A failing check as a partial result (R126). -/
def Fail.word (x : Fail) : Nat := x.index * 2 ^ 48 + x.sub * 2 ^ 40 + x.reason * 2 ^ 16 + x.detail

/-- What validation finds: the failing checks in order, DOMAINS_TOUCHED, lenders to report, the RT sum and P_res. -/
structure Verdict where
  fails : List Fail
  touched : Nat
  lenders : List Staged
  rt : Nat
  pres : Nat
  deriving DecidableEq, Repr

/-- A set of domains as bits. -/
def domainBits (l : List Nat) : Nat := l.foldl (fun a g => Nat.lor a (2 ^ g)) 0

/-- The entries of a snapshot that no failing check names. -/
def withoutFailing (l : List Fail) (snap : List Staged) : List Staged :=
  snap.filter fun x => l.all fun f => f.index * 256 + f.sub != x.key

/-- The configuration that some values make of `d0`, its lenders, the lenders' failures and what they report. -/
def withLenders (d0 : Dev) (snap : List Staged) : Dev × List Staged × List Fail :=
  let d1 := putValues snap d0
  let (lend, lf) := chooseLenders d0 d1
  let items := lenderItems d1 lend
  (putValues items d1, items, lf)

/-- A commit's snapshot against the standing configuration (R112, R113, R141 to R145). The checks of entries come first; for admission
every entry that fails one takes the value that stands. -/
def validate (d : Dev) (req : Nat) (snap : List Staged) : Verdict :=
  let d0 := standing d
  let bad := snap.filterMap (valueFail d)
  let good := withoutFailing bad snap
  let (c1, items, lf) := withLenders d0 good
  let entries := bad ++ ruleFails d0 c1 (scalerPlan c1).2 req good ++ lf
  let sound := withoutFailing entries good
  let d1 := (withLenders d0 sound).1
  let (short, us) := scalerPlan d1
  let touched := domainBits (snap.map fun x => domainOf c1 x.key)
  let before := tally (charges d0)
  let after := tally (charges d1)
  let adm := limitFails d1 before after touched ++ pageFails d0 d1 before after touched sound ++
    (List.range 128).flatMap (lowLatencyFails d1) ++ disabledFails d1 us ++ short.map (admFail 0x108) ++
    storeFails d (putValues sound d0) sound
  { fails := sortFails (entries ++ adm), touched := touched, lenders := items, rt := rtTotal after, pres := pRes d1 after }

end Sys2Proof.Machine
end

