-- ==== Sys2Proof/Machine/Commit.lean ====
section
/-! DEFINITION. Staging, commits and their application (02): the staging store, the order of commits, validation, arming, and
what each entry's application does at once. -/

namespace Sys2Proof.Machine

/-! ## The staging store (R102, R105 to R108) -/

def basting (d : Dev) (r : Nat) : Basting := tabGet {} d.ctl.basting r

def modBasting (r : Nat) (f : Basting → Basting) (d : Dev) : Dev :=
  { d with ctl := { d.ctl with basting := tabMod {} r f d.ctl.basting } }

/-- The snapshots that still stand in the store: their requester and items. -/
def heldSnaps (d : Dev) : List (Nat × List Staged) := (d.ctl.commits.filter fun c => c.phase == 1).map fun c => (c.req, c.snap)

/-- Staged entries held by requester `r`, snapshots included. -/
def stagedBy (d : Dev) (r : Nat) : Nat :=
  (basting d r).items.length + ((heldSnaps d).filter fun x => x.1 == r).foldl (fun a x => a + x.2.length) 0

/-- Free entries of the staging store (R108). -/
def stageFree (d : Dev) : Nat :=
  16384 - ((d.ctl.basting.foldl (fun a b => a + b.2.items.length) 0) + (heldSnaps d).foldl (fun a x => a + x.2.length) 0)

/-- Bytes of the DOMAIN bodies among some staged values. -/
def domainBytes (l : List Staged) : Nat :=
  (l.filter fun x => ((rowOf x.key).map fun r => r.ty == .domain).getD false).foldl (fun a x => a + x.val.length) 0

/-- Bytes of staged DOMAIN bodies in all (R105). -/
def stagedBytes (d : Dev) : Nat :=
  (d.ctl.basting.foldl (fun a b => a + domainBytes b.2.items) 0) + (heldSnaps d).foldl (fun a x => a + domainBytes x.2) 0

/-- A requester's staged value of an entry. -/
def stagedValue (d : Dev) (r key : Nat) : Option (List Byte) := ((basting d r).items.find? fun x => x.key == key).map (·.val)

/-- The items with one value staged: in its place, or new in ascending order of entry. -/
def stageIn (x : Staged) (l : List Staged) : List Staged := insertStaged x (l.filter fun y => y.key != x.key)

/-- Does a staged write find the store, its quota and the DOMAIN space large enough (R105)? -/
def stageRoom (d : Dev) (r key len : Nat) : Bool :=
  let old := stagedValue d r key
  let dom := ((rowOf key).map fun r => r.ty == .domain).getD false
  (old.isSome || (decide (0 < stageFree d) && decide (stagedBy d r < 8192))) &&
    (!dom || decide (stagedBytes d + len ≤ 268435456 + (old.map (·.length)).getD 0))

/-- A staged write (R71, R102, R106); the answer is a status code. -/
def stageWrite (r key : Nat) (val : List Byte) (d : Dev) : Nat × Dev :=
  if stageRoom d r key val.length then
    (0, modBasting r (fun b => { b with items := stageIn { key := key, val := val } b.items }) d)
  else (9, modBasting r (fun b => { b with overflow := true }) d)

/-- A requester's basting is discarded (R108). -/
def discardBasting (r : Nat) (d : Dev) : Dev := { d with ctl := { d.ctl with basting := tabDel r d.ctl.basting } }

/-- A snapshot returns to basting; a newer staged value stands (R115). The overflow mark returns where no commit was rejected for it
(R106). -/
def returnSnap (c : Commit) (mark : Bool) (d : Dev) : Dev :=
  if c.snap = [] ∧ !mark then d
  else
    modBasting c.req (fun b => {
      items := c.snap.foldl (fun l x => if l.any fun y => y.key == x.key then l else insertStaged x l) b.items
      overflow := b.overflow || mark }) d

/-! ## Commits in the order (R104, R110, R124, R851) -/

def commitIn (d : Dev) (s : Nat) : Option Commit := d.ctl.commits.find? fun c => c.slot == s

def modCommit (s : Nat) (f : Commit → Commit) (d : Dev) : Dev :=
  { d with ctl := { d.ctl with commits := d.ctl.commits.map fun c => if c.slot == s then f c else c } }

def dropCommit (s : Nat) (d : Dev) : Dev :=
  { d with ctl := { d.ctl with commits := d.ctl.commits.filter fun c => c.slot != s } }

/-- COMMIT_PHASE of a slot. -/
def setPhase (s p : Nat) (d : Dev) : Dev := setArg s 7 p d

/-- The commit event (R104, R851). -/
def commitEvent (c : Commit) (phase reason : Nat) (d : Dev) : Dev :=
  raiseX 3 (K.slot_ARG c.slot 1) 0 phase 0xFF 0xFFFFFFFF (natLE 4 c.seq ++ natLE 2 c.req ++ natLE 2 c.touched ++ natLE 2 reason) none d

/-- A commit has reached APPLIED (R104, R114, R125); one without a sequence number is not the latest applied. -/
def commitDone (c : Commit) (d : Dev) : Dev :=
  let d := onlyIf (c.seq != 0) (fun d => wr K.x5000_LAST_APPLIED_SEQ c.seq (wr K.x5000_LAST_APPLIED_REQUESTER c.req d)) d
  endSlot c.slot 3 (setProgress c.slot 100 (commitEvent c 3 0 (setPhase c.slot 3 (dropCommit c.slot d))))

/-- A commit ends without applying: REJECTED, ABORTED or validated only; its snapshot returns (R115, R124). One that VALIDATE_ONLY ends in
APPLIED leaves [5000:06] and [5000:07] (log entry 87). -/
def commitEnd (c : Commit) (phase st reason : Nat) (d : Dev) : Dev :=
  endSlot c.slot st (onlyIf (st == 3) (setProgress c.slot 100)
    (commitEvent c phase reason (setPhase c.slot phase (returnSnap c (c.overflow && phase == 5) (dropCommit c.slot d)))))

/-- A commit request is granted in slot `s`, which reads QUEUED (R109, R110, R114). -/
def commitGrant (s req : Nat) (d : Dev) : Dev :=
  let b := basting d req
  let c : Commit := { slot := s, req := req, granted := d.ctl.granted + 1 }
  let d := setPhase s 0 d
  if b.items = [] ∧ !b.overflow then commitDone c d
  else { d with ctl := { d.ctl with commits := d.ctl.commits ++ [c], granted := d.ctl.granted + 1 } }

/-- The records of a commit that is not ARMED leave the persist path; an object whose record is programmed already gets a new one with
the values that stand (log entry 33). -/
def unpersistCommit (c : Commit) (d : Dev) : Dev :=
  match c.arming with
  | none => d
  | some last =>
    let mine (x : PbItem) : Bool := decide (c.armFrom ≤ x.id) && decide (x.id ≤ last) && x.slotRing.isNone
    let here := (d.nv.buf.filter mine).map (·.recd.key)
    let gone := ((c.snap.map fun x => x.key / 256).eraseDups).filter fun i => !here.contains i
    let conf := standing d
    forAll gone (fun i => persist i 0 (objPayload conf i 0) c.req) (withdraw mine d)

/-- An abort of a commit (R115, R137): it takes effect before ARMED; the answer says whether it did. -/
def commitAbort (s : Nat) (d : Dev) : Bool × Dev :=
  match commitIn d s with
  | none => (false, d)
  | some c =>
    if c.phase = 2 then (false, d)
    else (true, wr (K.slot_ABORT_RESULT s) 1 (commitEnd c 5 5 0 (unpersistCommit c d)))

/-! ## What an entry's application does at once -/

/-- Was entry `k` applied? -/
def hasKey (ks : List Nat) (k : Nat) : Bool := ks.contains k

/-- Was an entry of object `i` applied? -/
def hasObj (ks : List Nat) (i : Nat) : Bool := ks.any fun k => k / 256 == i

/-- The numbers below `n` whose object from `base` on had an entry applied. -/
def unitsOf (ks : List Nat) (base n : Nat) : List Nat := (List.range n).filter fun u => hasObj ks (base + u)

/-- What decides the store of an input (R272, R276). -/
def inputShape (d : Dev) (p : Nat) : List Nat :=
  if on d (K.ip_IP_ENABLE p) then
    let (w, h) := slotRaster d p
    [1, rd d (K.ip_PACKING p), rd d (K.ip_STORE_DEPTH p), w, h]
  else [0]

/-- What decides the ring of a converter, and its restart (R354, R363). -/
def convShape (d : Dev) (f : Nat) : List Nat :=
  let a := rd d (K.frc_ATTACH f)
  if a = 0xFFFF then [a]
  else
    let (k, n) := attachSource d a
    let q := attachWant d a 0
    [a, rd d (K.frc_FRC_MODE f), rd d (K.frc_FRC_PACKING f), k, n, q.w, q.h]

/-- Serial lanes (R198, R206, R216, R222, R239): receivers and transmitters follow their entries. -/
def applyLanes (ks : List Nat) (d : Dev) : Dev :=
  let quads := unitsOf ks 0x2200 32
  let rxs := (unitsOf ks 0x2000 128) ++ (quads.filter fun q => hasKey ks (K.ml_RX_ML_MODE q)).flatMap fun q => (List.range 4).map (4 * q + ·)
  let txs := (unitsOf ks 0x2080 128) ++ (quads.filter fun q => hasKey ks (K.ml_TX_ML_MODE q)).flatMap fun q => (List.range 4).map (4 * q + ·)
  let d := forAll rxs (fun p d => linkRecount p (rxApply p d)) d
  let d := forAll txs (fun p d => loadDrive p (txUpdate p d)) d
  let d := forAll (unitsOf ks 0x2220 16) tieApply d
  let d := forAll (rxs ++ (unitsOf ks 0x2220 16).flatMap fun b => (List.range 5).map (8 * b + ·)) inputsFollow d
  if hasObj ks 0x2120 then
    forAll ((List.range 128).filter fun p => (tieOf d p).isSome) loadDrive (wr K.x2120_EQ_SOURCE 0 d)
  else d

/-- Input pipelines whose store changes (R276). -/
def applyInputs (d0 d : Dev) : Dev :=
  forAll ((List.range 128).filter fun p => inputShape d0 p != inputShape d p) (fun p d =>
    inputApply p (!on d0 (K.ip_IP_ENABLE p) && on d (K.ip_IP_ENABLE p)) d) d

/-- Clocks: generators, the genlock reference and the STC (R650, R660, R671). -/
def applyClocks (ks : List Nat) (d0 d : Dev) : Dev :=
  let d := onlyIf (hasObj ks 0x1410) refReconfigure d
  let d := onlyIf (hasKey ks K.x1460_STC_SOURCE) stcFollow d
  forAll (unitsOf ks 0x1440 8) (fun g d => tgReconfigure g (rd d0 (K.tg_LOCK_SOURCE g) != rd d (K.tg_LOCK_SOURCE g)) d) d

/-- Audio: receivers, streams, the audio clock and reserved converters (R482, R492, R517, R529, R533). -/
def applyAudio (ks : List Nat) (d0 d : Dev) : Dev :=
  let d := forAll (unitsOf ks 0x3410 16) (fun a d =>
    aesApply a (rd d0 (K.ar_PLANE a) != rd d (K.ar_PLANE a) || rd d0 (K.ar_SRC_RESERVE a) != rd d (K.ar_SRC_RESERVE a)) d) d
  let d := forAll (unitsOf ks 0x3500 128) (fun p d =>
    onlyIf (rd d0 (K.ea_SRC_MASK p) != rd d (K.ea_SRC_MASK p)) (embedReserve p) d) d
  let d := forAll (unitsOf ks 0x3440 64) capApply d
  let d := forAll (unitsOf ks 0x3480 32) playApply d
  srcRecount (onlyIf (hasObj ks 0x3400) audioFollow d)

/-- Converters that restart (R363). -/
def applyConverters (d0 d : Dev) : Dev :=
  forAll ((List.range 32).filter fun f => convShape d0 f != convShape d f) convRestart d

/-- Region definitions that changed (R447). -/
def applyRegions (ks : List Nat) (d0 d : Dev) : Dev :=
  forAll (unitsOf ks 0x2C00 72) (fun n d =>
    forAll (List.range 16) (fun i d =>
      onlyIf (rdB d0 (K.sr_REGION_DEF n i) != rdB d (K.sr_REGION_DEF n i)) (regionRedefined n i) d) d) d

/-- Plane rings follow the GRAPHICS layers: allocated, sized anew, or freed (R604). -/
def planeRings (d : Dev) : Dev :=
  let named := (graphicsLayers d).map fun k => rd d (K.ly_SRC_ID k)
  let has := (d.host.queues.filter fun p => p.2.plane.isSome).map (·.1)
  forAll ((named ++ has).eraseDups) (fun q d =>
    let old := (queue d q).plane
    let n := if (queue d q).typ = 2 then planePages d q else 0
    let size := if n = 0 then none else some (n * 65536)
    if old.map (·.slotBytes) = size then d
    else
      let d := match old with
        | some r => releasePages r.pages (planeStore q) r.nextNum d
        | none => d
      match size with
      | none => modQ q (fun c => { c with plane := none }) d
      | some b =>
        let (l, d) := allocPages (4 * n) 7 q ((qFn d q).getD 0) 1 false true false d
        modQ q (fun c => { c with plane := some { slotBytes := b, pages := l, nextNum := (old.map (·.nextNum)).getD 1 } }) d) d

/-- May an enabled export queue of a virtual function name store `id` (R558, R602)? -/
def exportNames (d : Dev) (id : Nat) : Bool :=
  d.host.queues.any fun p =>
    p.2.st != 0 && p.2.typ == 1 && (qFn d p.1).any (· != 0) &&
      (match p.2.target / 2 ^ 24 with
       | 1 => p.2.target % 65536 == id
       | 2 => 0x100 + p.2.target % 65536 == id
       | 3 => 0x200 + p.2.target % 65536 == id
       | _ => false)

/-- X of the pages of frame stores, output stores and rings follows the export queues (R558). -/
def exportRecount (d : Dev) : Dev :=
  forAll d.video.stores (fun s d =>
    let x := exportNames d s.1
    if s.2.pages.any fun l => (pte d l).x != x then setExport s.2.pages x d else d) d

/-- CP_USERS and CP_TG of every colour pipeline (R352). -/
def colourRecount (d : Dev) : Dev :=
  forAll (List.range 64) (fun n d =>
    wr (K.cp_CP_USERS n) (colourUsers d n).length (wr (K.cp_CP_TG n) ((colourTg d n).getD 0xFF) d)) d

/-- Everything that the application of the entries `ks` does at once, `d0` being the block before it. -/
def applied (ks : List Nat) (d0 d : Dev) : Dev :=
  let d := applyInputs d0 (applyLanes ks d)
  let d := onlyIf (audioOn d) (applyAudio ks d0) (applyClocks ks d0 d)
  let d := applyRegions ks d0 (applyConverters d0 d)
  let d := forAll (unitsOf ks 0x3840 64) (fun w d => onlyIf (rd d (K.dom_WINDOW_PAGES w) < (window d w).length) (shrinkWindow w) d) d
  let d := exportRecount (planeRings d)
  reportReservation (setsRecount (colourRecount { d with ctl := { d.ctl with unsettled := List.range 8 } }))

/-! ## Application (R117 to R125) -/

/-- Number of domains in a set. -/
def domainCount (v : Nat) : Nat := popCount v 10

/-- The items of a commit that `sel` picks are put in their entries; a route notes the commit (R305). -/
def putPart (sel : Nat × Staged → Bool) (c : Commit) (d : Dev) : Dev :=
  let now := c.left.filter sel
  let d := putValues (now.map (·.2)) d
  let routes := (now.map fun x => x.2.key / 256).filter fun i => decide (0x4000 ≤ i) && decide (i < 0x4080)
  modCommit c.slot (fun c => { c with left := c.left.filter fun x => !sel x })
    (forAll routes (fun i d => wr (K.route_LAST_APPLIED_SEQ (i - 0x4000)) c.seq d) d)

/-- A commit after some of its items applied: the domains without an item left have applied (R124, R125, R699). -/
def commitReport (s : Nat) (d : Dev) : Dev :=
  match commitIn d s with
  | none => d
  | some c =>
    let new := (List.range 10).filter fun g => bitAt c.touched g && !bitAt c.applied g && c.left.all fun x => x.1 != g
    let c := { c with applied := Nat.lor c.applied (domainBits new) }
    let d := modCommit s (fun _ => c) d
    let d := jClose (fun e => e.kind == 3 && e.ref == c.seq && new.contains e.unit) d
    let d := jMod (fun e => e.kind == 2 && e.unit == s) (fun e => { e with checkpoint := c.applied }) d
    let d := setArg s 9 c.applied (onlyIf (new != []) (setArg s 0xB (stcNs d)) d)
    if c.applied = c.touched ∧ c.left = [] then commitDone c d
    else setProgress s (100 * domainCount c.applied / domainCount c.touched) d

/-- The ARMED commits that `ok` picks apply the items that `sel` picks, in ascending order, together (R119, R121, R122). -/
def applyNow (ok : Commit → Bool) (sel : Nat × Staged → Bool) (d : Dev) : Dev :=
  let cs := d.ctl.commits.filter fun c => c.phase == 2 && ok c && c.left.any sel
  if cs = [] then d
  else
    let ks := cs.flatMap fun c => (c.left.filter sel).map (·.2.key)
    let d' := applied ks d (forAll cs (putPart sel) d)
    forAll cs (fun c => commitReport c.slot) d'

/-- Does an instant qualify for a commit (R118)? -/
def qualifies (d : Dev) (c : Commit) : Bool := decide (c.armedAt + us 50 ≤ d.now)

/-- The inputs that an entry of domain INPUT concerns: ports, and AES3 receivers from 0x1000 on (R117). -/
def inputsOf (k : Nat) : List Nat :=
  let i := k / 256
  if 0x2200 ≤ i ∧ i < 0x2220 then (List.range 4).map (4 * (i - 0x2200) + ·)
  else if 0x3410 ≤ i ∧ i < 0x3420 then [0x1000 + (i - 0x3410)]
  else if 0x2000 ≤ i ∧ i < 0x2080 then [i - 0x2000]
  else if 0x2400 ≤ i ∧ i < 0x2480 then [i - 0x2400]
  else if 0x3500 ≤ i ∧ i < 0x3580 then [i - 0x3500]
  else []

/-- Is input `u` without signal (R117)? -/
def inputQuiet (d : Dev) (u : Nat) : Bool :=
  if u < 0x1000 then decide (rd d (K.ip_INPUT_STATE u) ≤ 1) else decide (rd d (K.ar_AR_STATE (u - 0x1000)) < 3)

/-- The items of domain INPUT whose inputs are all without signal apply at once (R117). -/
def applyQuiet (d : Dev) : Dev :=
  applyNow (fun _ => true) (fun x => x.1 == 8 && (inputsOf x.2.key).all (inputQuiet d)) d

/-- A frame boundary of input `u` applies the items that concern it (R117, R118; an entry of several inputs at the first boundary
of one of them, log entry 34). -/
def applyBoundary (u : Nat) (d : Dev) : Dev :=
  applyQuiet (applyNow (qualifies d) (fun x => x.1 == 8 && (inputsOf x.2.key).contains u) d)

/-- Lenders of outputs of generator `g` that a commit changed without touching the generator are taken at its seam (R320). -/
def lenderSeam (g : Nat) (d : Dev) : Dev :=
  let due (x : Nat × Ps × Staged) : Bool := x.1 == g && decide (x.2.1 + us 50 ≤ d.now)
  let now := (d.ctl.lenders.filter due).map (·.2.2)
  if now = [] then d
  else
    applied (now.map (·.key)) d
      (putValues now { d with ctl := { d.ctl with lenders := d.ctl.lenders.filter fun x => !due x } })

/-- A seam of generator `g` applies its domain (R117 to R119). -/
def applySeam (g : Nat) (d : Dev) : Dev := applyNow (qualifies d) (fun x => x.1 == g) (lenderSeam g d)

/-! ## Arming (R116, R678, R718) -/

/-- A commit enters ARMED: its domains are journalled, CHIP applies, and INPUT where there is no signal (R117). Lenders of outputs whose
generator it does not touch wait for that generator's seam (R320). -/
def commitArmed (c : Commit) (d : Dev) : Dev :=
  let late := c.left.filter fun x => !bitAt c.touched x.1
  let d := { d with ctl := { d.ctl with lenders := d.ctl.lenders ++ late.map fun x => (x.1, d.now, x.2) } }
  let d := modCommit c.slot (fun c => { c with left := c.left.filter fun x => bitAt c.touched x.1 }) d
  let d := modCommit c.slot (fun c => { c with phase := 2, arming := none, armedAt := d.now, snap := [] }) d
  let d := setProgress c.slot 0 (setPhase c.slot 2 d)
  let d := forAll ((List.range 10).filter (bitAt c.touched)) (fun g => jOpen 3 4 c.req g c.seq 0) d
  let d := applyNow (fun x => x.slot == c.slot) (fun x => x.1 == 9) d
  applyQuiet d

/-- A commit whose snapshot is persistent enters ARMED (R678, R685). -/
def commitsCovered (d : Dev) : Dev :=
  forAll (d.ctl.commits.filter fun c => c.phase == 1 && c.arming.any (persisted d)) commitArmed d

/-- What waits for NV-class effects goes on: commits and coefficient sets. -/
def nvCovered (d : Dev) : Dev := setLoadsCovered (commitsCovered d)

/-- One record for each object of a snapshot, with the values that stand after the commit, then the commit record (R717, R718). -/
def persistCommit (c : Commit) (d : Dev) : Dev :=
  let conf := putValues c.snap (standing d)
  let objs := (c.snap.map fun x => x.key / 256).eraseDups
  persist 0xF001 0 (natLE 4 c.seq ++ natLE 2 c.touched ++ [0, 0]) c.req (forAll objs (fun i => persist i c.seq (objPayload conf i c.seq) c.req) d)

/-! ## Validation (R110 to R115, R126, R181) -/

/-- COMMIT_VALIDATE_START (R110, R111, R114). -/
def validateStart (s : Nat) (d : Dev) : Dev :=
  match commitIn d s with
  | none => d
  | some c =>
    if c.phase ≠ 0 ∨ d.ctl.commits.any (fun x => x.phase == 1 || (x.phase == 0 && decide (x.granted < c.granted))) then d
    else if 32768 ≤ d.jr.entries.length then incSat 32 K.x1C30_JOURNAL_WAITS d
    else
      let b := basting d c.req
      let seq := d.ctl.seqNext
      let c := { c with phase := 1, seq := seq, snap := b.items, overflow := b.overflow
                        validateOnly := bitAt (arg d s 6) 0 }
      let d := discardBasting c.req { d with ctl := { d.ctl with seqNext := seq + 1 } }
      let d := modCommit s (fun _ => c) (modSlot s (fun x => { x with op := 1 }) (setSlot s 2 d))
      let d := wr K.x5000_LAST_COMMIT_SEQ seq (setArg s 0xA seq (setPhase s 1 (jOpen 2 4 c.req s seq 0 d)))
      if c.snap = [] ∧ !c.overflow then commitDone c d else d

/-- The failing checks of a commit that its configuration does not show: an overflowed basting (R106), and reserved bits of COMMIT_FLAGS
(R5; read with the other arguments, R134). -/
def commitFails (d : Dev) (c : Commit) : List Fail :=
  failIf c.overflow ⟨0xFFFF, 0xFF, 9, 0⟩ ++ failIf (decide (1 < arg d c.slot 6)) ⟨0x1200 + c.slot, 6, 5, 0⟩

/-- COMMIT_VALIDATION_END (R112, R115, R116, R124, R126). -/
def validationEnd (s : Nat) (d : Dev) : Dev :=
  match commitIn d s with
  | none => d
  | some c =>
    if c.phase ≠ 1 ∨ c.arming.isSome then d
    else
      let v := validate d c.req c.snap
      let fails := (commitFails d c).foldl (fun a x => insertFail x a) v.fails
      let first := ((fails.head?).map (·.reason)).getD 0
      let c := { c with touched := v.touched }
      let d := modCommit s (fun _ => c) (setArg s 8 v.touched d)
      let d := { d with ctl := { d.ctl with
        dryRun := tabSet c.req [c.seq, v.rt, v.pres, first, Nat.min fails.length 0xFFFF] d.ctl.dryRun } }
      if fails ≠ [] then 
        let d := forAll (fails.filter fun x => x.reason == 0x10) (fun x => internalFault (x.index * 256 + x.sub)) d
        commitEnd c 4 4 first (forAll (fails.take 64) (fun x => pushResult s x.word) d)
      else if c.validateOnly then commitEnd c 3 3 0 d
      else
        let conf := putValues c.snap (standing d)
        let items := (c.snap ++ v.lenders).map fun x => (domainOf conf x.key, x)
        let id := d.nv.nextId
        let d := modCommit s (fun c => { c with left := items, armFrom := id }) d
        let d := persistCommit c d
        nvCovered (modCommit s (fun c => { c with arming := some (if d.nv.volatileOnly then id else d.nv.nextId - 1) }) d)

end Sys2Proof.Machine
end

