-- ==== Sys2Proof/Machine/Routes.lean ====
section
/-! DEFINITION. Routes (05): what each output shows from a seam on, and the picture it sends. -/

namespace Sys2Proof.Machine

def route (d : Dev) (p : Nat) : Route := tabGet {} d.video.route p

def modRoute (p : Nat) (f : Route → Route) (d : Dev) : Dev :=
  modVideo (fun v => { v with route := tabMod {} p f v.route }) d

/-! ## What an output sends (R271, R286, R291, R292, R341 to R344) -/

/-- The frame that an output shows: kept with the route, or in its store. -/
def shownFrame (d : Dev) (p : Nat) : Option Frame :=
  let s := (route d p).shown
  if s.frame.isSome then s.frame else anyFrame d s.store s.num

/-- The lines of one field of a frame. -/
def fieldOf (second : Bool) (p : Picture) : Picture := (p.zipIdx.filter fun x => (x.2 % 2 == 1) == second).map (·.1)

/-- The scale stage of output `p` on its raster, as it reads a source of the field that is selected (R322, R341, R342). -/
def routeStage (d : Dev) (p w h : Nat) (second : Bool) : ScaleSet :=
  let s := routeScale d p w h
  if rd d (K.oc_SCAN_CONV p) = 3 then { s with
    cropY := s.cropY / 2, cropH := s.cropH / 2, field := if second then -(2 ^ 18 : Int) else (2 ^ 18 : Int) }
  else s

/-- A picture through the scale stage of output `p`: cropped, scaled, black outside the destination (R322). -/
def routeScaled (d : Dev) (p w h : Nat) (second : Bool) (pic : Picture) : Picture :=
  let pic := if rd d (K.oc_SCAN_CONV p) = 3 then fieldOf second pic else pic
  let s := routeStage d p w h second
  placeOn s w h black (scaleCrop s pic)

/-- The frame that output `p` shows as it reads it: damaged lines from earlier frames or fill, a repeat SUBSTITUTED (R271, R294, R297). A
frozen one stands as it was shown. -/
def readFrame (d : Dev) (p : Nat) : Option Frame :=
  let x := (route d p).shown
  (shownFrame d p).map fun f =>
    let (w, _) := rasterSize (fmtRaster (tgFormat d (routeTg d p)))
    let f := if x.frozen then f else patchLines d x.store (routeFill d p w) (badLines d (unitKey 2 p)) f
    if x.again then { f with map := f.map.map fun _ => 3 } else f

/-- The picture of output `p` on its raster, before output formatting, and its map (R269, R271, R297, R322, R326, R342, R351, R852). -/
def outPicture (d : Dev) (p : Nat) : Picture × List Nat :=
  let x := route d p
  let (w, h) := rasterSize (fmtRaster (tgFormat d (routeTg d p)))
  let (ta, td) := tilesOf w h
  let gen := List.replicate (ta * td) 4
  let fill := routeFill d p w
  let made (f : Nat → Nat → Nat → Px) : Picture × List Nat :=
    if hasScale d p then
      let sw := orRest (rd d (K.oc_SRC_W p)) w 0
      let sh := orRest (rd d (K.oc_SRC_H p)) h 0
      (routeScaled d p w h false (paint sw sh (f sw)), gen)
    else (paint w h (f w), gen)
  match x.shown.what with
  | 0 => (paint w h fill, gen)
  | 2 => made fun _ _ _ => black
  | 3 => made fun w => swatchPx (rd d (K.route_SOURCE_ID p)) w x.shown.seams
  | _ =>
    match readFrame d p with
    | none => (paint w h fill, gen)
    | some f =>
      let cp := if hasColour d p then some (colourSet d (rd d (K.oc_COLOUR_PIPE p))) else none
      let (sw, _) := frameSize f
      if hasScale d p then
        let second := (x.sel.getD 0) % 2 == 1
        let tiles := (List.range td).flatMap fun ty => (List.range ta).map fun tx =>
          colourClass cp (scaledTile (routeStage d p w h second) f.map sw w h (some 4) tx ty)
        (colourPic cp (routeScaled d p w h second f.pic), tiles)
      else (colourPic cp f.pic, f.map.map (colourClass cp))

/-- A component to 10 bits, or clipped at 12 (R291). -/
def outValue (ten : Bool) (v : Nat) : Nat := if ten then clampN 4 1019 ((v + 2) / 4) else clampN 16 4079 v

/-- A line as OUT_MAPPING sends it (R291): at 4:2:2 odd pixels repeat the chroma of the even ones. -/
def mapLine (mapping : Nat) (l : List Px) : List Px :=
  let m := mapping % 16
  let ten := m == 0 || m == 1 || m == 3 || m == 5
  let half := m == 0 || m == 5
  l.zipIdx.map fun (q, x) =>
    let c := if half ∧ x % 2 = 1 then l.getD (x - 1) q else q
    { c0 := outValue ten q.c0, c1 := outValue ten c.c1, c2 := outValue ten c.c2
      key := if m = 5 then (if q.key = 0x3FF then 940 else q.key) else 0x3FF }

/-- Does output `p` send its picture: its transmitter runs, or its bundle carries it as a channel (R196, R226, R230, R251)? -/
def sendsPicture (d : Dev) (p : Nat) : Bool :=
  match tieOf d p with
  | some b => rd d (K.tb_BUNDLE_STATE b) == 3 || rd d (K.tb_BUNDLE_STATE b) == 4
  | none => match txContent d p with
    | .picture _ => true
    | _ => false

/-- Does the frame shown come from a 4:2:2 source, so that the chroma of odd pixels is no sample of the source (R266)? -/
def chromaMade (d : Dev) (p : Nat) : Bool :=
  (route d p).shown.what == 1 && decide ((route d p).shown.store < 0x100) &&
    (shownFrame d p).any fun f => fmtSampling f.format == 0 || fmtSampling f.format == 3

/-- A picture and its map as OUT_MAPPING `mapping` sends them: a tile keeps its class while every sample sent, the key among them, is the
source sample or that sample shifted by whole bits, and becomes TRANSFORMED otherwise (R291, R292). -/
def formatOut (mapping : Nat) (made : Bool) (pic : Picture) (map : List Nat) : Picture × List Nat :=
  let m := mapping % 16
  let ta := ((pic.headD []).length + 63) / 64
  let out := pic.map (mapLine m)
  let ten := m == 0 || m == 1 || m == 3 || m == 5
  let half := m == 0 || m == 5
  let up (v : Nat) : Nat := if ten then 4 * v else v
  let keeps (y x : Nat) : Bool :=
    let a := (pic.getD y []).getD x black
    let b := (out.getD y []).getD x black
    a.c0 == up b.c0 && (x % 2 == 1 && (half || made) || (a.c1 == up b.c1 && a.c2 == up b.c2)) && (m != 5 || a.key == b.key)
  (out, map.zipIdx.map fun (c, n) =>
    let whole := (half || !made) && (List.range 64).all fun j => (List.range 64).all fun i =>
      let y := n / ta * 64 + j
      let x := n % ta * 64 + i
      decide (pic.length ≤ y) || decide ((pic.headD []).length ≤ x) || keeps y x
    if whole then c else max 1 c)

/-- What output `p` sends of its route, and the map of what it sends; a tie channel carries the working pixels and the classes unchanged
(R251, R291, R292). -/
def sentPicture (d : Dev) (p : Nat) : Option (Picture × List Nat) :=
  if !sendsPicture d p then none
  else
    let (pic, map) := outPicture d p
    if (tieOf d p).isSome then some (pic, map) else some (formatOut (rd d (K.route_OUT_MAPPING p)) (chromaMade d p) pic map)

/-- The ATC timecodes that output `p` carries, LTC and VITC: those of the frame shown, none with fill or a generated source (R293). -/
def sentTimecode (d : Dev) (p : Nat) : Option (Nat × Nat) :=
  if (route d p).shown.what = 1 then (shownFrame d p).map fun f => (f.ltc, f.vitc) else none

/-- The format word of the signal that output `p` sends: raster, scan and rate of its generator, sampling and depth of its mapping, colour
of the frame shown, unknown otherwise (R257, R293; log entry 92). -/
def sentFormat (d : Dev) (p : Nat) : Nat :=
  let f := tgFormat d (routeTg d p)
  let m := rd d (K.route_OUT_MAPPING p) % 16
  let (sampling, depth) : Nat × Nat := if (tieOf d p).isSome then (1, 1) else match m with
    | 0 => (0, 0)
    | 1 => (1, 0)
    | 2 => (1, 1)
    | 3 => (2, 0)
    | 4 => (2, 1)
    | _ => (3, 0)
  let (co, tr) := match (if (route d p).shown.what = 1 then shownFrame d p else none) with
    | some g => (fmtColour g.format, fmtTransfer g.format)
    | none => (15, 15)
  mkFormat (fmtRaster f) (fmtScan f) (fmtRate f) sampling depth co tr

/-- The ST 352 payload ID that output `p` carries: it describes the signal as sent; the coding is the standard's (R293; log entry 92). -/
def sentPayloadId (d : Dev) (p : Nat) : Nat :=
  (Config.payloadId (sentFormat d p) (rd d (K.tx_TX_RATE p)) (rd d (K.route_OUT_MAPPING p) / 128)
    (((txAssembly d p).getD []).findIdx (· == p))).toNat

/-- What a tie channel carries of output `p` beside pixels and map: its format word, timecode, payload ID, the STC of the frame as it is
sent, and a sample of each audio channel at instant `k` (R251). -/
def sentTie (d : Dev) (p k : Nat) : Nat × Option (Nat × Nat) × Nat × Nat × List Smp :=
  (sentFormat d p, sentTimecode d p, sentPayloadId d p, rd d (K.tg_LAST_SEAM_STC (routeTg d p)),
    (List.range 32).map fun c => embedSample d p c k)

/-! ## Selection at a seam (R288 to R302) -/

/-- What a route finds: content without a source frame, a frame, or a reason of [route:0B]. -/
inductive RouteFind where
  | plain (what : Nat)
  | found (store num : Nat) (frame : Option Frame) (key ord : Option Nat) (live ll : Bool) (stamp : Nat)
  | nothing (reason : Nat)
  deriving DecidableEq, Repr

/-- Is the low-latency offset of output `p` in force at a seam (R301, R302)? -/
def llInForce (d : Dev) (p : Nat) : Bool :=
  let g := routeTg d p
  let n := rd d (K.route_SOURCE_ID p)
  rd d (K.route_ROUTE_MODE p) == 1 && rd d (K.route_SOURCE_KIND p) == 1 && rd d (K.tg_TG_STATE g) == 2 &&
    rd d (K.ip_INPUT_STATE n) == 5 &&
    ((route d p).ll || (tg d g).lockedSince.any fun t => decide (t + sec 1 ≤ d.now))

/-- A frame from a converter or the direct path, when it matches (R290). -/
def routeTake (d : Dev) (p st : Nat) (f : Frame) : RouteFind :=
  if frameMatches (routeWant d p d.now) f then .found st f.num (some f) none none false false f.stamp else .nothing 2

/-- The frame in progress of a low-latency route (R301). -/
def routeLow (d : Dev) (n : Nat) (q : Want) : RouteFind :=
  match (cands d n q.fields).filter (·.live) with
  | [] => .nothing (if (cands d n q.fields).isEmpty then 4 else 5)
  | l => match l.find? (matchesWant q) with
    | some c => .found n (c.key / 2) none (some c.key) (some c.ord) true true (candStamp d n c)
    | none => .nothing 2

/-- A route's selection at a seam (R287 to R302). -/
def routeFind (d : Dev) (p : Nat) : RouteFind :=
  let kind := rd d (K.route_SOURCE_KIND p)
  let n := rd d (K.route_SOURCE_ID p)
  let id := if kind = 1 then n else 0x100 + leadOf d n
  let miss := kind == 1 && inputMissing d n
  let q := routeWant d p d.now
  if portDown d p ∨ sourceDown d kind n ∨ chipRecovering d then .nothing 6
  else if kind = 0 then .plain 2
  else if kind = 3 then .plain 3
  else if kind = 2 ∧ !producing d n then .nothing 3
  else if hasConv d p then
    match (convOf d p).bind fun c => (conv d c).out.map fun f => (c, f) with
    | some (c, f) => routeTake d p (0x200 + c) f
    | none => .nothing (pickReason d id miss q)
  else if directPath d p then
    match (comp d (leadOf d n)).out with
    | some f => routeTake d p (0x100 + leadOf d n) f
    | none => .nothing 3
  else if llInForce d p then routeLow d n q
  else
    match pick d id miss (route d p).sel q with
    | none => .nothing (pickReason d id miss q)
    | some c =>
      let half := if q.fields ∧ c.key % 2 = 1 then c.period / 2000 else 0
      .found id (c.key / 2) none (some c.key) (some c.ord) c.live false (candStamp d id c + half)

/-- SUBST_FRAMES counts the running output frame of `p` once. -/
def countSubst (p : Nat) (d : Dev) : Dev :=
  if (route d p).shown.subst then d
  else incSat 32 (K.route_SUBST_FRAMES p) (modRoute p (fun x => { x with shown := { x.shown with subst := true } }) d)

/-- Does the frame that output `p` shows hold a substituted tile or a damaged line? -/
def shownHurt (d : Dev) (p : Nat) : Bool :=
  ((shownFrame d p).map fun f => !f.damaged.isEmpty || f.map.contains 3).getD false ||
    (badLines d (unitKey 2 p)) != []

/-- The output frame of `p` ends: what it showed is known, and is kept as shown for a freeze (R271, R294). -/
def routeSettle (p : Nat) (d : Dev) : Dev :=
  let x := route d p
  if x.shown.what = 1 ∧ !x.shown.frozen then
    let d := onlyIf (shownHurt d p) (countSubst p) d
    let f := readFrame d p
    modRoute p (fun x => { x with
      last := if f.isSome then f else x.last, lastRef := if f.isSome then (x.shown.store, x.shown.num) else x.lastRef }) d
  else d

/-- A repeat or drops of a route, with the event of R297. -/
def routeCount (p k n : Nat) (d : Dev) : Dev :=
  if n = 0 then d
  else
    let x := route d p
    let (s, c, d) := secondEvent (K.route_REPEATS p) x.second x.inSecond (addSat 32 k n d)
    modRoute p (fun x => { x with second := s, inSecond := c + n - 1 }) d

/-- The instant at which output `p` has read the last line that the frame leaving at seam `t` needs. -/
def routeReadEnd (d : Dev) (p : Nat) (t : Ps) : Ps :=
  let f := tgFormat d (routeTg d p)
  let (w, h) := rasterSize (fmtRaster f)
  let s := routeScale d p w h
  let n := if hasScale d p then s.dstY + s.dstH else h
  t + (max (lineAt (fmtRaster f) (fmtScan f) (n - 1)) (lineAt (fmtRaster f) (fmtScan f) (n - 2)) + 1) * linePeriod f

/-- The slot that output `p` reads, a frozen frame's among them, is held until its last line is read (R275); the direct path reads none. -/
def routeHold (p : Nat) (d : Dev) : Dev :=
  let s := (route d p).shown
  let reads := s.what == 1 && (s.frozen || s.frame.isNone || decide (0x200 ≤ s.store))
  holdUntil (unitKey 2 p) (if reads then [(s.store, s.num)] else []) (routeReadEnd d p d.now) d

/-- SHOWN, MISSING_REASON and LAST_SOURCE_STC of a seam. -/
def routeReport (p shown reason stamp : Nat) (d : Dev) : Dev :=
  wr (K.route_SHOWN p) shown (wr (K.route_MISSING_REASON p) reason (wr (K.route_LAST_SOURCE_STC p) stamp d))

/-- Nothing is shown from the source: a freeze or fill (R294, R306). The substitution is recorded in an event when its reason is new (R169;
log entry 90). -/
def routeMissing (p reason : Nat) (d : Dev) : Dev :=
  let x := route d p
  let limit := rd d (K.route_FREEZE_LIMIT p)
  let base : Shown := { seams := rd d (K.tg_SEAM_COUNT (routeTg d p)) }
  let fresh_ := rd d (K.route_MISSING_REASON p) != reason
  let d := modRoute p (fun x => { x with sel := if reason = 1 ∨ reason = 4 then x.sel else none }) d
  let d := match x.last with
    | some f =>
      if rd d (K.route_MISSING_POLICY p) = 0 ∧ (limit = 0 ∨ x.frozenFor < limit) then
        countSubst p (routeReport p 1 reason f.stamp (modRoute p (fun x => { x with
          frozenFor := x.frozenFor + 1
          shown := { base with
            what := 1, store := x.lastRef.1, num := x.lastRef.2, frame := some f, again := true, frozen := true } }) d))
      else countSubst p (routeReport p 2 reason 0 (modRoute p (fun x => { x with shown := base }) d))
    | none => countSubst p (routeReport p 2 reason 0 (modRoute p (fun x => { x with shown := base }) d))
  onlyIf fresh_ (condition (K.route_MISSING_REASON p)) d

/-- A route at a seam of its generator (R282, R288 to R306). -/
def routeSeam (p : Nat) (d : Dev) : Dev :=
  let src := rd d (K.route_SOURCE_KIND p) * 65536 + rd d (K.route_SOURCE_ID p)
  let d := unitFrame (unitKey 2 p) (routeSettle p d)
  let d := onlyIf ((route d p).src != src) (modRoute p fun x => { x with
    src := src, sel := none, lastSel := none, last := none, frozenFor := 0, ll := true }) d
  let wasLl := rd d (K.route_SHOWN p) == 3
  let seams := rd d (K.tg_SEAM_COUNT (routeTg d p))
  let d := match routeFind d p with
    | .plain w => routeReport p 0 0 0 (modRoute p (fun x => { x with frozenFor := 0, shown := { what := w, seams := seams } }) d)
    | .found st num fr key ord live ll stamp =>
      let x := route d p
      let again := key.isSome && x.sel == key
      let drops := match ord, x.lastSel with
        | some a, some b => a - b - 1
        | _, _ => 0
      let d := modRoute p (fun x => { x with
        frozenFor := 0, sel := key, lastSel := if ord.isSome then ord else x.lastSel
        shown := { what := 1, store := st, num := num, frame := fr, again := again, seams := seams } }) d
      let d := routeCount p (K.route_DROPS p) drops (onlyIf again (routeCount p (K.route_REPEATS p) 1) d)
      let d := onlyIf (again || (!live && shownHurt d p)) (countSubst p) d
      routeReport p (if ll then 3 else 0) 0 stamp (onlyIf ll (modRoute p fun x => { x with ll := true }) d)
    | .nothing r => routeMissing p r d
  let lost := wasLl && rd d (K.route_SHOWN p) != 3 && rd d (K.route_ROUTE_MODE p) == 1
  routeHold p (onlyIf lost (fun d => condition (K.route_SHOWN p) (modRoute p (fun x => { x with ll := false }) d)) d)

end Sys2Proof.Machine
end

