-- ==== Sys2Proof/Machine/Seam.lean ====
section
/-! DEFINITION. Seams of a timing generator and frame boundaries of an input: everything that falls at them, in order (05, 06, 07,
08, 09). -/

namespace Sys2Proof.Machine

/-! ## Scalers (R340) -/

/-- The users on generator `g` take the taps and pre-decimation of the plan in force (R339, R340). -/
def settleScalers (g : Nat) (d : Dev) : Dev :=
  if d.ctl.unsettled.contains g then
    let us := (scalerPlan d).2
    let find (f : ScalerUse → Bool) : Nat × Nat := ((us.find? f).map fun x => (x.taps, x.predec)).getD (0, 1)
    let part (k : Nat) : Nat × Nat := find fun x => x.comp == k / 8 && x.user == 0x100 + (leadOf d (k / 8) * 8 + k % 8)
    let outs := (List.range 128).filter fun p => routeTg d p == g
    let layers := (List.range 576).filter fun k => compTg d (k / 8) == g
    let d' := forAll outs (fun p d => wr (K.oc_V_TAPS_USED p) (find (·.user == p)).1 (wr (K.oc_PREDEC_USED p) (find (·.user == p)).2 d)) d
    let d' := forAll layers (fun k d =>
      wr (K.ly_V_TAPS_USED k) (part k).1 (wr (K.ly_PREDEC_USED k) (part k).2 d)) d'
    { d' with ctl := { d'.ctl with unsettled := d'.ctl.unsettled.filter (· != g) } }
  else d

/-! ## Compositors -/

/-- The compositors on generator `g` that lead themselves. -/
def compsOf (d : Dev) (g : Nat) : List Nat := (List.range 72).filter fun n => compTg d n == g && leadOf d n == n

/-- Does the seam start compositor `n` anew, or end its work (R376)? `after` is the block once the seam's commits applied. An
evidence compositor that loses its last layer completes the frame being composed (R462). -/
def jobDiscarded (d after : Dev) (n : Nat) : Bool :=
  (if enabledLayers after n = [] then decide (n < 64) else (comp d n).setup != compSetup after n) || compDown d n

/-- Compositions that reach the seam unended end with it, unless the seam discards them (R369, R376). -/
def completeLate (g : Nat) (d : Dev) : Dev :=
  let open_ := (compsOf d g).filter fun n => (comp d n).job.isSome
  if open_ = [] then d
  else
    let after := applySeam g d
    forAll (open_.filter fun n => !jobDiscarded d after n) completeComp d

/-- A compositor at a seam. -/
def compSeam (n : Nat) (d : Dev) : Dev :=
  if 64 ≤ n then evidenceSeam n d
  else
    let (go, d) := compAdvance n d
    onlyIf go (compBegin n) d

/-! ## Outputs -/

/-- The event of a route that commits changed (R305, R851), and that of a changed generator (R285). -/
def routeEvents (d0 d : Dev) : Dev :=
  forAll (List.range 128) (fun p d =>
    let k := K.route_LAST_APPLIED_SEQ p
    let o := rd d0 (K.route_TG_SELECT p)
    let n := rd d (K.route_TG_SELECT p)
    let d := onlyIf (rd d0 k != rd d k) (raiseX 3 k 0 (rd d k) 0xFF 0xFFFFFFFF
      (natLE 1 (rd d (K.route_SOURCE_KIND p)) ++ natLE 1 n ++ natLE 2 (rd d (K.route_SOURCE_ID p))) none) d
    onlyIf (o != n) (raise 1 (K.route_TG_SELECT p) o n) d) d

/-- The outputs on generator `g`: those that send show their routes, the others nothing (R282). -/
def outputsSeam (g : Nat) (d : Dev) : Dev :=
  forAll ((List.range 128).filter fun p => outTg d p == g) (fun p d =>
    if outputOn d p then onlyIf (audioOn d) (embedSeam p) (routeSeam p d)
    else
      let d := embedOff p d
      if (route d p).src = 0 ∧ (route d p).shown = {} then d
      else hold (unitKey 2 p) [] (routeReport p 2 0 0 (modRoute p (fun _ => {}) d))) d

/-! ## A seam (R281, R282, R118, R222) -/

/-- A seam of generator `g`: compositions end, a realignment begins, commits apply, then converters, sets, compositors, outputs
and audio in this order. -/
def tgSeam (g : Nat) (d : Dev) : Dev :=
  let d := completeLate g d
  let d := tgRealignAtSeam g (wr (K.tg_LAST_SEAM_STC g) (stcNs d) (inc64 (K.tg_SEAM_COUNT g) d))
  let d0 := d
  let d := settleScalers g (applySeam g d)
  let d := forAll ((List.range 128).filter fun p => rd d (K.tx_TX_STATE p) != 0 && (tieOf d p).isNone && outTg d p == g) loadDrive d
  let d := switchSets g (forAll (convsOf d g) convSeam d)
  let d := forAll (compsOf d g) compSeam d
  let d := routeEvents d0 (outputsSeam g d)
  exportRecount (onlyIf (audioOn d) (fun d => capSeam g (onlyIf (rd d K.x3400_AUDIO_TG == g) audioFollow d)) d)

/-! ## Frame boundaries of an input (R256, R117) -/

/-- A frame boundary of input `p`: the frame that ends, its audio, then the commits of domain INPUT. -/
def inputBoundary (p : Nat) (f : RxFrame) (d : Dev) : Dev :=
  let d := frameEnded p f d
  applyBoundary p (onlyIf (audioOn d) (audioFrame p (stcAt d (d.now - f.periodPs)) f.periodPs) d)

/-- The signal of input `p` is lost: its pipeline, its audio, then what waited for its boundary (R270, R497, R117). -/
def inputGone (p : Nat) (part : Option RxFrame) (d : Dev) : Dev :=
  applyQuiet (onlyIf (audioOn d) (audioSignalLost p) (signalLost p part d))

/-- Is a received frame well formed: a period, and lines of one length? -/
def rxFrameOk (f : RxFrame) : Bool :=
  decide (0 < f.periodPs) && f.lines.all fun l => (l.all fun x => x.length == ((f.lines.filterMap id).headD []).length)

end Sys2Proof.Machine
end

