-- ==== Sys2Proof/Machine/Power.lean ====
section
/-! DEFINITION. Power failure, journal and replay (13): the energy reserve and the persist window, the flush sequence, resets of
the device, replay. -/

namespace Sys2Proof.Machine

def modPower (f : Power → Power) (d : Dev) : Dev := { d with power := f d.power }

def modNv (f : Nv → Nv) (d : Dev) : Dev := { d with nv := f d.nv }

/-! ## Fault records (R820) -/

/-- The fault log, oldest first: at most 256 records, those of earlier starts before those of this one. -/
def faultLog (d : Dev) : List Event :=
  let l := d.oldFaults ++ (d.evLog.filter fun e => decide (3 ≤ e.sev) && decide (d.evClearedAt < e.seq)).reverse
  l.drop (l.length - 256)

/-- The records that the NV store keeps. -/
def keptFaults (d : Dev) : List Event := (faultLog d).drop ((faultLog d).length - 64)

/-! ## The reserve and the window (R681 to R688) -/

/-- A sample of HOLDUP_SENSE: the pin voltage is code / 4096 V; the lowest of the latest ten counts (R681). Bulk voltages are kept
in mV x 2^28. -/
def holdupSample (code : Nat) (d : Dev) : Dev :=
  let l := (code * 1000 * rd d K.x1640_HOLDUP_DIVIDER :: d.power.vb).take 10
  let low := l.foldl Nat.min (l.headD 0)
  wr K.x1640_VBULK_MV (Nat.min (low / 2 ^ 28) (2 ^ 32 - 1)) (modPower (fun p => { p with vb := l, sampleAt := d.now }) d)

/-- E_res in mJ as a fraction (R682); 0 without a hold-up converter (R772). -/
def reserve (d : Dev) : Nat × Nat :=
  let v := d.power.vb.foldl Nat.min (d.power.vb.headD 0)
  let vmin := rd d K.x1640_HOLDUP_VMIN_MV * 2 ^ 28
  if bitAt (rd d K.x1C40_REDUCED) 9 then (0, 1)
  else match rd d K.x1640_HOLDUP_MODE with
    | 0 =>
      if v ≤ vmin then (0, 1)
      else (95 * rd d K.x1640_HOLDUP_EFF_PCT * rd d K.x1640_HOLDUP_C_UF * (v * v - vmin * vmin), 20000 * 1000000000 * 2 ^ 56)
    | 1 => (rd d K.x1640_HOLDUP_DECLARED_MJ, 1)
    | _ => (0, 1)

/-- The window in KiB that a reserve of n / m mJ covers (R683). -/
def windowFor (n m : Nat) : Nat := Nat.min 248 ((10 * n - 2000 * m) / (88 * m))

/-- The 1 ms update (R682 to R688): a smaller figure counts at once, a larger one after it has held for 100 ms. -/
def reserveUpdate (d : Dev) : Dev :=
  let (n, m) := reserve d
  let w := windowFor n m
  let was := rd d K.x1640_WINDOW_KIB
  let figs := (d.now, w) :: d.power.figs
  let recent := figs.takeWhile fun x => decide (d.now < x.1 + ms 100)
  let older := (figs.drop recent.length).take 1
  let held := (recent ++ older).foldl (fun a x => Nat.min a x.2) w
  let new := if w ≤ was then w else if older = [] then was else max was held
  let d := modPower (fun p => { p with figs := recent ++ older, reserveAt := d.now }) d
  let d := wr K.x1640_RESERVE_MJ (n / m) (wr K.x1640_WINDOW_KIB new d)
  nvCovered (pbState (wr K.x5107_K_E (if new = 248 then 1024 else 512) d))

/-! ## Resets of the device (R705, R767, R768, R780) -/

/-- The device resets; `by_` is the cause of R778. What flash, OTP and the pins hold stays, with the scope, mode and node ID in force;
everything else is as after reset. The start that leaves RECOVERY has cause 6 (R781). -/
def restart (by_ : Nat) (d : Dev) : Dev :=
  let cause := if rd d K.x1C40_BOOT_STEP = 0xFE then 6 else by_
  let n := if by_ = 4 then Nat.min (rd d K.x1C40_RESTARTS + 1) 255 else 0
  let fresh : Dev := {
    now := d.now, free := d.free, host := { out := d.host.out }
    nv := { d.nv with
      buf := [], toCopy := [], posRec := 0, posTab := 0, volatileOnly := false
      faults := if rd d K.x1A00_NV_STATE = 2 then keptFaults d else d.nv.faults }
    ev := { chains := (chainsLost d).ev.chains }
    power := { psafe := d.power.psafe, thermTrip := d.power.thermTrip }
    boot := {
      resetN := by_ == 2, perst := d.boot.perst, scope := d.boot.scope, compat := d.boot.compat, nodeId := d.boot.nodeId
      nextCause := some cause, otp := d.boot.otp, compatDue := by_ != 4 } }
  wr K.x1602_LAST_STOP_CAUSE d.nv.lastStop (wr K.x1640_RESTART_CAUSE d.nv.restartCause (wr K.x1C40_RESTARTS n fresh))

/-! ## The flush sequence (R689 to R696, R768, R776) -/

/-- The ledger with the entry of this start changed. -/
def modThisEntry (f : LedgerEntry → LedgerEntry) (l : List LedgerEntry) : List LedgerEntry :=
  (modFirst (fun e => !e.reset) f l.reverse).reverse

/-- A start that has not ended S24 is marked in its ledger entry (R776). -/
def ledgerAbort (d : Dev) : Dev :=
  if d.boot.started ∧ rd d K.x1C40_BOOT_STEP ≠ 0x19 then
    modNv (fun n => { n with ledger := modThisEntry (fun e => { e with abort := true }) n.ledger }) d
  else d

/-- A record in the flush area: it waits behind everything in the buffer, outside its occupancy (R690). -/
def flushItem (key : Nat) (payload : List Byte) (d : Dev) : Dev :=
  let x : PbItem := { id := d.nv.nextId, recd := { key := key, seq := d.nv.nextSeq, payload := payload }, inBuf := true }
  modNv (fun n => { n with buf := n.buf ++ [x], nextId := n.nextId + 1, nextSeq := n.nextSeq + 1 }) d

/-- PSAFE is asserted; THERM_TRIP_N goes low with it after an orderly stop (R689, R762, R763). -/
def assertPsafe (d : Dev) : Dev :=
  let d := modPower (fun p => { p with flush := none, psafe := true, thermTrip := p.thermTrip || p.tripOwed, tripOwed := false }) d
  { d with boot := { d.boot with nextCause := none } }

/-- The flush sequence begins (R689, R762, R768): admission stops, what has not been taken is lost, the link goes down, the chain
states and the power-loss record enter the flush area. Before the mount nothing is formed (R695). -/
def flushStart (cause : Nat) (d : Dev) : Dev :=
  if rd d K.x1A00_NV_STATE ≠ 2 then (if cause ≤ 1 then assertPsafe d else restart cause d)
  else
    let d := modPower (fun p => { p with flush := some (d.now, occupancy d + 8192, cause), flushFails := 0 })
      (modNv (fun n => { n with buf := n.buf.filter (·.inBuf), restartCause := 2 }) d)
    let d := formLossRecord (stcNs d) (wr K.x3C00_LINK_STATE 0 d)
    let d := forAll ((List.range 8).filter fun e => (chain d e).formed) (fun e d => flushItem (0xF010 + e) (chainPayload (chain d e)) d) d
    flushItem 0x1830 (objPayload d 0x1830 0) d

/-- The flush-complete marker and the figures of a flush that ends with PSAFE (R688, R716). -/
def flushMarker (t0 : Ps) (bytes cause : Nat) (d : Dev) : Dev :=
  let d := if cause ≤ 1 then
      wr K.x1640_LAST_FLUSH_BYTES bytes (wr K.x1640_LAST_FLUSH_US (Nat.min ((d.now - t0) / 1000000) (2 ^ 32 - 1))
        (incSat 32 K.x1640_FLUSH_COUNT d))
    else d
  let d := flushItem 0xF020 (natLE 4 (rd d K.x1640_FLUSH_COUNT) ++ natLE 4 (rd d K.x1640_LAST_FLUSH_US) ++
    natLE 4 (rd d K.x1640_LAST_FLUSH_BYTES)) d
  modNv (fun n => { n with restartCause := if cause ≤ 1 then 1 else 0 }) d

/-- Every item of the buffer is programmed. -/
def drainAll : Nat → Dev → Dev
  | 0, d => d
  | n + 1, d => drainAll n (drainOne d)

/-- The flush ends, complete or cut short by a second failed program (R691, R693, R768). -/
def flushEnd (complete : Bool) (d : Dev) : Dev :=
  match d.power.flush with
  | none => d
  | some (t0, bytes, cause) =>
    let d := if complete then (let d := flushMarker t0 bytes cause (drainAll d.nv.buf.length d); drainAll d.nv.buf.length d)
      else modNv (fun n => { n with buf := [] }) d
    if cause ≤ 1 then
      (let owed := d.power.resetOwed
       let d := assertPsafe d
       match owed with
       | some c => restart c d
       | none => d)
    else restart cause d

/-- PFAIL_N is accepted, or a rail falls (R184, R689, R693, R763): the bucket is emptied; a reset that flushes already goes on to PSAFE. -/
def pfail (d : Dev) : Dev :=
  if d.power.psafe ∨ d.power.stopped then d
  else
    let d := wr K.x5107_TOKENS_HELD 0 d
    match d.power.flush with
    | some (t0, bytes, c) =>
      if c ≤ 1 then d else modPower (fun p => { p with flush := some (t0, bytes, 0), resetOwed := some c }) d
    | none => flushStart 0 (ledgerAbort d)

/-- A device-scope reset by RESET_N or PERST# (R693, R764, R768): at once from PSAFE and from a stop, else after the flush. -/
def deviceReset (cause : Nat) (d : Dev) : Dev :=
  if d.power.psafe ∨ d.power.stopped then restart cause d
  else match d.power.flush with
    | some (t0, bytes, c) =>
      if c ≤ 1 then modPower (fun p => { p with resetOwed := some cause }) d
      else modPower (fun p => { p with flush := some (t0, bytes, cause) }) d
    | none => flushStart cause (ledgerAbort d)

/-- An internal restart (R768, R773). -/
def internalRestart (d : Dev) : Dev := if d.power.flush.isSome then d else flushStart 4 d

/-- Power returns after PSAFE (R696). -/
def powerReturn (d : Dev) : Dev :=
  if d.power.psafe ∧ !d.boot.resetN then
    modPower (fun p => { p with psafe := false })
      (restart 5 (modNv (fun n => { n with restartCause := if n.restartCause = 2 then 2 else 3 }) d))
  else d

/-- A comparator reaches T_ABS (R735, R765): clocks stop, a program under way is abandoned, the buffer is not drained, THERM_TRIP_N goes low,
PSAFE stays low. -/
def absTrip (d : Dev) : Dev :=
  modPower (fun p => { p with flush := none, psafe := false, stopped := true, thermTrip := true })
    (modNv (fun n => { n with restartCause := 2, lastStop := 2 }) (tear d))

/-- A page program fails while the buffer drains (R691, R724): the second failure of a flush ends its drain. -/
def drainFails (d : Dev) : Dev :=
  if d.power.flush.isSome then
    if d.power.flushFails = 0 then modPower (fun p => { p with flushFails := 1 }) (programFails d) else flushEnd false (programFails d)
  else programFails d

/-! ## Replay (R700 to R704, R709) -/

/-- The order in which kinds are replayed. -/
def replayOrder : List Nat := [2, 3, 4, 5, 6, 1]

/-- The open entries of a scope in the order of R700. -/
def replayList (d : Dev) (scope : Option Nat) : List JEntry :=
  replayOrder.flatMap fun k => d.jr.entries.filter fun e => e.kind == k && scope.all fun r => e.scope == r

/-- Is this entry one of a commit that has reached ARMED (R704)? -/
def armedEntry (d : Dev) (e : JEntry) : Bool := e.kind == 2 && ((commitIn d e.unit).any fun c => c.phase == 2)

/-- A queue descriptor runs again (R629 to R631, R701); one of a queue that drains completes CANCELLED and REPLAYED (R813). -/
def replayDescr (e : JEntry) (d : Dev) : Dev :=
  let q := e.unit % 65536
  let r := e.unit / 65536
  if (queue d q).st = 3 then finishDescr q r 1 0 0 0 false (modDescr q r (fun x => { x with replayed := true }) d)
  else
    match (queue d q).descs.find? fun x => x.ring == r with
    | some x =>
      if isFence x.bytes ∨ dOpcode x.bytes = 1 then d
      else modQ q (fun c => { c with rerun := if c.rerun.contains r then c.rerun else c.rerun ++ [r] }) d
    | none => d

/-- One entry is replayed (R701). What goes on by itself from its checkpoint (a commit's remaining domains, a write that waits, a
missing signature, a long operation) needs no more than its entry; an export writes the units of its record again (R473). -/
def replayEntry (e : JEntry) (d : Dev) : Dev :=
  let d := jMod (fun x => x.opSeq == e.opSeq) (fun x => { x with replays := Nat.min (x.replays + 1) 255 }) d
  match e.kind with
  | 1 => replayDescr e d
  | 3 => if e.checkpoint = 1 then jClose (fun x => x.opSeq == e.opSeq) d else d
  | 4 => if e.checkpoint = 1 then jClose (fun x => x.opSeq == e.opSeq) d else d
  | 6 => (if rd d (K.slot_OPCODE e.unit) = 0x21 ∧ (slotRun d e.unit).pos ≠ 0 then
      let x := slotRun d e.unit
      let ends := match nextExport (chain d (arg d e.unit 6)) with
        | some r => unitEnds 0 (recordUnits (chain d (arg d e.unit 6)) r false false)
        | none => []
      modSlot e.unit (fun x => { x with pos := 0, aux := setAt x.aux 3 1 }) (streamBack (arg d e.unit 7) x.pos ends d)
    else d)
  | _ => d

/-- An entry is abandoned (R703). -/
def abandonEntry (e : JEntry) (d : Dev) : Dev :=
  let d := raiseX 0x14 K.x1C30_ABANDONED_OPS 0 e.opSeq 0xFF 0xFFFFFFFF (natLE 1 e.kind) (some 4) (incSat 32 K.x1C30_ABANDONED_OPS d)
  let d := match e.kind with
    | 1 =>
      let q := e.unit % 65536
      let r := e.unit / 65536
      finishDescr q r 1 ((((queue d q).descs.find? fun x => x.ring == r).map (·.moved)).getD 0) 0 0 false
        (modDescr q r (fun x => { x with replayed := true }) d)
    | 2 => (match commitIn d e.unit with
      | some c => commitEnd c 4 4 0 d
      | none => d)
    | 6 => endSlot e.unit 4 d
    | _ => d
  onlyIf (e.kind != 1) (jClose fun x => x.opSeq == e.opSeq) d

/-- A replay run (R700 to R704); the figure of its duration is free. -/
def replayRun (cause : Nat) (scope : Option Nat) (lost : List Nat) (d : Dev) : Dev :=
  let l := replayList d scope
  let gone (e : JEntry) : Bool := (decide (3 ≤ e.replays) || lost.contains e.opSeq) && !armedEntry d e
  let n := (l.filter fun e => !gone e).length
  let d := wr K.x1C30_LAST_REPLAY_STC (stcNs d) (wr K.x1C30_LAST_REPLAY_CAUSE cause (incSat 32 K.x1C30_REPLAY_RUNS d))
  let d := forAll l (fun e d => if gone e then abandonEntry e d else replayEntry e d) d
  let (us_, d) := fresh d
  let d := wr K.x1C30_LAST_REPLAY_US (us_ % 2 ^ 32) (addSat 64 K.x1C30_REPLAYED_OPS n d)
  raiseX 0x13 K.x1C30_REPLAY_RUNS 0 n 0xFF 0xFFFFFFFF (natLE 1 cause) none d

end Sys2Proof.Machine
end

