-- ==== Sys2Proof/Machine/Thermal.lean ====
section
/-! DEFINITION. Thermal management (15): samples, dwell, level, request and enforcement. Readings are in 1/8 °C. -/

namespace Sys2Proof.Machine

def modTherm (f : Thermal → Thermal) (d : Dev) : Dev := { d with therm := f d.therm }

/-- The threshold `i` (T_WARN, T_SLOW, T_CRIT, T_TRIP) as sensor `j` is compared with it: a stack sensor against the threshold
minus STACK_DERATE (R749). -/
def thresholdAt (d : Dev) (i j : Nat) : Int :=
  let c : Int := rd d (K.x1600_T_WARN_C + i)
  8 * (if j < 32 then c else c - (rd d K.x1600_STACK_DERATE_C : Nat))

/-- Is threshold `i`, or the rate-of-rise limit (4), enabled (R752)? -/
def thresholdOn (d : Dev) (i : Nat) : Bool := i == 3 || bitAt (rd d K.x1600_THRESH_ENABLE) (if i = 4 then 3 else i)

/-- The rate of rise of sensor `j` in units of 1/8 °C in 100 ms, none without a sample 100 ms earlier (R748). -/
def riseOf (d : Dev) (now : List (Option Int)) (j : Nat) : Option Int :=
  match now.getD j none, (d.therm.samples.find? fun s => decide (s.1 + ms 100 ≤ d.now)).bind fun s => s.2.getD j none with
  | some a, some b => some (a - b)
  | _, _ => none

/-- Runs of samples toward entry and toward exit after one more sample (R754): a failed sensor counts for neither. -/
def runNext (above below : Bool) (r : Nat × Nat) : Nat × Nat :=
  (if above then Nat.min (r.1 + 1) 5 else 0, if below then Nat.min (r.2 + 1) 5 else 0)

/-- The runs of threshold or limit `i` for every sensor. -/
def runsNext (d : Dev) (now : List (Option Int)) (i : Nat) : List (Nat × Nat) :=
  (List.range 36).map fun j =>
    let r := (d.therm.dwell.getD i []).getD j (0, 0)
    match now.getD j none with
    | none => (0, 5)
    | some v =>
      if i < 4 then runNext (decide (thresholdAt d i j ≤ v)) (decide (v ≤ thresholdAt d i j - 16)) r
      else
        let x := (riseOf d now j).getD 0
        let lim : Int := rd d K.x1600_RISE_LIMIT
        runNext (decide (2 * lim < 25 * x)) (decide (25 * x ≤ 2 * (lim - 10))) r

/-- Is a threshold or limit entered after the sample (R754)? -/
def enteredNext (d : Dev) (runs : List (Nat × Nat)) (i : Nat) : Bool :=
  thresholdOn d i &&
    (if d.therm.entered.getD i false then runs.any fun r => decide (r.2 < 5) else runs.any fun r => decide (5 ≤ r.1))

/-- Does a region have fewer than four die sensors that work (R750)? -/
def regionBlind (now : List (Option Int)) : Bool :=
  (List.range 4).any fun r => decide ((((now.drop (8 * r)).take 8).filter (·.isSome)).length < 4)

/-- The thermal level (R755): 0 NORMAL, 1 WARN, 2 SLOW, 3 CRIT, 4 TRIP. -/
def levelOf (e : List Bool) (blind : Bool) : Nat :=
  if e.getD 3 false then 4 else if e.getD 2 false then 3 else if e.getD 1 false || e.getD 4 false || blind then 2
  else if e.getD 0 false then 1 else 0

/-- The reading that counts for the hottest sensor (R749). -/
def effective (d : Dev) (j : Nat) (v : Int) : Int := if j < 32 then v else v + 8 * (rd d K.x1600_STACK_DERATE_C : Nat)

/-- The hottest working sensor, the first of equals. -/
def hottest (d : Dev) (now : List (Option Int)) : Option (Nat × Int) :=
  (List.range 36).foldl (fun a j =>
    match now.getD j none, a with
    | none, _ => a
    | some v, none => some (j, v)
    | some v, some (k, w) => if effective d k w < effective d j v then some (j, v) else a) none

/-- k_T in 160ths (R183, R755). -/
def kTOf (d : Dev) (now : List (Option Int)) (level : Nat) : Nat :=
  match level with
  | 0 =>
    (match hottest d now with
     | none => 160
     | some (j, v) => 80 + clampI 0 80 (thresholdAt d 0 0 - effective d j v))
  | 4 => 0
  | _ => 40

/-- Is some sensor near an enabled threshold, or rising by more than 0.5 °C/s (R747)? -/
def sampleFast (d : Dev) (now : List (Option Int)) : Bool :=
  (List.range 36).any fun j =>
    match now.getD j none with
    | none => false
    | some v =>
      ((List.range 4).any fun i => thresholdOn d i && decide (thresholdAt d i j - 32 ≤ v) && decide (v ≤ thresholdAt d i j + 32)) ||
        (riseOf d now j).any fun x => decide (10 < 25 * x)

/-- What the sensors read is reported (R747, R750, R751, R766). -/
def reportSample (now : List (Option Int)) (d : Dev) : Dev :=
  let failed := (List.range 36).foldl (fun a j => if (now.getD j none).isNone then a + 2 ^ j else a) 0
  let new := (List.range 36).any fun j => bitAt failed j && !bitAt (rd d K.x1602_FAILED_SENSORS) j
  let rises := (List.range 36).filterMap (riseOf d now)
  let top := rises.foldl max (rises.headD 0)
  let d := forAll (List.range 36) (fun j d => wr (K.x1601_DIE_T j) (match now.getD j none with
    | none => 0x8000
    | some v => satTc 16 v) d) d
  let d := onlyIf new (condition K.x1602_FAILED_SENSORS) (wr K.x1602_FAILED_SENSORS failed d)
  let d := match hottest d now with
    | some (j, v) => wr K.x1602_HOTTEST_SENSOR (j + 1) (wr K.x1602_HOTTEST_T (satTc 16 v) d)
    | none => d
  let d := wr K.x1602_MAX_RISE (satTc 16 (25 * top / 2)) d
  let fast := sampleFast d now
  let quiet := if fast then 0 else d.therm.quiet + 1
  wr K.x1602_SAMPLE_MS (if fast then 1 else if 100 ≤ quiet then 10 else rd d K.x1602_SAMPLE_MS)
    (modTherm (fun t => { t with quiet := Nat.min quiet 100 }) d)

/-- SHED_STEP takes a value (R758, R761, R766). -/
def setShed (n : Nat) (d : Dev) : Dev :=
  if rd d K.x1602_SHED_STEP = n then d else change K.x1602_SHED_STEP n (modTherm (fun t => { t with stepAt := d.now }) d)

/-- The request begins or ends with the level (R756, R757). -/
def requestNext (was level : Nat) (d : Dev) : Dev :=
  let d := if level = 0 then d else
    let up (x : Nat) : Nat := Nat.min (x + rd d K.x1600_REQUEST_HEADROOM_MBPS) (2 ^ 32 - 1)
    wr K.x1602_CEILING_D2H_MBPS (up (rd d K.x5102_HOST_SHARE_D2H_MBPS))
      (wr K.x1602_CEILING_H2D_MBPS (up (rd d K.x5102_HOST_SHARE_H2D_MBPS)) d)
  if was = 0 ∧ level ≠ 0 then
    condition K.x1602_THROTTLE_FLAG (wr K.x1602_THROTTLE_FLAG 1
      (modTherm (fun t => { t with graceEnd := d.now + ms (rd d K.x1600_GRACE_MS) }) d))
  else if was ≠ 0 ∧ level = 0 then
    condition K.x1602_THROTTLE_FLAG (wr K.x1602_THROTTLE_FLAG 0
      (wr K.x1602_CEILING_D2H_MBPS 0xFFFFFFFF (wr K.x1602_CEILING_H2D_MBPS 0xFFFFFFFF d)))
  else d

/-- Enforcement follows the level (R758, R760, R761). -/
def enforceNext (was level : Nat) (d : Dev) : Dev :=
  let st := rd d K.x1602_SHED_STEP
  if level = 3 then setShed 4 d
  else if level = 2 then
    (if st = 4 then setShed 3 d
     else if st = 0 then (if d.therm.graceEnd ≤ d.now then setShed 1 d else d)
     else if was < 2 then modTherm (fun t => { t with stepAt := d.now }) d
     else d)
  else if level < 2 ∧ 2 ≤ was ∧ 0 < st then setShed (Nat.min st 3 - 1) d
  else d

/-- TRIP is entered: an orderly stop, or THERM_TRIP_N with PSAFE where a flush already runs (R762, R763). -/
def tripNow (d : Dev) : Dev :=
  let d := modPower (fun p => { p with tripOwed := true }) d
  if d.power.flush.isSome then d else flushStart 1 (modNv (fun n => { n with lastStop := 1 }) d)

/-- A sample of all sensors (R747 to R762). -/
def thermalSample (now : List (Option Int)) (d : Dev) : Dev :=
  let was := rd d K.x1602_THERMAL_LEVEL
  let runs := (List.range 5).map (runsNext d now)
  let e := (List.range 5).map fun i => enteredNext d (runs.getD i []) i
  let level := levelOf e (regionBlind now)
  let d := incSatIf (e.getD 2 false && !d.therm.entered.getD 2 false) d
  let d := reportSample now d
  let d := wr K.x1602_RISE_ENTERED (if e.getD 4 false then 1 else 0) (modTherm (fun t => { t with
    dwell := runs, entered := e
    samples := (d.now, now) :: t.samples.takeWhile fun s => decide (d.now < s.1 + ms 200) }) d)
  let k := kTOf d now level
  let d := wr K.x5107_K_T (k * 1024 / 160) { d with ctl := { d.ctl with kT160 := k } }
  let d := enforceNext was level (requestNext was level (change K.x1602_THERMAL_LEVEL level d))
  if level = 4 then tripNow d else d
where
  /-- T_CRIT entered is counted (R766). -/
  incSatIf (c : Bool) (d : Dev) : Dev := onlyIf c (incSat 32 K.x1602_CRIT_ENTRIES) d

/-- A sample while a flush runs: only TRIP counts (R763, R694). -/
def flushSample (now : List (Option Int)) (d : Dev) : Dev :=
  let runs := (List.range 5).map (runsNext d now)
  let e := (List.range 5).map fun i => enteredNext d (runs.getD i []) i
  let d := modTherm (fun t => { t with dwell := runs, entered := e, samples := [(d.now, now)] }) d
  if e.getD 3 false then tripNow d else d

/-- Does a sample fall due (R747)? -/
def sampleDue (d : Dev) : Bool :=
  match d.therm.samples with
  | [] => true
  | s :: _ => decide (s.1 + ms (rd d K.x1602_SAMPLE_MS) ≤ d.now)

end Sys2Proof.Machine
end

