-- ==== Sys2Proof/Machine/Boot.lean ====
section
/-! DEFINITION. Start-up and the boot ledger (16): the ledger, plans, boot steps and what they leave, restore, RECOVERY. -/

namespace Sys2Proof.Machine

def modBoot (f : Boot → Boot) (d : Dev) : Dev := { d with boot := f d.boot }

/-! ## The table of R771 -/

/-- Kind of step `n`: 0 FIXED, 1 ALT, 2 SKIP. -/
def stepKind (n : Nat) : Nat :=
  [0, 0, 0, 0, 1, 0, 2, 1, 1, 1, 2, 0, 0, 1, 2, 2, 0, 2, 0, 0, 2, 0, 0, 2, 0].getD n 0

/-- What a failure of step `n` does: 0 hold, 1 RECOVERY, 2 continue, 3 restart. -/
def stepOnFail (n : Nat) : Nat :=
  [0, 0, 0, 1, 2, 1, 2, 2, 3, 3, 2, 3, 3, 2, 2, 2, 2, 2, 3, 2, 2, 3, 2, 2, 3].getD n 2

/-- Limit of step `n` in ms; none for S01 and S02. -/
def stepLimit (n : Nat) : Option Nat :=
  match [0, 0, 0, 10, 80, 250, 3000, 50, 100, 100, 2000, 500, 20, 2000, 20, 20, 20, 10, 20, 100, 20, 20, 100, 10, 1000].getD n 0 with
  | 0 => none
  | l => some l

/-- The bit of [1C40:03] that step `n` costs when it is skipped or fails and the start goes on. -/
def stepBit : Nat → Option Nat
  | 4 => some 4
  | 6 => some 6
  | 7 => some 2
  | 9 => some 0
  | 10 => some 3
  | 13 => some 7
  | 14 => some 8
  | 15 => some 8
  | 17 => some 9
  | 20 => some 14
  | 23 => some 15
  | _ => none

/-- A reduced capability is noted (R771, R772). -/
def reduce (bit : Nat) (d : Dev) : Dev := wr K.x1C40_REDUCED (setBitAt (rd d K.x1C40_REDUCED) bit true) d

def reduced (d : Dev) (bit : Nat) : Bool := bitAt (rd d K.x1C40_REDUCED) bit

/-! ## The summit register (R774 to R779) -/

/-- The 128 bytes of a ledger entry as programmed so far (R778). -/
def ledgerBytes (e : LedgerEntry) : List Byte :=
  let head := (if e.reset then ascii "SUMR" else ascii "SUM1") ++ natLE 4 e.startSeq ++
    (if e.reset then [0, 0, 0, 0] ++ natLE 4 e.mask ++ List.replicate 20 0
     else natLE 1 e.cause ++ natLE 1 e.slot ++ [0, 0] ++ (List.range 24).flatMap fun i => natLE 1 (e.plan.getD i 0)) ++
    List.replicate 8 0
  let pair (i : Nat) : List Byte := match e.outcome.getD i none with
    | some c => natLE 1 c ++ natLE 1 (255 - c)
    | none => [0xFF, 0xFF]
  head ++ natLE 4 (crc32c head) ++ [0x00, if e.abort then 0x50 else 0xFF, 0xFF, 0xFF] ++
    (List.range 24).flatMap (fun i => if e.reset then [0xFF, 0xFF] else pair i) ++ List.replicate 28 0xFF

/-- Does a reset entry cover step `s` (R798)? -/
def covers (e : LedgerEntry) (s : Nat) : Bool := e.reset && (e.mask == 0 || bitAt e.mask (s - 1))

/-- The entries that count for step `s`, newest first (R775). -/
def countedFor (l : List LedgerEntry) (s : Nat) : List LedgerEntry := (l.reverse.takeWhile fun e => !covers e s).filter fun e => !e.reset

/-- Did the start of an entry end before step `s` by an earlier step that failed? -/
def endedBefore (e : LedgerEntry) (s : Nat) : Bool :=
  (List.range s).any fun j => j != 0 && e.outcome.getD (j - 1) none == some 3 && stepOnFail j != 2

/-- Is an entry a try of step `s` (R775)? A start that an earlier step ended never came to step `s` (log entry 41). -/
def isTry (s : Nat) (e : LedgerEntry) : Bool := decide (e.plan.getD (s - 1) 0 ≤ 1) && !e.abort && !endedBefore e s

/-- The outcome of step `s`; absent counts as FAIL. -/
def failedStep (s : Nat) (e : LedgerEntry) : Bool := match e.outcome.getD (s - 1) none with
  | none => true
  | some c => c == 3

/-- The plan of step `s` (R775): 0 PRIMARY, 1 ALTERNATE, 2 SKIP, 3 SKIP_PERMANENT. -/
def planStep (l : List LedgerEntry) (s : Nat) : Nat :=
  let c := countedFor l s
  let p : Nat := ((c.head?).map fun e => e.plan.getD (s - 1) 0).getD 0
  let t := c.filter (isTry s)
  let failed (i : Nat) : Bool := (t[i]?).any (failedStep s)
  let altAt (i : Nat) : Bool := (t[i]?).any fun e => e.plan.getD (s - 1) 0 == 1
  if s = 5 then 0
  else if p = 3 then 3
  else if stepKind s = 0 ∨ !failed 0 then 0
  else if stepKind s = 1 then (if altAt 0 ∧ altAt 1 ∧ failed 1 then 3 else 1)
  else if p = 2 then 0
  else if failed 1 then 3
  else 2

/-- This start's entry. -/
def thisEntry (d : Dev) : LedgerEntry := (d.nv.ledger.reverse.find? fun e => !e.reset).getD {}

def planned (d : Dev) (s : Nat) : Nat := (thisEntry d).plan.getD (s - 1) 0

/-- The outcome of step `s` is programmed (R778). -/
def record (s code : Nat) (d : Dev) : Dev :=
  modNv (fun n => { n with ledger := modThisEntry (fun e => { e with outcome := setAt e.outcome (s - 1) (some code) }) n.ledger }) d

/-- Has step `s` failed in this try and the two before it (R774)? -/
def thirdFail (d : Dev) (s : Nat) : Bool :=
  let t := (countedFor d.nv.ledger s).filter (isTry s)
  decide (3 ≤ t.length) && (t.take 3).all (failedStep s)

/-! ## Firmware slots (R783 to R785, R793) -/

/-- The image of slot `x` with what the flash holds of it. -/
def fwSlot (d : Dev) (x : Nat) : FwSlot := tabGet {} d.nv.fw x

/-- Do the rules of R784 that depend on OTP hold for an image whose digest and vendor signatures hold? -/
def fwAllowed (d : Dev) (x : FwSlot) : Bool :=
  decide (d.boot.otp.svn ≤ x.svn) &&
    (d.boot.otp.policy == 0 || (x.ownerSigned && d.boot.otp.keys.any fun p => p.2 == x.ownerKey))

/-- SLOT_STATE (R784, R793). -/
def fwState (d : Dev) (x : FwSlot) : Nat :=
  if !x.present then 0 else if !x.valid then 2 else if x.svn < d.boot.otp.svn then 3 else if fwAllowed d x then 1 else 2

/-- [1801:02] to [1801:09] (R780, R793). -/
def fwReport (d : Dev) : Dev :=
  let d := forAll (List.range 2) (fun i d =>
    let x := fwSlot d i
    wr (K.x1801_SLOT_STATE i) (fwState d x) (wr (K.x1801_SLOT_VERSION i) x.version (wr (K.x1801_SLOT_SVN i) x.svn d))) d
  wr K.x1801_PREFERRED_SLOT (d.nv.bootCfg.getD 0 0) (wr K.x1801_TRY_SLOT (d.nv.bootCfg.getD 1 0xFF) d)

/-- A byte of the boot configuration is written (R780; at once, log entry 42). -/
def setBootCfg (i v : Nat) (d : Dev) : Dev := fwReport (modNv (fun n => { n with bootCfg := setAt n.bootCfg i v }) d)

/-- [1800:01] to [1800:04] read what OTP holds (R793). -/
def otpReport (d : Dev) : Dev :=
  wr K.x1800_LIFECYCLE d.boot.otp.lifecycle (wr K.x1800_OWNER_POLICY d.boot.otp.policy
    (wr K.x1800_OWNER_SLOTS d.boot.otp.slots (wr K.x1800_OTP_SVN d.boot.otp.svn d)))

/-! ## Restore (R165, R166, R717, R732) -/

/-- The items of a configuration payload after its first four bytes: sub-index and value (R717). -/
def parseItems : Nat → List Byte → List (Nat × List Byte)
  | 0, _ => []
  | n + 1, l =>
    if l.length < 6 then []
    else
      let len := leAt l 2 4
      (leAt l 0 1, slice 6 len l) :: parseItems n (l.drop (6 + len))

/-- The keys below 0x7000 that the store holds. -/
def storedObjects (d : Dev) : List Nat :=
  (keysOf (ringRecs d 0 ++ ringRecs d 1 ++ ringRecs d 2 ++ ringRecs d 3)).filter fun k => decide (k < 0x7000)

/-- Every stored entry with its value. -/
def storedItems (d : Dev) : List Staged :=
  sortStaged ((storedObjects d).flatMap fun i =>
    match mounted d i with
    | some (_, p) => ((parseItems 256 (p.drop 4)).map fun x => ({ key := i * 256 + x.1, val := x.2 } : Staged)).filter fun x =>
        (rowOf x.key).any rowStored
    | none => [])

/-- Stored entries that other rules read back: the flush figures, the stop cause, the fault log, KEY_EPOCH, the power-loss record, the
retired list. -/
def readElsewhere : List Nat :=
  [K.x1640_FLUSH_COUNT, K.x1640_LAST_FLUSH_US, K.x1640_LAST_FLUSH_BYTES, K.x1602_LAST_STOP_CAUSE, 0x1C10 * 256 + 2,
   K.x1830_KEY_EPOCH, K.x1830_POWER_LOSS_RECORD, K.x3800_RETIRED_LIST]

/-- The INSTANT entries held in NV take their stored values. -/
def restoreInstant (l : List Staged) (d : Dev) : Dev :=
  let d := putValues (l.filter fun x => (rowOf x.key).any (fun r => r.cls == .instant) && !readElsewhere.contains x.key) d
  forAll (l.filter fun x => (rowOf x.key).any fun r => r.cls == .long) (fun x d =>
    let n := x.key / 256 - 0x3000
    wrB x.key x.val (wr (K.cs_SET_STATE n) 1 (wr (K.cs_SET_CRC n) (leAt x.val 8 4) d))) d

/-- The committed configuration in the store; the equalisation tables are loaded at S07. -/
def storedConfig (l : List Staged) : List Staged :=
  l.filter fun x => x.key / 256 != 0x2120 && (rowOf x.key).any fun r => r.cls == .staged

/-- The lenders that some restored values need (R324). -/
def restoreLenders (base : Dev) (l : List Staged) : List Staged × Bool :=
  let d1 := putValues l base
  let (lend, lf) := chooseLenders base d1
  (lenderItems d1 lend, lf == [])

/-- Does a configuration fit the capacity of the units in service (R165)? -/
def configFits (base : Dev) (l : List Staged) : Bool :=
  let (items, ok) := restoreLenders base l
  let d1 := putValues items (putValues l base)
  let (short, us) := scalerPlan d1
  let t := tally (charges d1)
  ok && short == [] && limitFails d1 t t 0 == [] && decide (sumOf t 0 0 ≤ pageLimit d1) && disabledFails d1 us == []

/-- The charged items of domains INPUT and CHIP in the order of R166: each a list of entries that carry a charge. -/
def chargedItems (full : Dev) (l : List Staged) : List (List Staged) :=
  let obj (i : Nat) (subs : List Nat) : List Staged := l.filter fun x => x.key / 256 == i && subs.contains (x.key % 256)
  let port (p : Nat) : List Staged := obj (0x2000 + p) [1, 2] ++ obj (0x2400 + p) [1, 2, 3]
  let lanes (p : Nat) : List Staged := match rxAssembly full p with
    | some ms => if ms.head? = some p then ms.flatMap port ++ obj (0x2200 + p / 4) [1] else []
    | none => port p
  ((List.range 64).flatMap (fun f => [obj (0x3C10 + f) [1], obj (0x3C10 + f) [2]]) ++ (List.range 64).map (fun w => obj (0x3840 + w) [1]) ++
    (List.range 16).map (fun b => obj (0x2220 + b) [1]) ++ (List.range 128).map lanes).filter (· != [])

/-- The ports whose inputs an item holds. -/
def portsOf (l : List Staged) : List Nat :=
  (l.flatMap fun x =>
    let i := x.key / 256
    if 0x2000 ≤ i ∧ i < 0x2080 then [i - 0x2000] else if 0x2400 ≤ i ∧ i < 0x2480 then [i - 0x2400]
    else if 0x2220 ≤ i ∧ i < 0x2230 then (List.range 5).map (8 * (i - 0x2220) + ·) else []).eraseDups

/-- Does an entry of a generator's domain name one of some ports (R166)? -/
def namesPort (full : Dev) (ports : List Nat) (x : Staged) : Bool :=
  let i := x.key / 256
  let s := x.key % 256
  let v := leNat x.val
  if 0x4000 ≤ i ∧ i < 0x4080 ∧ s = 2 then rd full (K.route_SOURCE_KIND (i - 0x4000)) == 1 && ports.contains v
  else if 0x2900 ≤ i ∧ i < 0x2B40 ∧ x.key = K.ly_SRC_ID (i - 0x2900) then rd full (K.ly_SRC_KIND (i - 0x2900)) == 1 && ports.contains v
  else if 0x1440 ≤ i ∧ i < 0x1448 ∧ x.key = K.tg_LOCK_SOURCE (i - 0x1440) then decide (0x100 ≤ v) && ports.contains (v - 0x100)
  else if (0x3580 ≤ i ∧ i < 0x3600 ∧ (List.range 32).any fun c => x.key == K.eo_CH_SOURCE (i - 0x3580) c) ∨
      (0x3430 ≤ i ∧ i < 0x3438) then decide (v < 0x1000) && ports.contains (v / 32)
  else false

/-- Items are restored one by one; those that do not fit stay at defaults (R166). The answer: what is restored, what is left. -/
def restoreEach (base : Dev) : List (List Staged) → List Staged → List (List Staged) → List Staged × List (List Staged)
  | [], acc, left => (acc, left)
  | x :: r, acc, left =>
    if configFits base (sortStaged (acc ++ x)) then restoreEach base r (sortStaged (acc ++ x)) left
    else restoreEach base r acc (left ++ [x])

/-- The restored configuration and the entries that events name for what is left at defaults (R165, R166). -/
def chooseRestore (base : Dev) (l : List Staged) : List Staged × List Nat :=
  if l = [] ∨ configFits base l then (l, [])
  else
    let full := putValues l base
    let dom (x : Staged) : Nat := domainOf full x.key
    let ic := l.filter fun x => decide (8 ≤ dom x)
    let charged := chargedItems full ic
    let (acc, left) := if configFits base ic then (ic, [])
      else restoreEach base charged (ic.filter fun x => !(charged.flatten.contains x)) []
    let ports := portsOf left.flatten
    let r := (List.range 8).foldl (fun (a : List Staged × List Nat) g =>
      let new := l.filter fun x => dom x == g
      if new = [] then a
      else if !(new.any (namesPort full ports)) && configFits base (sortStaged (a.1 ++ new)) then (sortStaged (a.1 ++ new), a.2)
      else (a.1, a.2 ++ [K.tg_TG_FORMAT g])) (acc, left.filterMap fun x => (x.head?).map (·.key))
    r

/-- Step S13 (R732): INSTANT entries are in force, the committed configuration waits for S24. -/
def restoreAll (d : Dev) : Dev :=
  let l := storedItems d
  modBoot (fun b => { b with restored := storedConfig l }) (restoreInstant l d)

/-- The committed configuration is admitted against the units in service as every step has left them, and applied; what stays at defaults
is named in events (R165, R166, R180). -/
def restoreConfig (d : Dev) : Dev :=
  let l := d.boot.restored
  let d := modBoot (fun b => { b with restored := [] }) d
  if l = [] then reportReservation d
  else
    let (keep, names) := chooseRestore d l
    let now := keep ++ (restoreLenders d keep).1
    let d' := applied (now.map (·.key)) d (putValues now d)
    if names = [] then d' else reduce 7 (forAll names condition d')

/-! ## What the steps leave (R770 to R772) -/

/-- S06: the mount and what it reads back (R688, R706, R730, R820). -/
def mountStep (f : BootFindings) (d : Dev) : Dev :=
  let d := wrB K.x1A00_FLASH_ID f.flashId (mount f.mountMs d)
  let c := maxCommit (ringRecs d 0 ++ ringRecs d 1)
  let d := wr K.x5000_LAST_COMMIT_SEQ c (wr K.x5000_LAST_APPLIED_SEQ c { d with
    ctl := { d.ctl with seqNext := c + 1 }, oldFaults := d.nv.faults, nv := { d.nv with restartCause := 0 } })
  match mounted d 0xF020 with
  | some (_, b) => wr K.x1640_FLUSH_COUNT (leAt b 0 4) (wr K.x1640_LAST_FLUSH_US (leAt b 4 4) (wr K.x1640_LAST_FLUSH_BYTES (leAt b 8 4) d))
  | none => d

/-- S07: the equalisation tables of the store, or the built-in profile and an event when they are absent or fail their checks (R221). -/
def eqStep (d : Dev) : Dev :=
  let l := storedItems d
  let body (k : Nat) : List Byte := ((l.find? fun x => x.key == k).map (·.val)).getD []
  let a := body K.x2120_EQ_PROFILES
  let b := body K.x2120_EQ_ASSIGN
  if eqTablesOk a b then wr K.x2120_EQ_SOURCE 0 (wrB K.x2120_EQ_PROFILES a (wrB K.x2120_EQ_ASSIGN b d))
  else condition K.x2120_EQ_SOURCE (wr K.x2120_EQ_SOURCE 1 d)

/-- S11: the pages out of service, from [3800:12] (R551, R561). -/
def pageTableStep (d : Dev) : Dev :=
  let list := ((storedItems d).find? fun x => x.key == K.x3800_RETIRED_LIST).map (·.val)
  let d := wrB K.x3800_RETIRED_LIST (list.getD []) d
  let l := retiredList d
  let spares := ((List.range 1024).map (4416 + ·)).filter fun p => !l.contains p
  let d := wr K.x3800_PAGES_TOTAL (if singleStack d then 262144 else 524288)
    (wr K.x3800_RETIRED_PAGES l.length (wr K.x3800_SPARES_LEFT spares.length d))
  pagesRecount (modFm (fun m => { m with spareFree := if l = [] then [] else spares, nextSpare := if l = [] then 4416 else 5440 }) d)

/-- S15: the keys (R787, R788); none in RMA (R792). -/
def keyStep (d : Dev) : Dev :=
  let d := match (storedItems d).find? fun x => x.key == K.x1830_KEY_EPOCH with
    | some x => modEv (fun e => { e with epoch := leNat x.val }) (wr K.x1830_KEY_EPOCH (leNat x.val) d)
    | none => d
  if d.boot.otp.lifecycle = 3 ∨ reduced d 8 then forAll (List.range 4) (fun r d => change (K.x1012_EB_STATE r) 3 d) (reduce 8 d)
  else
    let pub := natBE 1984 Config.identityPub.toNat
    let d := modBoot (fun b => { b with keys := true }) d
    let d := modEv (fun e => { e with salts := tabSet e.epoch (evidenceSalt d) e.salts }) d
    let (c, d) := evidenceCert d.ev.epoch (wrB K.x1802_DEVICE_KEY_ID (sha256 pub) (wrB K.x1802_IDENTITY_PUB pub d))
    wrB K.x1802_EVIDENCE_CERT c d

/-- S22: the chain states and the power-loss record (R477). -/
def chainStep (d : Dev) : Dev :=
  let d := match (storedItems d).find? fun x => x.key == K.x1830_POWER_LOSS_RECORD with
    | some x =>
      if x.val.length = 3960 then
        wrB K.x1830_POWER_LOSS_RECORD x.val (modEv (fun e => { e with lossSeq := leAt x.val 8 8 + 1, lossDigest := sha256 x.val }) d)
      else d
    | none => d
  chainCauses (chainsMount d)

/-- S24: the restored configuration is applied (in one step, log entry 43), the start ends (R770, R777, R785). -/
def readyStep (d : Dev) : Dev :=
  let d := restoreConfig d
  let d := match d.boot.tryUsed with
    | some x => setBootCfg 0 x d
    | none => d
  let d := if (thisEntry d).outcome.getD 3 none = none ∧ d.boot.perst then record 4 5 d else d
  let d := wr K.x1C40_BOOT_MS ((d.now - d.boot.t0) / 1000000000) (wr K.x1C40_BOOT_STEP 0x19 d)
  change K.x1001_DICT_STATE (if rd d K.x1C40_REDUCED = 0 then 2 else 3) d

/-- PLL blocks take a state (R640). -/
def pllsState (st : Nat) (l : List Nat) (d : Dev) : Dev := forAll l (fun i d => change (K.x1401_PLL_STATE i) st d) d

def pllsLocked : List Nat → Dev → Dev := pllsState 2

/-- The PLL blocks whose first band search falls in step `n`: the root with the synthesizers, the PCIe PHY, the memory PHYs (R635). -/
def stepPlls : Nat → List Nat
  | 2 => 0 :: (List.range 8).map (5 + ·)
  | 4 => [3]
  | 8 => [1]
  | 9 => [2]
  | _ => []

/-- S16: the sensors that failed their self-check (R750). -/
def sensorsFailed (f : BootFindings) (d : Dev) : Dev :=
  let v := f.failedSensors.foldl (fun a j => setBitAt a j.val true) 0
  onlyIf (v != 0) (condition K.x1602_FAILED_SENSORS) (wr K.x1602_FAILED_SENSORS v d)

/-- Step `n` has passed, by its primary method or its alternate. -/
def stepPassed (n : Nat) (alt : Bool) (f : BootFindings) (d : Dev) : Dev :=
  let band (i : Nat) : Nat := f.bands.getD i 0 % 64
  match n with
  | 2 => pllsLocked (stepPlls 2) (wr K.x1400_ROOT_STATE 2 (wr K.x1400_ROOT_BAND (band 0) { d with stcRun := true, stcFp := 0 }))
  | 3 => otpReport d
  | 4 => onlyIf alt (reduce 5) (linkUp f.linkWidth f.linkSpeed (pllsLocked (stepPlls 4) d))
  | 6 => mountStep f d
  | 7 =>
    forAll (List.range 32) (fun q d =>
      wr (K.quad_CAL_STATE q) (if alt then 1 else 0) (wr (kPllState q 0) 2 (wr (kPllState q 1) 2
        (wr (kPllBand q 0) (band (2 * q)) (wr (kPllBand q 1) (band (2 * q + 1)) d))))) (eqStep (onlyIf alt (reduce 2) d))
  | 8 => wr K.x3800_MEM_MODE (setBitAt (rd d K.x3800_MEM_MODE) 1 (alt || bitAt (rd d K.x3800_MEM_MODE) 1))
      (onlyIf alt (reduce 1) (pllsLocked (stepPlls 8) d))
  | 9 => wr K.x3800_MEM_MODE (setBitAt (rd d K.x3800_MEM_MODE) 1 (alt || bitAt (rd d K.x3800_MEM_MODE) 1))
      (onlyIf alt (reduce 1) (pllsLocked (stepPlls 9) d))
  | 11 => pageTableStep d
  | 13 => if alt then reduce 7 d else restoreAll d
  | 15 => keyStep d
  | 16 => sensorsFailed f d
  | 18 => stcFollow d
  | 22 => chainStep d
  | 23 => { d with ctl := { d.ctl with ddp := { d.ctl.ddp with enabled := rd d K.x1110_NODE_ID != 0, rate := rd d K.x1110_DATA_RATE } } }
  | 24 => readyStep d
  | _ => d

/-- The start goes on without step `n` (R771, R772). -/
def stepLost (n : Nat) (f : BootFindings) (d : Dev) : Dev :=
  let d := match stepBit n with
    | some b => reduce b d
    | none => d
  match n with
  | 4 => pllsState 0 (stepPlls 4) d
  | 6 => wr K.x1A00_NV_STATE 3 (wr K.x1640_PB_STATE 2 (modNv (fun v => { v with volatileOnly := true }) d))
  | 7 => stepPassed 7 true f d
  | 9 => wr K.x3800_MEM_MODE (setBitAt (rd d K.x3800_MEM_MODE) 0 true) (change (K.x1012_MB_STATE 1) 3 d)
  | 15 => forAll (List.range 4) (fun r d => change (K.x1012_EB_STATE r) 3 d) d
  | 16 => sensorsFailed f d
  | 19 => forAll f.regionsFailed (fun r d => reduce (10 + r) (change (K.x1011_REGION_STATE r) 4 d)) d
  | _ => d

/-! ## RECOVERY (R774, R781, R782) -/

/-- The entries that keep their values in RECOVERY: what identifies and describes the device, the node ID, the slots, [1800] to [1802], the
boot and fault objects, the link; not what was restored of them (R63). -/
def recoveryKeeps (k : Nat) : Bool :=
  let i := k / 256
  (decide (i < 0x1002) || (decide (0x1200 ≤ i) && decide (i < 0x1240)) || (decide (0x1800 ≤ i) && decide (i < 0x1803)) || i == 0x1A00 ||
    i == 0x1640 || (decide (0x1C00 ≤ i) && decide (i < 0x1D00)) || i == 0x3C00 || k == K.x1110_NODE_ID) &&
    !((rowOf k).any fun r => r.nv && r.acc == .rw)

/-- RECOVERY is entered, from S03 without fuse values (R782): the aperture serves reset defaults. -/
def enterRecovery (noFuses : Bool) (d : Dev) : Dev :=
  let d := { d with od := d.od.filter fun p => recoveryKeeps p.1, body := d.body.filter fun p => recoveryKeeps p.1 }
  let d := modBoot (fun b => { b with
    fuseFail := noFuses, opDone := none, stepAt := d.now, keys := false, held := false, restored := []
    compat := if noFuses then 0 else b.compat, scope := if noFuses then 0 else b.scope }) d
  let d := wr K.x1C40_BOOT_STEP 0xFE (wr K.x1001_DICT_STATE 0 d)
  if noFuses then
    let (a, d) := fresh d
    let (b, d) := fresh d
    let (c, d) := fresh d
    wr K.x1800_LIFECYCLE 0 (wr K.x1800_OWNER_POLICY (a % 256) (wr K.x1800_OWNER_SLOTS (b % 256) (wr K.x1800_OTP_SVN (c % 256)
      (wr K.x1000_COMPAT_ACTIVE 0 (wr K.x1000_PCIE_DEVICE_ID 0x0128 d)))))
  else d

/-! ## The sequence (R770 to R777) -/

/-- Step `n` begins; steps planned to be skipped are left out in turn. -/
def enterStep : Nat → Nat → Dev → Dev
  | 0, _, d => d
  | fuel + 1, n, d =>
    let d := modBoot (fun b => { b with stepAt := d.now, held := false }) (wr K.x1C40_BOOT_STEP n d)
    if 2 ≤ planned d n then
      (let d := record n 4 d
       if n = 8 then enterRecovery false d
       else enterStep fuel (n + 1) (stepLost n ⟨[], 0, 0, [], [], 0, 0, 0, [], []⟩ d))
    else if n = 4 ∧ d.boot.perst then enterStep fuel 5 d
    else if stepPlls n ≠ [] then pllsState 1 (stepPlls n) (onlyIf (n == 2) (wr K.x1400_ROOT_STATE 1) d)
    else if n = 6 then wr K.x1A00_NV_STATE 1 d
    else if n = 7 then forAll (List.range 32) (fun q d => wr (kPllState q 0) 1 (wr (kPllState q 1) 1 d)) d
    else if n = 13 then change K.x1001_DICT_STATE 1 d
    else d

/-- Step `n` ends: the next one begins, or the start is over. -/
def nextStep (n : Nat) (d : Dev) : Dev := if n = 24 then d else enterStep 24 (n + 1) d

/-- Step `n` fails (R771, R773, R774). -/
def stepFails (n : Nat) (f : BootFindings) (d : Dev) : Dev :=
  if stepOnFail n = 0 then modBoot (fun b => { b with held := true, stepAt := d.now }) d
  else
    let d := record n 3 d
    if stepKind n = 0 ∧ thirdFail d n then enterRecovery (n == 3) d
    else match stepOnFail n with
      | 1 => enterRecovery (n == 3) d
      | 2 => nextStep n (stepLost n f d)
      | _ => internalRestart d

/-- The image that S05 verified in slot `x`: what the flash is known to hold there, else as found. -/
def verified (d : Dev) (x : Nat) (f : BootFindings) : FwSlot :=
  if (fwSlot d x).present then fwSlot d x
  else { present := true, valid := true, version := f.fwVersion, svn := f.fwSvn, digest := f.fwDigest, ownerSigned := d.boot.otp.policy == 1
         ownerKey := ((d.boot.otp.keys.head?).map (·.2)).getD [] }

/-- S05 (R784, R785): TRY_SLOT is cleared first; by the first slot, or by the other one. -/
def firmwareStep (alt : Bool) (f : BootFindings) (d : Dev) : Dev :=
  let slot := if alt then 1 - (thisEntry d).slot else (thisEntry d).slot
  let tried := d.nv.bootCfg.getD 1 0xFF
  let x := verified d slot f
  let d := modNv (fun n => { n with bootCfg := setAt n.bootCfg 1 0xFF }) d
  if x.valid && fwAllowed d x then
    let d := modNv (fun n => { n with fw := tabSet slot x n.fw }) d
    let d := modBoot (fun b => { b with
      fwDigest := x.digest, fwSvn := x.svn, fwVersion := x.version, tryUsed := if tried = slot then some slot else none }) d
    nextStep 5 (record 5 (if alt then 2 else 1) (wr K.x1801_RUNNING_SLOT slot (wr K.x1000_FW_VERSION x.version (fwReport d))))
  else stepFails 5 f (fwReport d)

/-- A boot step ends with a result (R771): one past its limit has failed. -/
def stepEnd (r : StepResult) (f : BootFindings) (d : Dev) : Dev :=
  let n := rd d K.x1C40_BOOT_STEP
  if !d.boot.started ∨ d.boot.held ∨ n = 0 ∨ 24 < n then d
  else
    let late := (stepLimit n).any fun l => decide (d.boot.stepAt + ms l < d.now)
    let alt := r == .passAlt || (planned d n == 1 && r == .pass)
    if r == .fail || late then stepFails n f d
    else if n = 5 then firmwareStep (r == .passAlt) f d
    else nextStep n (stepPassed n alt f (record n (if alt then 2 else 1) d))

/-- A step exceeds its limit (R771). -/
def stepTimeout (d : Dev) : Dev :=
  let n := rd d K.x1C40_BOOT_STEP
  if !d.boot.started ∨ d.boot.held ∨ n = 0 ∨ 24 < n then d
  else if (stepLimit n).any fun l => decide (d.boot.stepAt + ms l ≤ d.now) then stepFails n ⟨[], 0, 0, [], [], 0, 0, 0, [], []⟩ d
  else d

/-- S01 or S02 is tried again 10 ms after it failed (R771). -/
def holdRetry (good : Bool) (f : BootFindings) (d : Dev) : Dev :=
  let n := rd d K.x1C40_BOOT_STEP
  if d.boot.held ∧ d.boot.stepAt + ms 10 ≤ d.now then
    (if good then nextStep n (stepPassed n false f (record n 1 (modBoot (fun b => { b with held := false }) d)))
     else modBoot (fun b => { b with stepAt := d.now }) d)
  else d

/-- Boot starts (R770, R775, R778): the cause, what is sampled at the release of reset (R2, R3, R83, R767), the ledger entry. -/
def bootBegin (cause node : Nat) (d : Dev) : Dev :=
  let anew := cause == 1 || cause == 2 || cause == 5 || d.boot.resetN
  let cfg (i x : Nat) : Nat := d.nv.bootCfg.getD i x
  let d := modBoot (fun b => { b with
    started := true, held := false, t0 := d.now, stepAt := d.now, nextCause := none, resetN := false, scope := cfg 3 0
    nodeId := if anew then node else b.nodeId
    compat := if anew || cause == 3 || b.compatDue then cfg 2 0 else b.compat, compatDue := false }) d
  let d := onlyIf anew (modPower (fun p => { p with thermTrip := false })) d
  let l := d.nv.ledger
  let plan := (List.range 24).map fun i => planStep l (i + 1)
  let slot := if cfg 1 0xFF ≤ 1 then cfg 1 0 else cfg 0 0
  let e : LedgerEntry := { startSeq := startSeqNow d + 1, cause := cause, slot := slot, plan := plan, outcome := List.replicate 24 none }
  let kept := if 8128 ≤ l.length then l.drop 32 else l
  let d := modNv (fun n => { n with ledger := kept ++ [e] }) d
  let d := wr K.x1C40_START_SEQ e.startSeq (wr K.x1C40_START_CAUSE cause (wr K.x1110_NODE_ID d.boot.nodeId d))
  let d := wr K.x1C40_PERMANENT_SKIPS ((List.range 24).foldl (fun a i => if plan.getD i 0 = 3 then a + 2 ^ i else a) 0) d
  let d := forAll (List.range 24) (fun i d => match stepBit (i + 1) with
    | some b => onlyIf (decide (2 ≤ plan.getD i 0)) (reduce b) d
    | none => d) d
  let d := wr K.x1000_COMPAT_ACTIVE d.boot.compat (wr K.x1000_PCIE_DEVICE_ID (if d.boot.compat = 1 then 0x0064 else 0x0128) d)
  enterStep 24 1 d

/-- Power returned without a flush, or after one: everything but what flash, OTP and the pins hold is as at power-on (R696, R770). -/
def powerCycle (d : Dev) : Dev :=
  let d := modNv (fun n => { n with restartCause := if d.power.flush.isSome then 2 else n.restartCause }) d
  let d := restart 1 (onlyIf (!d.power.stopped) tear d)
  modPower (fun p => { p with psafe := false, thermTrip := false }) (modBoot (fun b => { b with nextCause := none }) d)

/-- BOOT_START: at the release of reset; with cause 0x01 while the block flushes or has stopped, power was gone in between. -/
def bootStart (cause node : Nat) (d : Dev) : Dev :=
  let gone := d.power.flush.isSome || d.power.psafe || d.power.stopped
  let d := if cause = 1 ∧ gone ∧ d.boot.nextCause.isNone then powerCycle d else d
  if d.boot.started ∨ d.power.flush.isSome ∨ d.power.stopped ∨ (d.power.psafe ∧ d.boot.nextCause.isNone) ∨
      (d.boot.perst ∧ d.nv.bootCfg.getD 3 0 = 0) then d
  else bootBegin (d.boot.nextCause.getD cause) node (modPower (fun p => { p with psafe := false }) d)

end Sys2Proof.Machine
end

