-- ==== Sys2Proof/Machine/Trust.lean ====
section
/-! DEFINITION. Trust (16): firmware slots, owner tokens, lifecycle, the anti-rollback counter, epochs, attestation, the ledger reset. -/

namespace Sys2Proof.Machine

/-! ## Operation 0x0010 (R783 to R786) -/

/-- The header and digest of an image of `len` bytes with what the security engine found: the slot it makes (R783, R784). -/
def imageSlot (sig : SigCheck) (b : List Byte) (len : Nat) : Option FwSlot :=
  let owner := bitAt (leAt b 20 4) 0
  let ok := b.length == len && slice 0 4 b == ascii "VXFW" && leAt b 4 2 == 1 && leAt b 6 2 == 0x0128 && leAt b 16 4 + 16384 == len &&
    slice 24 32 b == sha256 (b.drop 16384) && sig.vendorKeyKnown && sig.vendorSigs
  if ok then
    some { present := true, valid := true, version := leAt b 8 4, svn := leAt b 12 4, digest := slice 24 32 b
           ownerSigned := owner && sig.ownerSigs && slice 88 32 b == sha256 (slice 7002 1984 b), ownerKey := slice 88 32 b }
  else none

/-- Operation 0x0010 enters RUNNING: requester, another operation, arguments. -/
def firmwareEnter (s : Nat) (d : Dev) : Dev :=
  let t := arg d s 8
  if rd d (K.slot_OWNER s) ≠ 0 then finishSlot s 4 5 d
  else if (busySlots d).any fun x => x != s && rd d (K.slot_OPCODE x) == 0x10 then finishSlot s 4 6 d
  else if 1 < t ∨ t = rd d K.x1801_RUNNING_SLOT ∨ arg d s 7 < 16384 ∨ 16777216 < arg d s 7 then finishSlot s 4 1 d
  else d

/-- The image is read, checked, programmed and read back (R786). -/
def firmwareRun (s : Nat) (host : HostRead) (sig : SigCheck) (flashOk : Bool) (d : Dev) : Dev :=
  let t := arg d s 8
  if (slotRun d s).abortAsked then abortSlot s d
  else match host with
    | .error => finishSlot s 4 3 d
    | .ok b =>
      match imageSlot sig b (arg d s 7) with
      | none => finishSlot s 4 2 d
      | some x =>
        if d.boot.fuseFail || !fwAllowed d x then finishSlot s 4 2 d
        else if !flashOk then
          let (v, d) := fresh d
          let left : FwSlot := if v % 3 = 0 then fwSlot d t else if v % 3 = 1 then {} else { x with valid := false }
          finishSlot s 4 4 (fwReport (modNv (fun n => { n with fw := tabSet t left n.fw }) d))
        else
          let d := setBootCfg 1 t (modNv (fun n => { n with fw := tabSet t x n.fw }) d)
          finishSlot s 3 0 (modBoot (fun b => { b with opDone := some d.now }) d)

/-! ## Owner tokens, lifecycle, rollback, epochs (R789 to R793) -/

def modOtp (f : Otp → Otp) (d : Dev) : Dev := fwReport (otpReport (modBoot (fun b => { b with otp := f b.otp }) d))

/-- KEY_EPOCH advances; each chain takes it at its next seal boundary (R789). -/
def epochAdvance (req : Nat) (d : Dev) : Dev :=
  let n := (d.ev.epoch + 1) % 2 ^ 32
  persistObj 0x1830 req (modEv (fun e => { e with epoch := n, salts := tabSet n (evidenceSalt d) e.salts }) d)

/-- DEVICE_KEY_ID of this device (R788). -/
def deviceKeyId : List Byte := sha256 (natBE 1984 Config.identityPub.toNat)

/-- Is a token this device's, well signed, its reserved bytes 0, and the lifecycle DEPLOYED (R5, R790)? -/
def tokenOk (sigOk : Bool) (b : List Byte) (d : Dev) : Bool :=
  b.length == 3453 && slice 0 4 b == ascii "VXOE" && sigOk && slice 8 32 b == deviceKeyId && rd d K.x1800_LIFECYCLE == 2 && !d.boot.fuseFail &&
    decide (leAt b 4 1 ≤ 3) && leAt b 6 2 == 0 && (slice 72 8 b).all (· == 0)

/-- An owner token acts (R790 to R792); the answer is a status code. -/
def tokenAct (sigOk : Bool) (b : List Byte) (req : Nat) (d : Dev) : Nat × Dev :=
  let slot := leAt b 4 1
  let o := d.boot.otp
  let used := bitAt o.slots slot || bitAt o.slots (slot + 4)
  if !tokenOk sigOk b d then (5, d)
  else match leAt b 5 1 with
    | 1 => if used then (5, d) else
      (0, epochAdvance req (modOtp (fun o => { o with slots := setBitAt o.slots slot true, keys := tabSet slot (slice 40 32 b) o.keys }) d))
    | 2 => if used then (5, d) else
      (0, epochAdvance req (modOtp (fun o => { o with
        policy := 1, slots := setBitAt o.slots slot true, keys := tabSet slot (slice 40 32 b) o.keys }) d))
    | 3 => (0, epochAdvance req (modOtp (fun o => { o with slots := setBitAt o.slots (slot + 4) true, keys := tabDel slot o.keys }) d))
    | 4 => (0, modOtp (fun o => { o with lifecycle := 3 }) d)
    | _ => (5, d)

/-- The anti-rollback counter rises to the running image's SVN (R793). -/
def svnCommit (d : Dev) : Dev := modOtp (fun o => { o with svn := max o.svn (Nat.min d.boot.fwSvn 63) }) d

/-! ## Attestation (R794 to R797) -/

/-- A Umousa report (R794, R795). -/
def umousa (nonce : List Byte) (d : Dev) : List Byte × Dev :=
  let keyed := d.boot.keys && rd d K.x1800_LIFECYCLE != 3
  let keyOf (l : List Byte) : List Byte := padTo 32 (if keyed then l else [])
  let head := ascii "UMO1" ++ [1] ++ natLE 1 (rd d K.x1800_LIFECYCLE) ++ natLE 2 (if keyed then 0 else 1) ++ padTo 32 nonce ++
    keyOf (rdB d K.x1802_DEVICE_KEY_ID) ++ natLE 8 (stcNs d) ++ natLE 4 (rd d K.x1C40_START_SEQ) ++ natLE 4 d.boot.fwVersion ++
    natLE 4 d.boot.fwSvn ++ natLE 4 (rd d K.x1800_OTP_SVN) ++ padTo 32 d.boot.fwDigest ++
    padTo 32 (if d.boot.fuseFail then [] else ((d.boot.otp.keys.head?).map (·.2)).getD []) ++ natLE 4 (if keyed then rd d K.x1830_KEY_EPOCH else 0) ++
    natLE 4 (rd d K.x1C40_REDUCED) ++ keyOf (sha256 (rdB d K.x1802_EVIDENCE_CERT)) ++ sha256 (ledgerBytes (thisEntry d)) ++
    List.replicate 24 0
  let (sig, d) := if keyed then signBoth 0 (ascii "UMOUSA") head d else (List.replicate 3373 0, d)
  (head ++ sig, d)

/-- May the requester's function start operation 0x0060 (R596, R850)? -/
def mayAttest (d : Dev) (req : Nat) : Bool := !isPcie req || req == 0 || rd d (K.fn_FN_STATE req) != 0

def attestEnter (s : Nat) (d : Dev) : Dev := if mayAttest d (rd d (K.slot_OWNER s)) then d else finishSlot s 4 1 d

/-- The report stands in [1808:01] of its requester (R797). -/
def attestRun (s : Nat) (d : Dev) : Dev :=
  if (slotRun d s).abortAsked then abortSlot s d
  else
    let nonce := [6, 7, 8, 9].flatMap fun a => natLE 8 (arg d s a)
    let (b, d) := umousa nonce d
    finishSlot s 3 0 { d with ctl := { d.ctl with report := tabSet (rd d (K.slot_OWNER s)) b d.ctl.report } }

/-! ## Boot-ledger reset (R798) -/

def ledgerResetEnter (s : Nat) (d : Dev) : Dev := if rd d (K.slot_OWNER s) = 0 then d else finishSlot s 4 1 d

/-- The reset entry is programmed; it takes effect at the next start. -/
def ledgerResetRun (s : Nat) (d : Dev) : Dev :=
  if (slotRun d s).abortAsked then abortSlot s d
  else
    let e : LedgerEntry := { reset := true, mask := arg d s 6 % 2 ^ 32, startSeq := startSeqNow d }
    finishSlot s 3 0 (modNv (fun n => { n with ledger := n.ledger ++ [e] }) d)

end Sys2Proof.Machine
end

