-- ==== Sys2Proof/Machine/Host.lean ====
section
/-! DEFINITION. Transfers between frame memory and the host (11): frame export and import, window transfers, playback blocks. -/

namespace Sys2Proof.Machine

/-! ## What may move (R185, R187, R591, R609) -/

/-- Bytes of queue `q`'s guaranteed share that are not used: it has the share from the instant it has work on. -/
def shareCredit (d : Dev) (q : Nat) : Nat :=
  let c := queue d q
  c.guar * rd d K.x3C00_GUAR_SCALE * (d.now - c.shareAt) / 1024000000

/-- Bytes of best-effort traffic that units paid for queue `q` allow; none while it is shed. -/
def paidBytes (d : Dev) (q : Nat) : Nat := if workShed d 1 then 0 else tabGet 0 d.ctl.hostPaid q * 4096

/-- Queue `q` has moved `n` bytes: share first, then paid units. -/
def payHost (q n : Nat) (d : Dev) : Dev :=
  let c := queue d q
  let credit := shareCredit d q
  let units := (n - credit + 4095) / 4096
  let d := modQ q (fun x => { x with
    shareAt := if credit ≤ n then d.now else c.shareAt + n * 1024000000 / (c.guar * rd d K.x3C00_GUAR_SCALE) }) d
  { d with ctl := { d.ctl with hostPaid := tabMod 0 q (· - units) d.ctl.hostPaid } }

/-- How many of `n` bytes a transfer that has moved `from_` bytes may move now, paid: all, or up to a 4 KiB boundary (R187). -/
def hostMove (q from_ n : Nat) (d : Dev) : Nat × Dev :=
  let can := shareCredit d q + paidBytes d q
  let k := if n ≤ can then n else (from_ + can) / 4096 * 4096 - from_
  (k, payHost q k d)

/-- A descriptor's transfer waits at its safe point, `moved` bytes done. -/
def hostWait (q ringIx moved : Nat) (d : Dev) : Dev := modDescr q ringIx (fun x => { x with waits := true, moved := moved }) d

/-- Does a write of host memory end with an error before `n` bytes? -/
def endsBefore (fin : HostWriteEnd) (n : Nat) : Bool :=
  match fin with
  | .ok => false
  | .error e => decide (e < n)

/-- Bytes go to host memory; the write ends well or with a host error after some of them (R613, R624). -/
def sendNow (q ringIx from_ : Nat) (l : List Placed) (fin : HostWriteEnd) (ok : Nat → Dev → Dev) (d : Dev) : Dev :=
  let rest := dropPlaced from_ l
  let sent := match fin with
    | .ok => rest
    | .error n => takePlaced n rest
  let f := (qFn d q).getD 0
  let d := countBytes q (placedLength sent) false (forAll sent (fun x => dmaWrite f x.1 x.2) d)
  match fin with
  | .ok => ok (from_ + placedLength sent) d
  | .error _ => faultDescr q ringIx 4 (from_ + placedLength sent) d

/-- Bytes go to host memory as far as share and tokens allow; the rest waits. -/
def sendPlaced (q ringIx from_ : Nat) (l : List Placed) (fin : HostWriteEnd) (ok : Nat → Dev → Dev) (d : Dev) : Dev :=
  let n := placedLength l - from_
  let (k, d) := hostMove q from_ n d
  if k = n ∨ endsBefore fin k then sendNow q ringIx from_ l fin ok d
  else sendNow q ringIx from_ (takePlaced (from_ + k) l) .ok (hostWait q ringIx) d

/-- `n` bytes from `addr` come from host memory as far as share and tokens allow; `ok` once all of them have. -/
def hostIn (q ringIx addr from_ n : Nat) (ok : Dev → Dev) (d : Dev) : Dev :=
  let (k, d) := hostMove q from_ (n - from_) d
  let d := countBytes q k true (dmaRead ((qFn d q).getD 0) (addr + from_) k d)
  if from_ + k < n then hostWait q ringIx (from_ + k) d else ok d

/-! ## EXPORT_FRAME (R602, R614, R615) -/

/-- The store that TARGET of an export queue names. -/
def exportStore (target : Nat) : Nat := (target / 2 ^ 24 - 1) * 0x100 + target % 65536

/-- The packing of a store. -/
def storePacking (d : Dev) (id : Nat) : Nat :=
  if id < 0x100 then rd d (K.ip_PACKING id) else if id < 0x200 then rd d (K.cmp_OUT_PACKING (id - 0x100))
  else rd d (K.frc_FRC_PACKING (id - 0x200))

/-- The frame that SELECT and STAMP name; a descriptor that runs again keeps the frame it holds (R629). -/
def exportFrameOf (d : Dev) (q ringIx id sel stamp : Nat) : Option Frame :=
  match ((queue d q).descs.find? fun x => x.ring == ringIx).bind (·.hold) with
  | some h => frameOf d h.1 h.2
  | none =>
    let l := (store d id).frames
    if sel = 0 then l.getLast? else if sel = 1 then l.find? fun f => f.stamp == stamp else l.find? fun f => decide (stamp < f.stamp)

/-- The lines of a frame, and its map, as they go to host memory. -/
def exportPlaced (b : List Byte) (f : Frame) (packing count pitch : Nat) : List Placed :=
  let first := leAt b 40 2
  let lines := (f.pic.drop first).take count
  let rows := lines.zipIdx.map fun (l, i) => (dAddr b + i * pitch, packLine packing l)
  let stop := dAddr b + (count - 1) * pitch + lineBytes (frameSize f).1 packing
  if bitAt (leAt b 29 1) 0 then rows ++ [((stop + 63) / 64 * 64, mapBytes f.map)] else rows

/-- EXPORT_FRAME runs. -/
def exportFrame (x : Desc) (poisoned : Bool) (fin : HostWriteEnd) (i : StartInfo) (d : Dev) : Dev :=
  let q := x.queue.val
  let r := x.ring.val
  let b := x.bytes
  let id := exportStore (queue d q).target
  let sel := leAt b 28 1
  let bad := finishDescr q r 5 0 0 0 false
  if !headerOk b || decide (2 < sel) || decide (1 < leAt b 29 1) || leAt b 30 2 != 0 || (b.drop 48).any (· != 0) then bad d
  else match exportFrameOf d q r id sel (leAt b 32 8) with
    | none => finishDescr q r 8 0 0 0 false d
    | some f =>
      let (w, h) := frameSize f
      let packing := storePacking d id
      let lb := lineBytes w packing
      let first := leAt b 40 2
      let count := if leAt b 42 2 = 0 then h - first else leAt b 42 2
      let pitch := if leAt b 44 4 = 0 then lb else leAt b 44 4
      if h ≤ first ∨ h < first + count ∨ pitch < lb then bad d
      else
        let l := exportPlaced b f packing count pitch
        let need := ((l.getLast?).map fun x => x.1 + x.2.length - dAddr b).getD 0
        if dLength b < need then finishDescr q r 7 0 0 0 false d
        else
          let d := modDescr q r (fun y => { y with hold := some (id, f.num) }) d
          if poisoned then
            let (v, d) := fresh d
            finishDescr q r 2 (v % (placedLength l + 1)) f.format f.stamp false d
          else sendPlaced q r i.from_ l fin (fun n => finishDescr q r 0 n f.format f.stamp false) d

/-! ## Window transfers (R570, R614) -/

/-- The mapped parts of `n` bytes from offset `off` of a window, up to the first byte that is not mapped: logical page, physical address,
length. -/
def windowSpan (d : Dev) (w : Nat) : Nat → Nat → Nat → List (Nat × Nat × Nat)
  | 0, _, _ => []
  | fuel + 1, off, n =>
    if n = 0 then []
    else match (window d w)[off / 65536]? with
      | none => []
      | some l =>
        let k := Nat.min n (65536 - off % 65536)
        (l, (pte d l).ppn * 65536 + off % 65536, k) :: windowSpan d w fuel (off + k) (n - k)

def spanLength (l : List (Nat × Nat × Nat)) : Nat := l.foldl (fun a x => a + x.2.2) 0

/-- The place in a span of the first poisoned granule, with its number. -/
def spanPoison (d : Dev) : Nat → List (Nat × Nat × Nat) → Option (Nat × Nat)
  | _, [] => none
  | at_, (l, a, n) :: r =>
    match (granulesOf a n).find? (isPoisoned d l) with
    | some g => some (at_ + (g * 64 - a), g)
    | none => spanPoison d (at_ + n) r

/-- Is a window descriptor well formed: 1 byte to 64 MiB, unused bytes 0? -/
def windowDescOk (b : List Byte) : Bool :=
  headerOk b && decide (1 ≤ dLength b) && decide (dLength b ≤ 67108864) && leAt b 28 4 == 0 && (b.drop 40).all (· == 0)

/-- A window transfer meets a page that is not mapped (R584, R624). -/
def windowFault (q ringIx off moved : Nat) (write : Bool) (d : Dev) : Dev :=
  let f := (qFn d q).getD 0
  faultDescr q ringIx 3 moved (condition K.x3806_FAULT_COUNT (recordFault ((off + moved) / 65536) f 7 q 1 write d))

/-- WINDOW_TO_HOST runs. -/
def windowToHost (x : Desc) (fin : HostWriteEnd) (i : StartInfo) (m : Mem) (d : Dev) : Dev :=
  let q := x.queue.val
  let r := x.ring.val
  let b := x.bytes
  let off := leAt b 32 8
  let n := dLength b
  let span := windowSpan d ((qFn d q).getD 0) (n / 65536 + 2) off n
  let got := spanLength span
  let data := span.flatMap fun s => memRead m s.2.1 s.2.2
  if !windowDescOk b then finishDescr q r 5 0 0 0 false d
  else match spanPoison d 0 span with
    | some (p, g) =>
      let k := K.x3800_POISONED (stackOf d g)
      sendPlaced q r i.from_ [(dAddr b, data.take p)] .ok (fun _ d => finishDescr q r 2 p 0 0 false (condition k (incSat 32 k d))) d
    | none =>
      if got < n then sendPlaced q r i.from_ [(dAddr b, data)] .ok (fun _ => windowFault q r off got false) d
      else sendPlaced q r i.from_ [(dAddr b, data)] fin (fun k => finishDescr q r 0 k 0 0 false) d

/-- Bytes are written over a span of a window. -/
def writeSpan : List (Nat × Nat × Nat) → List Byte → Mem → Dev → Mem × Dev
  | [], _, m, d => (m, d)
  | (_, a, n) :: r, b, m, d =>
    writeSpan r (b.drop n) (memWrite a (b.take n) m) (forAll (wholeGranules a n) cleanGranule d)

/-- HOST_TO_WINDOW runs. -/
def hostToWindow (x : Desc) (host : HostRead) (i : StartInfo) (m : Mem) (d : Dev) : Mem × Dev :=
  let q := x.queue.val
  let r := x.ring.val
  let b := x.bytes
  if !windowDescOk b then (m, finishDescr q r 5 0 0 0 false d)
  else match host with
    | .error => (m, faultDescr q r 4 i.from_ d)
    | .ok data =>
      let off := leAt b 32 8 + i.from_
      let rest := (padTo (dLength b) data).drop i.from_
      let span := windowSpan d ((qFn d q).getD 0) (rest.length / 65536 + 2) off rest.length
      let got := spanLength span
      let (k, d) := hostMove q i.from_ got d
      let d := countBytes q k true (dmaRead ((qFn d q).getD 0) (dAddr b + i.from_) k d)
      let (m, d) := writeSpan span (rest.take k) m d
      if k < got then (m, hostWait q r (i.from_ + k) d)
      else if got < rest.length then (m, windowFault q r (leAt b 32 8) (i.from_ + got) true d)
      else (m, finishDescr q r 0 (i.from_ + got) 0 0 false d)

/-! ## IMPORT_PLANE (R604, R616) -/

def modPlane (q : Nat) (f : PlaneRing → PlaneRing) (d : Dev) : Dev := modQ q (fun c => { c with plane := c.plane.map f }) d

/-- A list of bytes with others over it from place `o` on. -/
def overlay (l : List Byte) (o : Nat) (b : List Byte) : List Byte := l.take o ++ b ++ l.drop (o + b.length)

/-- The plane frame that START opens, when a slot qualifies: a free one, else the oldest that no layer holds and that is not the newest. -/
def planeStart (q : Nat) (b : List Byte) (d : Dev) : Option Dev :=
  match (queue d q).plane with
  | none => none
  | some p =>
    let w := leAt b 40 2
    let h := leAt b 42 2
    let fmt := leAt b 44 1
    let n := w * h * (if fmt = 0 then 4 else 5)
    let new : PlaneFrame := { num := p.nextNum, w := w, h := h, fmt := fmt, data := List.replicate n 0 }
    let newest := ((p.frames.getLast?).map (·.num)).getD 0
    let old (f : PlaneFrame) : Bool := !isHeld d (planeStore q) f.num && f.num != newest
    let put (l : List PlaneFrame) : Option Dev :=
      some (modPlane q (fun p => { p with frames := l, open_ := some new, nextNum := p.nextNum + 1 }) d)
    if p.frames.length < 4 then put p.frames
    else if p.frames.any old then put (dropFirst old p.frames)
    else none

/-- Is a part well formed, given the size of the plane frame it belongs to? -/
def planePartOk (b : List Byte) (size : Nat) : Bool :=
  let fl := leAt b 28 1
  headerOk b && decide (fl ≤ 3) && leAt b 29 3 == 0 && leAt b 36 4 == 0 && decide (leAt b 32 4 + dLength b ≤ size) &&
    (if bitAt fl 0 then decide (1 ≤ leAt b 40 2) && decide (1 ≤ leAt b 42 2) && decide (leAt b 44 1 ≤ 1) && (b.drop 45).all (· == 0) else (b.drop 40).all (· == 0))

/-- IMPORT_PLANE runs. -/
def importPlane (x : Desc) (host : HostRead) (i : StartInfo) (d : Dev) : Dev :=
  let q := x.queue.val
  let r := x.ring.val
  let b := x.bytes
  let bad := finishDescr q r 5 0 0 0 false
  match i.done, (queue d q).plane with
  | some y, _ => finishDescr q r (y.status.getD 0) y.moved y.detail y.result y.poisoned d
  | none, none => finishDescr q r 6 0 0 0 false d
  | none, some p =>
    match p.open_ with
    | none => bad d
    | some f =>
      if !planePartOk b f.data.length then bad d
      else match host with
        | .error => faultDescr q r 4 i.from_ d
        | .ok data =>
          let data := padTo (dLength b) data
          let f := { f with data := overlay f.data (leAt b 32 4) data, got := f.got + data.length }
          hostIn q r (dAddr b) i.from_ data.length (fun d =>
            if !bitAt (leAt b 28 1) 1 then finishDescr q r 0 data.length 0 0 false (modPlane q (fun p => { p with open_ := some f }) d)
            else if f.got = f.data.length then
              finishDescr q r 0 data.length 0 0 false (modPlane q (fun p => { p with open_ := none, frames := p.frames ++ [f] }) d)
            else bad (modPlane q (fun p => { p with open_ := none }) d)) d

/-- The part with START takes its slot before it runs, and abandons a frame without its END; while no slot qualifies, it waits. -/
def importStart (x : Desc) (d : Dev) : Option Dev :=
  match startInfo d x.queue x.ring with
  | none => some d
  | some i =>
    if i.cancelled ∨ i.resumed ∨ i.done.isSome ∨ !opcodeFor (queue d x.queue) (dOpcode x.bytes) ∨ !bitAt (leAt x.bytes 28 1) 0 ∨
        ((queue d x.queue).plane).isNone then some d
    else
      let size := leAt x.bytes 40 2 * leAt x.bytes 42 2 * (if leAt x.bytes 44 1 = 0 then 4 else 5)
      if planePartOk x.bytes size && (queue d x.queue).plane.any (fun p => decide (size ≤ p.slotBytes)) then planeStart x.queue x.bytes d
      else some (modPlane x.queue (fun p => { p with open_ := none }) d)

/-! ## PLAYBACK_BLOCK (R528, R531, R617) -/

/-- Does a buffer hold one whole audio block (R528)? -/
def audioBlockOk (b : List Byte) : Bool :=
  let n := leAt b 12 2
  let ch := leAt b 14 1
  let pk := leAt b 15 1
  decide (1 ≤ n) && decide (n ≤ 9600) && decide (1 ≤ ch) && decide (ch ≤ 32) && decide (pk ≤ 1) && leAt b 24 8 == 0 &&
    decide (32 + n * ch * (if pk = 0 then 3 else 4) ≤ b.length)

/-- PLAYBACK_BLOCK runs: the block is published when the descriptor completes. -/
def playbackBlock (x : Desc) (host : HostRead) (i : StartInfo) (d : Dev) : Dev :=
  let q := x.queue.val
  let r := x.ring.val
  match i.done, playStreamOf d q with
  | some y, _ => finishDescr q r (y.status.getD 0) y.moved y.detail y.result y.poisoned d
  | none, none => finishDescr q r 6 0 0 0 false d
  | none, some n =>
    if !headerOk x.bytes || (x.bytes.drop 28).any (· != 0) then finishDescr q r 5 0 0 0 false d
    else match host with
      | .error => faultDescr q r 4 i.from_ d
      | .ok data =>
        let data := data.take (dLength x.bytes)
        if audioBlockOk data then
          hostIn q r (dAddr x.bytes) i.from_ data.length (fun d => playPublish n data (finishDescr q r 0 data.length 0 0 false d)) d
        else finishDescr q r 5 0 0 0 false d

end Sys2Proof.Machine
end

