-- ==== Sys2Proof/Machine/Slots.lean ====
section
/-! DEFINITION. The control of the long-operation slots (02): claim, start, abort, release, entry to RUNNING, timeouts. -/

namespace Sys2Proof.Machine

/-- The operation codes of R138. -/
def knownOps : List Nat := [0x01, 0x10, 0x20, 0x21, 0x30, 0x40, 0x41, 0x50, 0x60, 0x70, 0x80]

/-- The entries [slot:06] to [slot:0F] that operation `op` gives access RO: its chapter's slot table, and [slot:0F] of every
operation that has a RESULT_CODE (R104, R232, R332, R470, R474, R578, R736, R785, R797, R798). -/
def roArgs (op : Nat) : List Nat :=
  match op with
  | 0x01 => [0x7, 0x8, 0x9, 0xA, 0xB, 0xC, 0xD, 0xE, 0xF]
  | 0x10 => [0xF]
  | 0x20 => [0xF]
  | 0x21 => [0x9, 0xA, 0xF]
  | 0x30 => [0x8, 0x9, 0xF]
  | 0x40 => [0x9, 0xA, 0xF]
  | 0x41 => [0x9, 0xA, 0xF]
  | 0x50 => [0xA, 0xF]
  | 0x60 => [0xF]
  | 0x70 => [0x8, 0x9, 0xF]
  | 0x80 => [0xF]
  | _ => []

/-- Is a slot QUEUED or RUNNING? -/
def slotBusy (d : Dev) (s : Nat) : Bool := slotState d s == 1 || slotState d s == 2

/-- Has a slot an owner? -/
def slotOwned (d : Dev) (s : Nat) : Bool := rd d (K.slot_OWNER s) != 0xFFFF

/-- A requester claims an unowned IDLE slot (R129). -/
def claimSlot (s req : Nat) (d : Dev) : Dev :=
  if slotState d s = 0 ∧ !slotOwned d s then
    modSlot s (fun x => { x with claimedAt := d.now }) (wr (K.slot_OWNER s) req d)
  else d

/-- A slot returns to IDLE, unowned, with COUNT 0 (R131). -/
def freeSlot (s : Nat) (d : Dev) : Dev := modSlot s (fun _ => {}) (wr (K.slot_OWNER s) 0xFFFF (setCount s 0 (setSlot s 0 d)))

/-- Start (R132, R139): what the last run left is cleared and the slot is QUEUED, or FAILED at once for an unknown code; a commit
is granted its place in the order. -/
def slotStart (s : Nat) (d : Dev) : Dev :=
  let op := rd d (K.slot_OPCODE s)
  let d := setCount s 0 (setProgress s 0 (wr (K.slot_ABORT_RESULT s) 0 d))
  let d := clearAll ((List.range 240).map (K.slot_RESULT s)) (forAll (roArgs op) (fun a => setArg s a 0) d)
  let d := modSlot s (fun x => { claimedAt := x.claimedAt, op := op }) d
  if !knownOps.contains op then endSlot s 4 d
  else
    let d := setSlot s 1 d
    if op = 1 then commitGrant s (rd d (K.slot_OWNER s)) d else d

/-- Has the operation in slot `s`, RUNNING, passed its completion point (R136)? A coefficient set passes it once the write of its body is
covered (R333). -/
def pastCompletion (d : Dev) (s : Nat) : Bool := (slotRun d s).op == 0x70 && (slotRun d s).pos != 0

/-- Abort (R135 to R137): an operation that is QUEUED stops at once, one that is RUNNING at its next safe point. -/
def slotAbort (s : Nat) (d : Dev) : Dev :=
  if !slotBusy d s then wr (K.slot_ABORT_RESULT s) 3 d
  else if rd d (K.slot_OPCODE s) = 1 then
    (match commitAbort s d with
     | (true, d) => d
     | (false, d) => wr (K.slot_ABORT_RESULT s) 2 d)
  else if slotState d s = 1 then abortSlot s d
  else if pastCompletion d s then wr (K.slot_ABORT_RESULT s) 2 d
  else if (slotRun d s).op = 0x20 then abortSlot s (sealOpAbort s d)
  else if (slotRun d s).op = 0x70 ∧ (slotRun d s).aux ≠ [] then
    abortSlot s (withdraw (fun x => x.slotRing.isNone && (slotRun d s).aux.head? == some x.id) d)
  else modSlot s (fun x => { x with abortAsked := true }) d

/-- Release (R131) by the owner: QUEUED and RUNNING are left to the caller's check. -/
def slotRelease (s : Nat) (d : Dev) : Dev := if slotBusy d s then d else freeSlot s d

/-- The region whose unit an operation acts on, 4 for the chip (R698). -/
def opScope (d : Dev) (s : Nat) : Nat :=
  if rd d (K.slot_OPCODE s) = 0x50 ∧ arg d s 6 < 128 then regionOfPort (arg d s 6)
  else if rd d (K.slot_OPCODE s) = 0x21 ∧ arg d s 6 < 8 then arg d s 6 / 2
  else 4

/-- What an operation checks and sets when it enters RUNNING. -/
def opEnter (s : Nat) (d : Dev) : Dev :=
  match rd d (K.slot_OPCODE s) with
  | 0x10 => firmwareEnter s d
  | 0x20 => sealOpEnter s d
  | 0x21 => exportEnter s d
  | 0x30 => compactionEnter s d
  | 0x40 => scrubEnter s d
  | 0x41 => scrubEnter s d
  | 0x50 => eyeEnter s d
  | 0x60 => attestEnter s d
  | 0x70 => setLoadEnter s d
  | 0x80 => ledgerResetEnter s d
  | _ => d

/-- A QUEUED operation enters RUNNING when the journal has an entry for it (R132, R134, R697). -/
def slotDispatch (s : Nat) (d : Dev) : Dev :=
  if slotState d s ≠ 1 ∨ rd d (K.slot_OPCODE s) = 1 then d
  else if 32768 ≤ d.jr.entries.length then incSat 32 K.x1C30_JOURNAL_WAITS d
  else
    let op := rd d (K.slot_OPCODE s)
    let d := jOpen 6 (opScope d s) (rd d (K.slot_OWNER s)) s op 0 d
    opEnter s (modSlot s (fun x => { x with op := op, pos := 0, aux := [] }) (setSlot s 2 d))

end Sys2Proof.Machine
end

