-- ==== Sys2Proof/Machine/Functions.lean ====
section
/-! DEFINITION. PCIe functions (11): enable, FLR, hot reset, drain, and PERST# (16). -/

namespace Sys2Proof.Machine

/-- The queues of function `f` that have a context. -/
def queuesOf (d : Dev) (f : Nat) : List Nat := (d.host.queues.map (·.1)).filter fun q => qFn d q == some f

/-- The slots that requester `req` owns. -/
def slotsOf (d : Dev) (req : Nat) : List Nat := (List.range 64).filter fun s => rd d (K.slot_OWNER s) == req

/-- The slots of a requester that nothing runs in are released (R597). -/
def releaseSlots (req : Nat) (d : Dev) : Dev := forAll ((slotsOf d req).filter fun s => !slotBusy d s) freeSlot d

/-- Function `f` goes to DRAINING (R597): its slots are aborted and released, its basting is discarded, its queues stop. `why` is 1 an
FLR, 2 a clear of Bus Master Enable, 3 a clear of VF Enable. -/
def fnDrain (why f : Nat) (d : Dev) : Dev :=
  if rd d (K.fn_FN_STATE f) = 0 then d
  else
    let old := tabGet 0 d.host.draining f
    let d := { d with host := { d.host with draining := tabSet f (if old = 3 then 3 else if old = 1 ∧ why = 2 then 1 else why) d.host.draining } }
    let d := onlyIf (why == 1) (incSat 32 (K.fn_FLR_COUNT f)) d
    let d := onlyIf (why != 2) (forAll (List.range 4) (fun u => lockAct u f)) d
    let d := change (K.fn_FN_STATE f) 2 d
    let d := discardBasting f (releaseSlots f (forAll ((slotsOf d f).filter (slotBusy d)) slotAbort d))
    exportRecount (forAll (queuesOf d f) disableQueue d)

/-- A queue of a function that has drained: its context is at its defaults (R598). -/
def queueDefault (q : Nat) (d : Dev) : Dev :=
  jClose (fun e => e.kind == 1 && e.unit % 65536 == q) (modQ q (fun c => { plane := c.plane }) d)

/-- A function that has drained leaves DRAINING once no operation of it is left (R598): ABSENT after a clear of VF Enable, else
ENABLED (log entry 46). -/
def fnDrained (f : Nat) (d : Dev) : Dev :=
  if rd d (K.fn_FN_STATE f) ≠ 2 ∨ (slotsOf d f).any (slotBusy d) then d
  else
    let why := tabGet 0 d.host.draining f
    let d := releaseSlots f d
    let d := exportRecount (planeRings (forAll (queuesOf d f) queueDefault d))
    let d := { d with host := { d.host with draining := tabDel f d.host.draining } }
    change (K.fn_FN_STATE f) (if why = 3 then 0 else 1) d

/-- An FLR of every function at once (R599). -/
def hotReset (d : Dev) : Dev := forAll (List.range 64) (fnDrain 1) d

/-- VF Enable is set for `n` virtual functions (R593). -/
def vfEnable (n : Nat) (d : Dev) : Dev :=
  if rd d K.x3C00_NUM_VFS ≠ 0 then d
  else
    let d := wr K.x3C00_NUM_VFS n d
    forAll ((List.range 64).filter fun f => f != 0 && decide (f ≤ n)) (fun f d =>
      if rd d (K.fn_FN_STATE f) = 0 then change (K.fn_FN_STATE f) 1 d
      else { d with host := { d.host with draining := tabSet f 1 d.host.draining } }) d

/-- VF Enable is cleared: every virtual function drains (R598). -/
def vfDisable (d : Dev) : Dev := forAll ((List.range 64).filter (· != 0)) (fnDrain 3) (wr K.x3C00_NUM_VFS 0 d)

/-- A draining queue with nothing left reads DISABLED (R627). -/
def queueDrained (q : Nat) (d : Dev) : Dev :=
  if drained (queue d q) then
    exportRecount (jClose (fun e => e.kind == 1 && e.unit % 65536 == q) (modQ q (fun c => { c with st := 0, descs := [] }) d))
  else d

/-- PERST# goes low (R767, R769): a device-scope reset under DEVICE, else a hot reset with the link down. -/
def perstLow (d : Dev) : Dev :=
  if d.boot.perst then d
  else
    let was := alive d
    let d := modBoot (fun b => { b with perst := true }) d
    if d.boot.scope = 0 then deviceReset 3 d
    else onlyIf was (fun d => hotReset (change K.x3C00_LINK_STATE 0 d)) d

/-- PERST# goes high (R769, R2, R3): under HOST_ONLY the compatibility mode requested takes effect; under DEVICE the device starts
anew by BOOT_START. -/
def perstHigh (d : Dev) : Dev :=
  if !d.boot.perst then d
  else
    let d := modBoot (fun b => { b with perst := false }) d
    if d.boot.scope = 0 then d
    else
      let m := d.nv.bootCfg.getD 2 0
      wr K.x1000_COMPAT_ACTIVE m (wr K.x1000_PCIE_DEVICE_ID (if m = 1 then 0x0064 else 0x0128)
        (modBoot (fun b => { b with compat := m }) d))

end Sys2Proof.Machine
end

