-- ==== Sys2Proof/Machine/Faults.lean ====
section
/-! DEFINITION. Fault handling across levels (17): cell retries, block restart, region isolation, chip-level recovery, escalation,
master resets; GPIO inputs and CAN errors. -/

namespace Sys2Proof.Machine

/-! ## Units, timeouts and budgets (R799, R802) -/

/-- The number of a unit among the recoveries. -/
def unitNum : FaultUnit → Nat
  | .block b => b.val
  | .region r => 0x100 + r.val
  | .chip => 0x200

/-- Level of a unit: 0 block, 1 region, 2 chip. -/
def unitLevel (u : Nat) : Nat := u / 0x100

/-- Time from the start of a recovery to its commit point (R802). -/
def commitAfter (u : Nat) : Ps := match unitLevel u with
  | 0 => us 5
  | 1 => us 10
  | _ => us 20

/-- Recovery budget (R799). -/
def budgetOf (u : Nat) : Ps := match unitLevel u with
  | 0 => us 250
  | 1 => ms 3
  | _ => ms 100

/-- The entry that an event of a unit names. -/
def unitEntry (u : Nat) : Nat := match unitLevel u with
  | 0 => 0x1012 * 256 + u
  | 1 => K.x1011_REGION_STATE (u % 0x100)
  | _ => K.x1001_DICT_STATE

def recov (d : Dev) (u : Nat) : Option Recov := tabFind d.flt.recov u

def modFlt (f : FaultState → FaultState) (d : Dev) : Dev := { d with flt := f d.flt }

def dropRecov (u : Nat) (d : Dev) : Dev := modFlt (fun x => { x with recov := tabDel u x.recov }) d

/-- An event of codes 0x0010 to 0x0012 (R817): outcome, cause, and the duration from `since`. -/
def recoveryEvent (u outcome cause : Nat) (since : Option Ps) (d : Dev) : Dev :=
  let dur := (since.map fun s => Nat.min ((d.now - s) / 1000000) (2 ^ 32 - 1)).getD 0
  raiseX (0x10 + unitLevel u) (unitEntry u) 0 0 0xFF 0xFFFFFFFF
    (natLE 1 outcome ++ natLE 1 cause ++ natLE 2 (u % 0x100) ++ natLE 4 dur) none d

/-- A recovery of unit `u` ends with an outcome. -/
def recoveryOver (u outcome : Nat) (d : Dev) : Dev :=
  match recov d u with
  | some x => recoveryEvent u outcome x.cause (some x.startedAt) (dropRecov u d)
  | none => d

/-- An escalation is counted (R821). -/
def escalate (d : Dev) : Dev := incSat 32 K.x1C10_ESCALATIONS d

/-- Is this the `n`-th recovery of unit `u` within `window` (R803)? -/
def limitReached (d : Dev) (u n : Nat) (window : Ps) : Bool :=
  decide (n ≤ ((tabGet [] d.flt.restarts u).filter fun s => decide (d.now < s + window)).length + 1)

/-- A recovery of unit `u` starts. -/
def recoveryStart (u cause fromUnit : Nat) (d : Dev) : Dev :=
  modFlt (fun x => {
    recov := tabSet u { startedAt := d.now, cause := cause, fromUnit := fromUnit } x.recov
    restarts := tabMod [] u (fun l => (d.now :: l).take 8) x.restarts }) d

/-! ## Blocks and what they hold (R10) -/

/-- The blocks of region `r`. -/
def regionBlocks (r : Nat) : List Nat := ((List.range 38).map (1 + ·)).filter fun b => regionOfBlock b == some r

/-- A block's state in [1012]; one that reads DISABLED stays so. -/
def setBlock (b st : Nat) (d : Dev) : Dev :=
  if rd d (0x1012 * 256 + b) = 3 then d else change (0x1012 * 256 + b) st d

def setRegion (r st : Nat) (d : Dev) : Dev :=
  if rd d (K.x1011_REGION_STATE r) = 4 then d else change (K.x1011_REGION_STATE r) st d

/-- The compositors of a block. -/
def blockComps (b : Nat) : List Nat := (List.range 72).filter fun n => blockOfComp n == b

/-- The input pipelines of a block. -/
def blockPorts (b : Nat) : List Nat := (List.range 128).filter fun p => blockOfPort p == b

/-- A block is held in reset (R802): what was in flight is lost. -/
def blockHalt (b : Nat) (d : Dev) : Dev := forAll (blockComps b) compHalt (forAll (blockPorts b) inputHalt d)

/-- Is a recovery of a block of region `r` in progress? -/
def restarting (d : Dev) (r : Nat) : Bool := (regionBlocks r).any fun b => (recov d b).isSome

/-! ## Starts and escalations (R799, R803, R804) -/

/-- Chip-level recovery starts; a second one, or a further fault during one, is an internal restart. -/
def chipStart (cause fromUnit : Nat) (d : Dev) : Dev :=
  if (recov d 0x200).isSome then internalRestart (escalate (recoveryOver 0x200 2 d))
  else if limitReached d 0x200 2 (sec 3600) then internalRestart (escalate d)
  else recoveryEvent 0x200 0 cause none (recoveryStart 0x200 cause fromUnit d)

/-- Region isolation starts; a third one within 600 s, or a further fault during one, is a chip-level recovery. -/
def regionStart (r cause fromUnit : Nat) (d : Dev) : Dev :=
  let u := 0x100 + r
  if rd d (K.x1011_REGION_STATE r) = 4 then d
  else if (recov d u).isSome then chipStart 1 u (escalate (recoveryOver u 2 d))
  else if limitReached d u 3 (sec 600) then chipStart 4 0 (escalate d)
  else recoveryEvent u 0 cause none (recoveryStart u cause fromUnit d)

/-- The level above a block takes over: its region, or the chip for a memory block. -/
def blockUp (b cause : Nat) (d : Dev) : Dev :=
  match regionOfBlock b with
  | some r => regionStart r cause 0 (escalate d)
  | none => chipStart 6 0 (escalate d)

/-- A block restart starts: [1012] changes before [1011] (R18); the fourth within 60 s, or a further fault during one, goes to the
level above; a fault while its region is isolated is one of the region. -/
def blockStart (b cause : Nat) (d : Dev) : Dev :=
  if rd d (0x1012 * 256 + b) = 3 then d
  else match (regionOfBlock b).filter fun r => (recov d (0x100 + r)).any (·.committed) with
    | some r => regionStart r 1 0 d
    | none =>
      if (recov d b).isSome then blockUp b 1 (recoveryOver b 2 d)
      else if limitReached d b 4 (sec 60) then blockUp b 4 d
      else
        let d := setBlock b 1 (recoveryStart b cause 0 d)
        let d := match regionOfBlock b with
          | some r => onlyIf (rd d (K.x1011_REGION_STATE r) == 0) (setRegion r 1) d
          | none => d
        recoveryEvent b 0 cause none d

/-! ## Commit points (R802, R13, R806) -/

/-- A recovery passes its commit point. -/
def recoveryCommit (u : Nat) (d : Dev) : Dev :=
  match recov d u with
  | none => d
  | some x =>
    if x.committed ∨ d.now < x.startedAt + commitAfter u then d
    else
      let d := modFlt (fun f => { f with recov := tabSet u { x with committed := true } f.recov }) d
      match unitLevel u with
      | 0 => blockHalt u d
      | 1 =>
        let bs := regionBlocks (u % 0x100)
        let d := forAll bs (fun b => recoveryOver b 3) d
        let d := setRegion (u % 0x100) 2 (forAll bs (fun b => setBlock b 2) d)
        forAll bs blockHalt d
      | _ => onlyIf (booted d) (change K.x1001_DICT_STATE 1) d

/-! ## Ends (R11, R14, R18, R808) -/

/-- What DICT_STATE reads in operation (R56). -/
def readyState (d : Dev) : Nat := if rd d K.x1C40_REDUCED = 0 then 2 else 3

/-- A block that stood in its recovery runs again from the committed configuration. -/
def blockRestored (b : Nat) (d : Dev) : Dev := forAll (blockComps b) compRestored (setBlock b 0 d)

/-- The region of a block whose restart ended reads RUNNING again when no other restart is in progress. -/
def regionSettled (b : Nat) (d : Dev) : Dev :=
  match regionOfBlock b with
  | some r =>
    let others := (regionBlocks r).any fun x => x != b && (recov d x).isSome
    onlyIf (rd d (K.x1011_REGION_STATE r) == 1 && !others) (setRegion r 0) d
  | none => d

/-- The upper recovery that was started for the fault of unit `u` and has not committed is cancelled (R14, R802). -/
def cancelUpper (u : Nat) (d : Dev) : Dev :=
  let ups := (d.flt.recov.filter fun p => decide (u < p.1) && p.2.fromUnit == u && !p.2.committed).map (·.1)
  forAll ups (fun v => recoveryOver v 3) d

/-- A recovery succeeds. -/
def recoveryOk (u : Nat) (d : Dev) : Dev :=
  match unitLevel u with
  | 0 => cancelUpper u (recoveryOver u 1 (regionSettled u (blockRestored u d)))
  | 1 =>
    let r := u % 0x100
    let bs := regionBlocks r
    let d := setRegion r 0 (forAll bs (fun b => setBlock b 0) d)
    cancelUpper u (recoveryOver u 1 (forAll (bs.flatMap blockComps) compRestored d))
  | _ =>
    let bs := ((List.range 38).map (1 + ·)).filter fun b =>
      (recov d b).isNone && (b < 0x25 || rd d (K.x1401_PLL_STATE (b - 0x24)) == 2) &&
        (regionOfBlock b).all fun r => (recov d (0x100 + r)).isNone
    let rs := (List.range 4).filter fun r => (recov d (0x100 + r)).isNone
    let d := forAll bs (fun b => setBlock b 0) d
    let d := forAll rs (fun r d => setRegion r (if restarting d r then 1 else 0) d) d
    let d := onlyIf (booted d) (change K.x1001_DICT_STATE (readyState d)) d
    recoveryOver u 1 (forAll ((bs.flatMap blockComps).filter fun n => !blockDown d (blockOfComp n)) compRestored d)

/-- A recovery fails with a cause for the level above (R803). -/
def recoveryFailed (u cause : Nat) (d : Dev) : Dev :=
  match recov d u with
  | none => d
  | some _ =>
    let d := recoveryOver u 2 d
    match unitLevel u with
    | 0 => blockUp u cause d
    | 1 => chipStart cause 0 (escalate d)
    | _ => internalRestart (escalate d)

/-- RECOVERY_END: success counts from the commit point on. The cause that a failure hands on is free but for a failed replay (log
entry 48). -/
def recoveryEnd (u : Nat) (ok : Bool) (d : Dev) : Dev :=
  match recov d u with
  | none => d
  | some x =>
    if ok then onlyIf x.committed (recoveryOk u) d
    else if unitLevel u = 1 ∧ rd d (K.x1011_REGION_STATE (u % 0x100)) = 3 then recoveryFailed u 5 d
    else
      let (n, d) := fresh d
      recoveryFailed u (n % 256) d

/-- RECOVERY_BUDGET_SPENT. -/
def budgetSpent (u : Nat) (d : Dev) : Dev :=
  match recov d u with
  | some x => if x.startedAt + budgetOf u ≤ d.now then recoveryFailed u 2 d else d
  | none => d

/-- A cell retry in block `b` ends (R800, R802): with good data it cancels a restart of the block that has not committed; with no
outcome the block restarts at once. -/
def cellRetryEnd (b : Nat) (fin : CellEnd) (d : Dev) : Dev :=
  match fin with
  | .goodData =>
    (match recov d b with
     | some x =>
       if x.committed then d else recoveryOver b 3 (regionSettled b (setBlock b 0 d))
     | none => d)
  | .completedFailure => d
  | .noOutcome => blockStart b 2 (escalate d)

/-- A region timeout expires: of the block restarts in progress the first counts as the same fault (R14). -/
def regionTimeout (r : Nat) (d : Dev) : Dev :=
  regionStart r 1 (((regionBlocks r).find? fun b => (recov d b).isSome).getD 0) d

/-- A chip timeout expires. -/
def chipTimeout (x : Silent) (d : Dev) : Dev :=
  match x with
  | .region r => chipStart 1 (if (recov d (0x100 + r.val)).isSome then 0x100 + r.val else 0) d
  | .memoryBlock m => chipStart 6 (if (recov d (0x25 + m.val)).isSome then 0x25 + m.val else 0) d
  | .controlComplex => chipStart 7 0 d

/-! ## Masters (R35, R809 to R811) -/

/-- A master is reset in a burst: the matrix completes the burst, no entry takes its value, an interrupted operation is replayed. -/
def masterReset (m left entry : Nat) (opSeq : Option Nat) (d : Dev) : Dev :=
  let d := jMod (fun e => opSeq == some e.opSeq) (fun e => { e with jstate := 3 }) d
  raiseX 0x16 entry 0 left 0xFF 0xFFFFFFFF (natLE 1 m) none d

/-! ## CAN FD (R84, R86) -/

/-- The error state of the counters: error-passive above 127; bus-off ends by its recovery sequence alone. -/
def busState (d : Dev) : Dev :=
  if rd d K.x1110_BUS_STATE = 2 then d
  else wr K.x1110_BUS_STATE (if 127 < rd d K.x1110_TX_ERR_COUNT ∨ 127 < rd d K.x1110_RX_ERR_COUNT then 1 else 0) d

/-! ## GPIO and tally (R841, R842) -/

/-- Does output `o` show input `p` in the frame it sends (R842)? -/
def showsInput (d : Dev) (o p : Nat) : Bool :=
  let s := rd d (K.route_SHOWN o)
  (rd d (K.route_SOURCE_KIND o) == 1 && rd d (K.route_SOURCE_ID o) == p && (s == 0 || s == 3)) ||
    (rd d (K.route_SOURCE_KIND o) == 2 && (route d o).shown.what == 1 && (shownFrame d o).any (·.inputs.contains p))

/-- Tally of input `p`: an enabled transmitter sends a frame that shows it (R842). -/
def inputTally (d : Dev) (p : Nat) : Bool :=
  (List.range 128).any fun m =>
    on d (K.tx_TX_ENABLE m) && (tieOf d m).isNone && sendsPicture d m && showsInput d (outFirst d m) p

/-- The level that a source gives GPIO pin `n` (R841). -/
def pinSource (d : Dev) (n : Nat) : Bool :=
  let v := rd d (K.x1020_PIN_SOURCE n)
  if v < 0x80 then inputTally d v
  else if 0x100 ≤ v ∧ v < 0x108 then rd d (K.ec_CHAIN_STATE (v - 0x100)) == 1
  else if v = 0x200 then on d K.x1602_THROTTLE_FLAG
  else bitAt (rd d K.x1020_GPIO_OUT) n

/-- Does the block drive GPIO pin `n`, once [1020] is applied (R841)? -/
def pinDrives (d : Dev) (n : Nat) : Bool := bitAt (rd d K.x1020_GPIO_DIR) n

/-- The level on GPIO pin `n` as the block drives it: low after PSAFE (R689, R841). -/
def pinLevel (d : Dev) (n : Nat) : Bool := !d.power.psafe && pinDrives d n && pinSource d n

/-- GPIO_IN (R841): the level at each ball, which on a driving pin is the pin's own. -/
def gpioIn (levels : Nat) (d : Dev) : Dev :=
  wr K.x1020_GPIO_IN ((List.range 32).foldl (fun a n => setBitAt a n (if pinDrives d n then pinLevel d n else bitAt levels n)) 0) d

end Sys2Proof.Machine
end

