-- ==== Sys2Proof/Machine/Views.lean ====
section
/-! DEFINITION. What an entry reads (02): the values that follow from other state or differ by requester, the slots of the
aperture, who may read. -/

namespace Sys2Proof.Machine

/-! ## Values formed at the read -/

/-- Is queue `q` one of the requester's own function (R605)? No queue belongs to a DDP node or to the device itself. -/
def ownQueue (d : Dev) (req q : Nat) : Bool := isPcie req && qFn d q == some req

def qsel (d : Dev) (req : Nat) : Nat := tabGet 0 d.ctl.qsel req

/-- The entries of [3C01] (R605): zeros for a queue of another function. -/
def viewQueue (d : Dev) (req sub : Nat) : Nat :=
  let q := qsel d req
  let c := queue d q
  if sub = 0 then 0x14
  else if sub = 1 then q
  else if !ownQueue d req q then 0
  else match sub with
    | 0x02 => (qFn d q).getD 0xFF
    | 0x03 => c.typ
    | 0x04 => c.sqBase
    | 0x05 => c.sqLog2
    | 0x06 => c.cqBase
    | 0x07 => c.cqLog2
    | 0x08 => c.vector
    | 0x09 => c.holdoff
    | 0x0A => c.guar
    | 0x0B => c.target
    | 0x0C => c.enable
    | 0x0D => c.st
    | 0x0E => c.head
    | 0x0F => c.tail
    | 0x10 => c.cqTail
    | 0x11 => c.cqHead
    | 0x12 => c.pause
    | 0x14 => c.bytes
    | _ => 0

/-- The word of [3808:01] of a requester, and the page it resolves to (R585). -/
def queryOf (d : Dev) (req : Nat) : Nat := (tabGet [] d.ctl.query req).headD 0

def queryPage (d : Dev) (req : Nat) : Option Nat := queryLpn d req (queryOf d req)

/-- Faults since the reset or the latest LOG_CLEAR (R820, R821). -/
def faultCount (d : Dev) : Nat :=
  Nat.min (d.evLog.filter fun e => decide (3 ≤ e.sev) && decide (d.evClearedAt < e.seq)).length 0xFFFFFFFF

/-- Seconds of back-off that remain, and milliseconds of the grace time, rounded up (R744, R752). -/
def backoffLeft (d : Dev) (u : Nat) : Nat :=
  match (user d u).backoffEnd with
  | some e => (e - d.now + 999999999999) / 1000000000000
  | none => 0

def graceLeft (d : Dev) : Nat :=
  if on d K.x1602_THROTTLE_FLAG then (d.therm.graceEnd - d.now + 999999999) / 1000000000 else 0

/-- Has the mount completed? -/
def nvMounted (d : Dev) : Bool := rd d K.x1A00_NV_STATE == 2

/-- The entries of [1A00] that follow from the rings (R745), after the mount. -/
def viewStore (d : Dev) (k : Nat) : Nat :=
  if !nvMounted d then rd d k
  else match k % 256 with
    | 0x03 => erasedAhead d 0
    | 0x04 => erasedAhead d 1
    | 0x05 => liveBytes d 0 / 1024
    | 0x06 => liveBytes d 2 / 1024
    | 0x0B => (List.range 4).foldl (fun a r => a + (ring d r).bad.length) 0
    | _ => rd d k

/-- STEER_PPM (R194, R206, R226): the frequency of the output's generator against the PLL's nominal, in 0.01 ppm within the range of the
interpolator; a far-end loop follows the recovered clock, a tie transmitter does not steer. -/
def steerNow (d : Dev) (p : Nat) : Nat :=
  let held (v : Int) : Int := max (-10000) (min 10000 v)
  if (tieOf d p).isSome ∨ !on d (K.tx_TX_ENABLE p) then 0
  else if farEnd d p then tc 16 (held (sx 16 (Config.steerPpm p d.now).toNat))
  else tc 16 (held (tgRun d (outTg d p) / 10))

/-- The number that entry `k` reads for requester `req`. -/
def viewNum (d : Dev) (req k : Nat) : Nat :=
  let i := k / 256
  let s := k % 256
  if k = K.x1001_REQUESTER_ID then req
  else if k = K.x1C10_FAULT_COUNT then faultCount d
  else if k = K.x1C10_EVENT_SEQ then d.evSeq
  else if k = K.x1C30_JOURNAL_USED then d.jr.entries.length
  else if k = K.x5000_BASTING_COUNT then (basting d req).items.length
  else if k = K.x5000_STAGE_FREE then stageFree d
  else if i = 0x5106 ∧ s ≠ 0 then (tabGet [] d.ctl.dryRun req).getD (s - 1) 0
  else if k = K.x1640_PB_OCCUPANCY then occupancy d
  else if i = 0x1A00 then viewStore d k
  else if i = 0x3C01 then viewQueue d req s
  else if 0x3C10 ≤ i ∧ i < 0x3C50 ∧ s = 7 then queueShares d (i - 0x3C10) 0
  else if 0x3C10 ≤ i ∧ i < 0x3C50 ∧ s = 8 then queueShares d (i - 0x3C10) 1
  else if 0x2000 ≤ i ∧ i < 0x2080 ∧ s = 0x11 then prbsErrorsNow d (i - 0x2000)
  else if 0x2000 ≤ i ∧ i < 0x2080 ∧ s = 0x12 then prbsBitsNow d (i - 0x2000)
  else if 0x2080 ≤ i ∧ i < 0x2100 ∧ s = 7 then steerNow d (i - 0x2080)
  else if 0x1450 ≤ i ∧ i < 0x1458 ∧ s = 3 then satTc 32 (tgOffset d (i - 0x1450))
  else if 0x1450 ≤ i ∧ i < 0x1458 ∧ s = 8 then bivouacMs d (i - 0x1450)
  else if k = K.x3808_QUERY then queryOf d req
  else if k = K.x3808_QUERY_LPN then (queryPage d req).getD 0xFFFFFFFF
  else if 0x1A10 ≤ i ∧ i < 0x1A14 ∧ s = 6 then (if unlocked d (i - 0x1A10) req then 1 else 0)
  else if 0x1A10 ≤ i ∧ i < 0x1A14 ∧ s = 8 then backoffLeft d (i - 0x1A10)
  else if 0x2400 ≤ i ∧ i < 0x2480 ∧ s = 0x11 then tgLockedBits d (i - 0x2400)
  else if k = K.x1602_GRACE_LEFT_MS then graceLeft d
  else if 0x3480 ≤ i ∧ i < 0x34A0 ∧ s = 8 then playedUntil d (i - 0x3480)
  else if k = K.x3400_SLEW_PPB then audioSlewPpb d
  else if 0x3500 ≤ i ∧ i < 0x3580 ∧ isMember d (i - 0x3500) then 0
  else rd d k

/-- The 16 bytes of [1460:01] (R672): nanoseconds, the 16-bit fraction, zeros. -/
def stcBytes (d : Dev) : List Byte := natLE 8 (stcNs d) ++ natLE 2 (stcFrac d) ++ List.replicate 6 0

/-- The body that entry `k` reads for requester `req`. -/
def viewBody (d : Dev) (req k : Nat) : List Byte :=
  if k = K.x1460_STC_NOW then stcBytes d
  else if k = K.x1C10_FAULT_LOG then (faultLog d).flatMap fun e => eventBytes e false
  else if k = K.x1C10_LAST_FAULT then (((faultLog d).getLast?).map fun e => eventBytes e false).getD (List.replicate 64 0)
  else if k = K.x3808_ENTRY then ((queryPage d req).map fun l => pteBytes (pte d l)).getD (List.replicate 16 0)
  else if k = K.x1808_REPORT then tabGet [] d.ctl.report req
  else if k = K.x1C40_LEDGER_ENTRY then ledgerBytes (thisEntry d)
  else rdB d k

/-- The active value of an entry as the requester reads it; a rail voltage is measured, and no rule of the manual fixes it. -/
def readEntry (req k : Nat) (r : Row) (d : Dev) : List Byte × Dev :=
  if K.x1610_RAIL_MV 0 ≤ k ∧ k ≤ K.x1610_RAIL_MV 10 ∧ rd d K.x1001_DICT_STATE ≠ 0 then
    let (v, d) := fresh d
    (natLE 2 v, d)
  else (if r.acc == .wo then List.replicate r.size 0 else if r.ty.isBody then viewBody d req k else natLE r.size (viewNum d req k), d)

/-! ## Slots of the aperture (R60, R61) -/

/-- MAX_LENGTH of a row. -/
def maxLength (r : Row) : Nat := if r.ty == .domain then 0xFFFF else r.size

/-- The row of argument `s` of a slot under an operation: its access, and in a commit slot the type, that the operation's chapter gives
it (R124, R128). -/
def argRow (op s : Nat) (r : Row) : Row :=
  let r := if (roArgs op).contains s then { r with acc := .ro } else r
  if op ≠ 1 then r
  else if s = 7 then { r with ty := .u8, size := 1 }
  else if s = 8 ∨ s = 9 then { r with ty := .u16, size := 2 }
  else if s = 0xA then { r with ty := .u32, size := 4 }
  else r

/-- The row of entry `k` as it stands. -/
def entryRow (d : Dev) (k : Nat) : Option Row :=
  let i := k / 256
  let s := k % 256
  (rowOf k).map fun r =>
    if 0x1200 ≤ i ∧ i < 0x1240 ∧ 6 ≤ s ∧ s ≤ 0xF then argRow (rd d (K.slot_OPCODE (i - 0x1200))) s r else r

/-- The metadata word of entry `k` for a requester. -/
def metaWord (d : Dev) (req k : Nat) (r : Row) : Nat :=
  (if (stagedValue d req k).isSome then 2 ^ 32 else 0) + maxLength r * 2 ^ 16 + r.cls.code * 2 ^ 12 + r.acc.code * 2 ^ 8 + r.ty.code

/-- Does bytes 0 to 7 of the slot hold a current length? -/
def hasLength (r : Row) : Bool := r.ty == .domain || decide (16 < r.size)

/-- Does the slot carry a metadata word? -/
def hasMeta (r : Row) : Bool := hasLength r || decide (r.size ≤ 8)

/-- A value of a signed type. -/
def Ty.signed : Ty → Bool
  | .i16 => true
  | .i32 => true
  | .q16 => true
  | _ => false

/-- The 16 bytes of a slot whose entry reads `v`. -/
def slotBytes (d : Dev) (req k : Nat) (r : Row) (v : List Byte) : List Byte :=
  if hasLength r then natLE 8 v.length ++ natLE 8 (metaWord d req k r)
  else if 8 < r.size then padTo 16 v
  else if r.ty.signed then natLE 8 (tc 64 (sx (8 * r.size) (leNat v))) ++ natLE 8 (metaWord d req k r)
  else padTo 8 v ++ natLE 8 (metaWord d req k r)

/-! ## What a virtual function may reach (R596, R850) -/

/-- Is the requester a virtual function? -/
def isVf (req : Nat) : Bool := isPcie req && req != 0

def inAny (l : List (Nat × Nat)) (i : Nat) : Bool := l.any fun p => decide (p.1 ≤ i) && decide (i ≤ p.2)

/-- The objects that every virtual function may read, its own apart. -/
def vfReadable : List (Nat × Nat) := [
  (0x1000, 0x11FF), (0x1400, 0x16FF), (0x1800, 0x18FF), (0x1C20, 0x1C21), (0x1200, 0x123F), (0x2000, 0x35FF), (0x4000, 0x4FFF),
  (0x5000, 0x5000), (0x5100, 0x51FF), (0x3808, 0x3808), (0x3C00, 0x3C01)]

def vfMayRead (d : Dev) (f k : Nat) : Bool :=
  rd d (K.fn_FN_STATE f) != 0 && (inAny vfReadable (k / 256) || k / 256 == 0x3C10 + f || k / 256 == 0x3840 + f)

/-- The operations that a virtual function may start. -/
def vfOps (d : Dev) (f : Nat) : List Nat := [0x21, 0x60] ++ if rd d (K.fn_VF_ROLE f) = 1 then [0x01] else []

/-- May virtual function `f` write number `v` to entry `k`? -/
def vfMayWrite (d : Dev) (f k v : Nat) : Bool :=
  let i := k / 256
  let s := k % 256
  rd d (K.fn_FN_STATE f) != 0 &&
    (if 0x1200 ≤ i ∧ i ≤ 0x123F then
      (if s = 3 then (vfOps d f).contains v
       else if s = 2 ∧ v = 1 then (vfOps d f).contains (rd d (K.slot_OPCODE (i - 0x1200)))
       else s == 2 || (decide (6 ≤ s) && decide (s ≤ 0xF)))
     else if i = 0x3808 then s == 1
     else if i = 0x3C01 then true
     else rd d (K.fn_VF_ROLE f) == 1 &&
      (k == K.x5000_COMMIT_REQUEST || k == K.x5000_DISCARD_BASTING ||
        (inAny [(0x2000, 0x35FF), (0x4000, 0x4FFF), (0x5100, 0x51FF)] i && (rowOf k).any fun r => r.acc == .rws)))

/-- May the requester read entry `k`? -/
def mayRead (d : Dev) (req k : Nat) : Bool := !isVf req || vfMayRead d req k

end Sys2Proof.Machine
end

