-- ==== Sys2Proof/Machine/Access.lean ====
section
/-! DEFINITION. Access to the dictionary (02): misses, refusals and their order, what a write does, and the commands that write one entry
through the aperture. -/

namespace Sys2Proof.Machine

/-! ## Misses and refusals (R38 to R42, R73, R74) -/

/-- Is it the master's or requester's turn to be recorded: no lower one was recorded in this CK_CTL cycle (R42, R74)? -/
def recordsNow (d : Dev) (was : Option (Nat × Nat)) (who : Nat) : Bool :=
  was.all fun x => x.1 != ctlCycle d || decide (who ≤ x.2)

/-- A miss is recorded (R41, R42). -/
def miss (master addr : Nat) (write : Bool) (d : Dev) : Dev :=
  let d' := incSat 32 K.x1C20_MISS_COUNT d
  if recordsNow d d.ctl.missCycle master then
    let d' := wr K.x1C20_LAST_ADDRESS addr (wr K.x1C20_LAST_MASTER master (wr K.x1C20_LAST_KIND (if write then 1 else 0)
      (wr K.x1C20_LAST_STC (stcNs d) d')))
    { d' with ctl := { d'.ctl with missCycle := some (ctlCycle d, master) } }
  else d'

/-- A refusal is recorded (R73, R74). -/
def refuse (req k code : Nat) (d : Dev) : Dev :=
  let d' := incSat 32 K.x1C21_REFUSE_COUNT d
  if recordsNow d d.ctl.refuseCycle req then
    let d' := wr K.x1C21_LAST_ENTRY k (wr K.x1C21_LAST_REQUESTER req (wr K.x1C21_LAST_REASON code
      (wr K.x1C21_LAST_STC (stcNs d) d')))
    { d' with ctl := { d'.ctl with refuseCycle := some (ctlCycle d, req) } }
  else d'

/-- The target that holds an object (R32): regions 0 to 3, 4 control complex, 5 security, 6 NV, 7 thermal. Target 8 is the frame-memory
window, which holds no object: no command of the table addresses it (log entry 82). -/
def targetOf (i : Nat) : Nat :=
  if 0x1600 ≤ i ∧ i ≤ 0x16FF then 7
  else if 0x1800 ≤ i ∧ i ≤ 0x18FF then 5
  else if 0x1A00 ≤ i ∧ i ≤ 0x1AFF then 6
  else if 0x2000 ≤ i ∧ i ≤ 0x207F then regionOfPort (i - 0x2000)
  else if 0x2080 ≤ i ∧ i ≤ 0x20FF then regionOfPort (i - 0x2080)
  else if 0x2100 ≤ i ∧ i ≤ 0x211F then (i - 0x2100) / 8
  else if 0x2200 ≤ i ∧ i ≤ 0x221F then (i - 0x2200) / 8
  else if 0x2220 ≤ i ∧ i ≤ 0x222F then (i - 0x2220) / 4
  else if 0x2400 ≤ i ∧ i ≤ 0x247F then regionOfPort (i - 0x2400)
  else if 0x2800 ≤ i ∧ i ≤ 0x2847 then regionOfComp (i - 0x2800)
  else if 0x2900 ≤ i ∧ i < 0x2B40 then regionOfComp ((i - 0x2900) / 8)
  else if 0x2C00 ≤ i ∧ i ≤ 0x2C47 then regionOfComp (i - 0x2C00)
  else if 0x3500 ≤ i ∧ i ≤ 0x357F then regionOfPort (i - 0x3500)
  else if 0x3580 ≤ i ∧ i ≤ 0x35FF then regionOfPort (i - 0x3580)
  else if 0x3020 ≤ i ∧ i ≤ 0x303F then (i - 0x3020) / 8
  else if 0x3040 ≤ i ∧ i ≤ 0x307F then (i - 0x3040) / 16
  else if 0x3080 ≤ i ∧ i ≤ 0x30FF then regionOfPort (i - 0x3080)
  else if 0x3410 ≤ i ∧ i ≤ 0x341F then (i - 0x3410) / 4
  else if 0x3420 ≤ i ∧ i ≤ 0x342F then (i - 0x3420) / 4
  else 4

/-- The master that carries an access (R31, R38, R54): 6 for the replay engine, SOURCE 0x01; other internal accesses come from the
control processor that the access names. -/
def masterOf (a : Access) : Nat :=
  match a.path with
  | .aperture => 0
  | .mailbox => 0
  | .ddp => 1
  | .debug => 7
  | .bus => match a.req with
    | .internal s => if s.val = 1 then 6 else 2 + a.proc.val
    | _ => 2 + a.proc.val

/-- Does a master reach a target (R31, R792)? Masters 0 and 1 do not reach the frame-memory window, debug is granted in MANUFACTURE and
RMA alone. -/
def reaches (d : Dev) (m tgt : Nat) : Bool :=
  (decide (2 ≤ m) || decide (tgt < 8)) && (m != 7 || rd d K.x1800_LIFECYCLE == 1 || rd d K.x1800_LIFECYCLE == 3)

/-- Does the path write slots as the aperture does (R68)? Accesses on the bus itself and of debug do (log entry 82). -/
def slotPath : Path → Bool
  | .mailbox => false
  | .ddp => false
  | _ => true

/-! ## Who may write (R849, cause 2) -/

/-- Entries that only the physical function may write or stage (R85, R161, R574, R634, R688, R743, R752, R789, R790, R793, R821). -/
def physOnly (k : Nat) : Bool :=
  let i := k / 256
  let s := k % 256
  k == K.x1110_DDP_WRITE_MODE || k == K.x5101_ENVELOPE_MW || i == 0x1600 || k == K.x1C40_PERST_SCOPE ||
    (i == 0x1640 && decide (1 ≤ s) && decide (s ≤ 6)) || k == K.x1800_OWNER_TOKEN || k == K.x1800_SVN_COMMIT ||
    k == K.x1802_EPOCH_ADVANCE || k == K.x1C10_LOG_CLEAR || (decide (0x3840 ≤ i) && decide (i < 0x3880) && s == 1) ||
    (decide (0x3C10 ≤ i) && decide (i < 0x3C50)) || (decide (0x1A10 ≤ i) && decide (i < 0x1A14) && (s == 3 || s == 9))

/-- The slot that a write concerns: of [slot], or the one that COMMIT_REQUEST names. -/
def slotOfWrite (k v : Nat) : Option Nat :=
  let i := k / 256
  let s := k % 256
  if 0x1200 ≤ i ∧ i < 0x1240 ∧ (s = 2 ∨ s = 3 ∨ (6 ≤ s ∧ s ≤ 0xF)) then some (i - 0x1200)
  else if k = K.x5000_COMMIT_REQUEST ∧ v < 64 then some v
  else none

/-- Is a write of number `v` to `k` not permitted? -/
def notPermitted (d : Dev) (p : Path) (req k v : Nat) : Bool :=
  let i := k / 256
  let s := k % 256
  (isVf req && !vfMayWrite d req k v) ||
    (p == .ddp && (rd d K.x1110_DDP_WRITE_MODE == 0 || inAny [(0x1800, 0x18FF), (0x6000, 0x6FFF)] i || (i == 0x3C01 && s != 1))) ||
    (physOnly k && req != 0) || (k == K.x1468_ANCHOR && req != 0 && p != .ddp) ||
    (slotOfWrite k v).any (fun x => slotOwned d x && rd d (K.slot_OWNER x) != req) ||
    (i == 0x3C01 && decide (2 ≤ s) && !ownQueue d req (qsel d req)) ||
    (decide (0x1A10 ≤ i) && decide (i < 0x1A14) &&
      ((s == 1 && !mayStageBody d (i - 0x1A10) req) ||
       (s == 3 && rd d (K.up_PROTECT_MODE (i - 0x1A10)) != 0 && !unlocked d (i - 0x1A10) req)))

/-- A write that RECOVERY accepts (R58, R781): from a PCIe requester, to a writable entry of [1800] to [1802] that it is permitted to
write, or to what a slot's operation 0x0010 or 0x0080 takes: OPCODE, CONTROL and its RW arguments. -/
def recoveryWrite (d : Dev) (p : Path) (req k v : Nat) (r : Row) : Bool :=
  let i := k / 256
  let s := k % 256
  let op := if s = 3 then v else rd d (K.slot_OPCODE (i - 0x1200))
  isPcie req &&
    ((inAny [(0x1800, 0x1802)] i && r.acc != .ro && r.acc != .const && !notPermitted d p req k v) ||
     (decide (0x1200 ≤ i) && decide (i < 0x1240) && (op == 0x10 || op == 0x80) &&
       (s == 2 || s == 3 || (decide (6 ≤ s) && decide (s ≤ 0xF) && r.acc != .ro))))

/-- Is the block not ready for the write (R57, R58)? -/
def notReady (d : Dev) (p : Path) (req k v : Nat) (r : Row) : Bool :=
  if rd d K.x1C40_BOOT_STEP = 0xFE then !recoveryWrite d p req k v r else decide (rd d K.x1001_DICT_STATE < 2)

/-! ## Size, place and value (R849, causes 4 to 9) -/

/-- Does the write touch what is not writable: an RO or CONST entry, a metadata word, an argument that the slot's operation makes RO? -/
def readOnly (p : Path) (r : Row) (start n : Nat) : Bool :=
  r.acc == .ro || r.acc == .const || (slotPath p && hasMeta r && decide (8 < start + n))

/-- Would the range of queues of function `f` lose a queue that is not DISABLED (R607)? -/
def losesQueue (d : Dev) (f first count : Nat) : Bool :=
  d.host.queues.any fun x => x.2.st != 0 && qFn d x.1 == some f && !(decide (first ≤ x.1) && decide (x.1 < first + count))

/-- The range of queues of function `f` once `v` is written to [fn:s]. -/
def newRange (d : Dev) (f s v : Nat) : Nat × Nat :=
  (if s = 3 then v else rd d (K.fn_QUEUE_FIRST f), if s = 4 then v else rd d (K.fn_QUEUE_COUNT f))

/-- Is port `p` the target of an eye scan that is QUEUED or RUNNING (R76, R237)? -/
def eyeScanned (d : Dev) (p : Nat) : Bool := (busySlots d).any fun s => rd d (K.slot_OPCODE s) == 0x50 && arg d s 6 == p

/-- Is the entry held (R76, R131, R132, R134, R237, R606, R607)? -/
def locked (d : Dev) (req k v : Nat) : Bool :=
  let i := k / 256
  let s := k % 256
  if 0x1200 ≤ i ∧ i < 0x1240 then slotBusy d (i - 0x1200) && (s != 2 || v == 1 || v == 3)
  else if k = K.x5000_COMMIT_REQUEST then decide (v < 64) && slotBusy d v
  else if 0x2000 ≤ i ∧ i < 0x2080 ∧ (s = 3 ∨ s = 8 ∨ s = 9) then eyeScanned d (i - 0x2000)
  else if i = 0x3C01 then
    (queue d (qsel d req)).st != 0 && ([0x3, 0x4, 0x5, 0x6, 0x7, 0x8, 0xA, 0xB].contains s)
  else if 0x3C10 ≤ i ∧ i < 0x3C50 ∧ (s = 3 ∨ s = 4) then
    losesQueue d (i - 0x3C10) (newRange d (i - 0x3C10) s v).1 (newRange d (i - 0x3C10) s v).2
  else false

/-- Is the body too large for the path, or for the NV store (R69, R80, R91, R723)? -/
def tooLarge (d : Dev) (p : Path) (k : Nat) (r : Row) (big : Bool) : Bool :=
  (if p = .mailbox then big else hasLength r) || (r.cls == .instant && r.nv && !storeFits d (k / 256) (objPayload d (k / 256) 0).length)

/-- Do start and length suit the entry (R68, R80, R91)? -/
def lengthOk (p : Path) (r : Row) (start n : Nat) : Bool :=
  start == 0 &&
    (if r.ty == .domain then true
     else if 16 < r.size then n == r.size
     else if 8 < r.size then n == 16 || (!slotPath p && n == r.size)
     else n == r.size || n == 8)

/-- Does the range of queues overlap another function's (R607)? -/
def overlaps (d : Dev) (f first count : Nat) : Bool :=
  count != 0 && (List.range 64).any fun g =>
    g != f && rd d (K.fn_QUEUE_COUNT g) != 0 && decide (first < rd d (K.fn_QUEUE_FIRST g) + rd d (K.fn_QUEUE_COUNT g)) &&
      decide (rd d (K.fn_QUEUE_FIRST g) < first + count)

/-- Does GUAR_MBPS of the selected queue stay within its function's share (R608)? -/
def guarOk (d : Dev) (q v : Nat) : Bool :=
  let c := queue d q
  let f := (qFn d q).getD 0
  let dir := if c.typ = 2 ∨ c.typ = 4 then 1 else 0
  v == 0 || ([1, 2, 3, 4, 6].contains c.typ &&
    decide (queueShares d f dir - c.guar + v ≤ rd d (if dir = 0 then K.fn_GUAR_D2H_MBPS f else K.fn_GUAR_H2D_MBPS f)))

/-- Do the thresholds keep their order with `v` in [1600:s] (R753)? -/
def thresholdsOk (d : Dev) (s v : Nat) : Bool :=
  let t (j : Nat) : Nat := if j = s then v else rd d (0x1600 * 256 + j)
  decide (t 1 + 2 ≤ t 2) && decide (t 2 + 2 ≤ t 3) && decide (t 3 + 2 ≤ t 4)

/-- Is an anchor within its time (R673)? -/
def anchorOk (d : Dev) (b : List Byte) : Bool :=
  let x := leAt b 0 8
  decide (x ≤ stcNs d) && decide (stcNs d ≤ x + rd d K.x1468_ANCHOR_MAX_AGE_S * 1000000000)

/-- Is the value within the entry's range (R70), as its table and rules state it? -/
def valueOk (d : Dev) (req k : Nat) (r : Row) (v : Nat) (b : List Byte) : Bool :=
  let i := k / 256
  let s := k % 256
  (r.ty.isBody || inRange r.rng v) &&
    (if 0x1200 ≤ i ∧ i < 0x1240 ∧ s = 2 then decide (1 ≤ v) && decide (v ≤ 3)
     else if 0x1200 ≤ i ∧ i < 0x1240 ∧ s = 6 ∧ rd d (K.slot_OPCODE (i - 0x1200)) = 1 then decide (v < 2)
     else if k = K.x5000_COMMIT_REQUEST then decide (v < 64)
     else if i = 0x1600 ∧ 1 ≤ s ∧ s ≤ 4 then thresholdsOk d s v
     else if k = K.x1468_ANCHOR then anchorOk d b
     else if 0x3C10 ≤ i ∧ i < 0x3C50 ∧ (s = 3 ∨ s = 4) then
       !overlaps d (i - 0x3C10) (newRange d (i - 0x3C10) s v).1 (newRange d (i - 0x3C10) s v).2
     else if k = K.fn_VF_ROLE 0 then false
     else if k = K.x3C01_GUAR_MBPS then guarOk d (qsel d req) v
     else if k = K.x3C01_Q_ENABLE then v == 0 || (queue d (qsel d req)).st != 0 || contextOk d (qsel d req)
     else true)

/-- A write as it meets an entry: path, requester, entry, first byte of the slot, bytes (of a DOMAIN the whole body), and whether it
would take a body beyond 64 MiB. -/
structure Put where
  path : Path
  req : Nat
  k : Nat
  start : Nat
  bytes : List Byte
  big : Bool := false
  deriving DecidableEq, Repr

/-- The number that the bytes of a write carry for a row. -/
def Put.num (w : Put) (r : Row) : Nat := leNat (w.bytes.take r.size)

/-- The first cause that refuses a write, in the order of R849; a staged write's value is not examined (R71). -/
def refusal (d : Dev) (w : Put) (r : Row) : Option Nat :=
  let v := w.num r
  let n := w.bytes.length
  if notReady d w.path w.req w.k v r then some 7
  else if notPermitted d w.path w.req w.k v then some 8
  else if r.cls = .long then some 6
  else if readOnly w.path r w.start n then some 2
  else if locked d w.req w.k v then some 0xF
  else if tooLarge d w.path w.k r w.big then some 0xE
  else if !lengthOk w.path r w.start n then some 4
  else if r.acc = .rws then none
  else if !valueOk d w.req w.k r v w.bytes then some 5
  else none

/-! ## What a write does -/

/-- The fields of the selected queue (R605). -/
def queueField (s v : Nat) (c : Queue) : Queue :=
  match s with
  | 0x03 => { c with typ := v }
  | 0x04 => { c with sqBase := v }
  | 0x05 => { c with sqLog2 := v }
  | 0x06 => { c with cqBase := v }
  | 0x07 => { c with cqLog2 := v }
  | 0x08 => { c with vector := v }
  | 0x09 => { c with holdoff := v }
  | 0x0A => { c with guar := v }
  | 0x0B => { c with target := v }
  | _ => c

/-- A write to [3C01] (R605, R606, R626, R627). -/
def putQueue (req s v : Nat) (d : Dev) : Dev :=
  let q := qsel d req
  if s = 1 then { d with ctl := { d.ctl with qsel := tabSet req v d.ctl.qsel } }
  else if s = 0xC then exportRecount (if v = 1 then enableQueue q d else disableQueue q d)
  else if s = 0x13 then (if v = 1 then resumeSkip q d else if v = 2 then resumeRetry q d else d)
  else modQ q (queueField s v) d

/-- A write to a slot's CONTROL (R129 to R137). -/
def putControl (x req v : Nat) (d : Dev) : Dev :=
  if v = 3 then (if slotOwned d x then slotRelease x d else d)
  else
    let d := claimSlot x req d
    if v = 1 then slotStart x d else slotAbort x d

/-- COMMIT_REQUEST: the slot's OPCODE is the commit's, and the slot starts (R109). -/
def commitWrite (x req : Nat) (d : Dev) : Dev := putControl x req 1 (wr (K.slot_OPCODE x) 1 (claimSlot x req d))

/-- The anchor in force is replaced (R673, R675). -/
def putAnchor (req : Nat) (b : List Byte) (d : Dev) : Dev :=
  incSat 32 K.x1468_ANCHOR_COUNT (wr K.x1468_ANCHOR_STATE 1 (wr K.x1468_ANCHOR_REQUESTER req (wrB K.x1468_ANCHOR b d)))

/-- The fault log is emptied with its figures (R821). -/
def logClear (d : Dev) : Dev :=
  clearAll [K.x1C10_MAX_INTERRUPT_US, K.x1C10_INTERRUPTIONS, K.x1C10_ESCALATIONS]
    (modNv (fun n => { n with faults := [] }) { d with oldFaults := [], evClearedAt := d.evSeq })

/-- Entries from sub-index `a` to `b` of object `i` read 0. -/
def clearSubs (i a b : Nat) (d : Dev) : Dev := clearAll ((List.range (b + 1 - a)).map fun j => i * 256 + a + j) d

/-- A write to a WO entry acts once (R72); values that its table does not name are ignored. -/
def putOnce (req k v : Nat) (d : Dev) : Dev :=
  let i := k / 256
  let s := k % 256
  if 0x1200 ≤ i ∧ i < 0x1240 then putControl (i - 0x1200) req v d
  else if k = K.x5000_COMMIT_REQUEST then commitWrite v req d
  else if 0x2C00 ≤ i ∧ i < 0x2C48 then regionRelease (i - 0x2C00) v d
  else if i = 0x3C01 then putQueue req s v d
  else if v ≠ 1 then d
  else if k = K.x5000_DISCARD_BASTING then discardBasting req d
  else if k = K.x1C20_CLEAR then clearSubs 0x1C20 1 5 d
  else if k = K.x1C21_CLEAR then clearSubs 0x1C21 1 5 d
  else if k = K.x1C10_LOG_CLEAR then logClear d
  else if k = K.x1800_SVN_COMMIT then svnCommit d
  else if k = K.x1802_EPOCH_ADVANCE then epochAdvance req d
  else if k = K.x3800_COUNT_CLEAR then clearSubs 0x3800 9 0x10 d
  else if k = K.x3806_CLEAR then clearSubs 0x3806 1 7 d
  else if 0x1A10 ≤ i ∧ i < 0x1A14 then (if s = 5 then lockAct (i - 0x1A10) req d else eraseClearAct (i - 0x1A10) req d)
  else if 0x2000 ≤ i ∧ i < 0x2080 then
    (if s = 3 then (if rd d (K.rx_RX_STATE (i - 0x2000)) = 0 ∨ rd d (K.rx_RX_STATE (i - 0x2000)) = 4 then d
       else inputsFollow (i - 0x2000) (rxSearch (i - 0x2000) d))
     else rxCountClear (i - 0x2000) d)
  else if 0x2080 ≤ i ∧ i < 0x2100 then injectError (i - 0x2080) d
  else if 0x3410 ≤ i ∧ i < 0x3420 then clearSubs i 0xC 0x10 d
  else if 0x3500 ≤ i ∧ i < 0x3580 then clearSubs i 6 7 d
  else d

/-- What follows a new value of an RW entry. -/
def afterPut (req k v : Nat) (d : Dev) : Dev :=
  let i := k / 256
  let s := k % 256
  if k = K.x1000_COMPAT_REQUEST then setBootCfg 2 v d
  else if k = K.x1C40_PERST_SCOPE then setBootCfg 3 v d
  else if k = K.x1600_T_CRIT_C then setBootCfg 4 v d
  else if 0x1200 ≤ i ∧ i < 0x1240 then claimSlot (i - 0x1200) req d
  else if 0x2000 ≤ i ∧ i < 0x2080 ∧ s = 8 then inputsFollow (i - 0x2000) (txUpdate (i - 0x2000) (rxTestApply (i - 0x2000) d))
  else if 0x2000 ≤ i ∧ i < 0x2080 ∧ s = 9 then inputsFollow (i - 0x2000) (prbsApply (i - 0x2000) d)
  else if 0x2080 ≤ i ∧ i < 0x2100 ∧ s = 3 then txUpdate (i - 0x2080) d
  else if 0x3C10 ≤ i ∧ i < 0x3C50 ∧ (s = 3 ∨ s = 4) then exportRecount d
  else d

/-- The value of an RW entry that stands beside the entries, or in them; an NV-held one goes to the persist path (R678). -/
def putRw (req k v : Nat) (b : List Byte) (r : Row) (d : Dev) : Dev :=
  if k / 256 = 0x3C01 then putQueue req (k % 256) v d
  else if k = K.x3808_QUERY then { d with ctl := { d.ctl with query := tabSet req [v] d.ctl.query } }
  else if k = K.x1468_ANCHOR then putAnchor req b d
  else onlyIf r.nv (persistObj (k / 256) req) (afterPut req k v (if r.ty.isBody then wrB k b d else wr k v d))

/-- The effect of a write that no cause refuses; the answer is a status code. `sigOk` says whether the signatures of an owner token
verify. -/
def putEffect (w : Put) (r : Row) (sigOk : Bool) (d : Dev) : Nat × Dev :=
  let v := w.num r
  let i := w.k / 256
  if r.acc = .rws then stageWrite w.req w.k (if r.ty == .domain then w.bytes else w.bytes.take r.size) d
  else if w.k = K.x1800_OWNER_TOKEN then tokenAct sigOk w.bytes w.req d
  else if 0x1A10 ≤ i ∧ i < 0x1A14 ∧ w.k % 256 = 3 then setPasswordAct (i - 0x1A10) w.req w.bytes d
  else if 0x1A10 ≤ i ∧ i < 0x1A14 ∧ w.k % 256 = 4 then unlockAct (i - 0x1A10) w.req w.bytes d
  else if r.acc = .wo then (0, putOnce w.req w.k v d)
  else (0, putRw w.req w.k v (w.bytes.take r.size) r d)

/-- A write to an entry that exists: refused and recorded, or done; the answer is a status code. -/
def writeEntry (w : Put) (r : Row) (sigOk : Bool) (d : Dev) : Nat × Dev :=
  match refusal d w r with
  | some c => (c, refuse w.req w.k c d)
  | none =>
    match putEffect w r sigOk d with
    | (0, d) => (0, d)
    | (c, d) => (c, refuse w.req w.k c d)

/-- Do the signatures of an owner token verify, when the command does not say what the security engine found? -/
def tokenVerified (b : List Byte) : Bool := Config.tokenVerifies (beNat b)

/-- A miss of an access by its path: through the aperture an Unsupported Request too; a read of a control processor, the replay engine
or debug is answered with a bus error (R38 to R40). -/
def missBy (a : Access) (addr : Nat) (write : Bool) (d : Dev) : Dev :=
  let d := miss (masterOf a) addr write d
  if a.path = .aperture then toHost (.unsupported (reqId a.req)) d
  else if 2 ≤ masterOf a ∧ !write then { d with ctl := { d.ctl with busErrors := (masterOf a, addr) :: d.ctl.busErrors } }
  else d

/-- The entry that an access meets: none where it goes to the default target (R38, R77). -/
def metRow (d : Dev) (p : Path) (req k v : Nat) (write : Bool) : Option Row :=
  (entryRow d k).filter fun _ => !(p == .aperture && isVf req && !(if write then vfMayWrite d req k v else vfMayRead d req k))

/-- A write that its target's port takes; the answer is a status code. -/
def writeBy (a : Access) (k start : Nat) (b : List Byte) (sigOk : Bool) (d : Dev) : Nat × Dev :=
  let req := reqId a.req
  let v := leNat (b.take (((entryRow d k).map (·.size)).getD 8))
  match metRow d a.path req k v true with
  | none => (1, missBy a (k * 16 + start) true d)
  | some r => writeEntry { path := a.path, req := req, k := k, start := start, bytes := b } r sigOk d

/-- May the path and the requester go together (R31, R54, R55)? R54 gives debug no requester; the model lets it go by an internal one
(log entry 82). -/
def accOk (a : Access) : Bool :=
  match a.path, a.req with
  | .ddp, .ddp _ => true
  | .aperture, .pcie _ => true
  | .mailbox, .pcie _ => true
  | .bus, .internal _ => true
  | .debug, .internal _ => true
  | _, _ => false

/-! ## Reads through the aperture (R60 to R66) -/

/-- Does a read of `n` bytes at BAR0 offset `a` have a size and an alignment that R65 allows? -/
def apertureForm (a n : Nat) : Bool :=
  ([1, 2, 4, 8, 16].contains n && a % n == 0) ||
    (decide (1 ≤ n) && decide (n ≤ 64) && a % 16 == 0 && a / 4096 == (a + n - 1) / 4096)

/-- The bytes of some slots from key `k` on, `n` of them, for a function: none when one of them is none that it meets (R38, R77). -/
def readSlots (req : Nat) : Nat → Nat → Dev → Option (List Byte × Dev)
  | 0, _, d => some ([], d)
  | n + 1, k, d =>
    match metRow d .aperture req k 0 false with
    | none => none
    | some r =>
      let (v, d) := readEntry req k r d
      (readSlots req n (k + 1) d).map fun x => (slotBytes d req k r v ++ x.1, x.2)

/-- What an aperture read returns, from the mirrors and at one instant (R60 to R66): none where it goes to the default target. -/
def apertureRead (req a n : Nat) (d : Dev) : Option (List Byte × Dev) :=
  if a < 2 ^ 28 && apertureForm a n then
    (readSlots req ((a % 16 + n + 15) / 16) (a / 16) d).map fun x => (slice (a % 16) n x.1, x.2)
  else none

/-- A read of [1460:01] that is granted: an aperture read is answered with the slot (R672). -/
def stcRead (a : Access) (d : Dev) : Dev :=
  let req := reqId a.req
  match metRow d a.path req K.x1460_STC_NOW 0 false with
  | none => missBy a (K.x1460_STC_NOW * 16) false d
  | some _ =>
    if !mayRead d req K.x1460_STC_NOW then refuse req K.x1460_STC_NOW 8 d
    else if a.path = .aperture then toHost (.readData req (stcBytes d) false) d
    else d

end Sys2Proof.Machine
end

