-- ==== Sys2Proof/Machine/Mailbox.lean ====
section
/-! DEFINITION. Mailbox commands (02): GET, SET, GET_INFO and GET_STAGED. -/

namespace Sys2Proof.Machine

/-! ## Reads by mailbox and DDP (R79, R88, R91, R849) -/

/-- The user partition whose body entry `k` is, if any. -/
def partitionOf (k : Nat) : Option Nat :=
  if 0x1A10 ≤ k / 256 ∧ k / 256 < 0x1A14 ∧ k % 256 = 1 then some (k / 256 - 0x1A10) else none

/-- A staged body in which poison was met answers INTERNAL (R75, R552; log entry 32). -/
def stagedPoison (d : Dev) (staged : Bool) (req k : Nat) (r : Row) : Bool :=
  staged && r.ty == .domain && (stagedValue d req k).isSome && bodyPoisoned d k

/-- The first cause that refuses a read of the value of an entry, before its size is looked at. -/
def readRefusal (d : Dev) (staged : Bool) (req k : Nat) (r : Row) : Option Nat :=
  if !mayRead d req k || (partitionOf k).any (fun u => !mayReadBody d u req) then some 8
  else if r.acc = .wo then some 3
  else if stagedPoison d staged req k r then some 0x10
  else none

/-- A read is refused: recorded, and INTERNAL always has a fault record (R73, R820). -/
def refuseRead (req k code : Nat) (d : Dev) : Dev :=
  refuse req k code (onlyIf (code == 0x10) (internalFault k) d)

/-- The value that a read returns: the staged one when it is asked for and held, else the active one. -/
def readValue (staged : Bool) (req k : Nat) (r : Row) (d : Dev) : List Byte × Dev :=
  match if staged && r.acc == .rws then stagedValue d req k else none with
  | some v => (v, d)
  | none => readEntry req k r d

/-- The 16 bytes of GET_INFO (R79): the metadata word and the current length. -/
def infoBytes (d : Dev) (req k : Nat) (r : Row) : List Byte :=
  natLE 8 (metaWord d req k r) ++ natLE 8 (if r.ty == .domain then (viewBody d req k).length else r.size)

/-! ## The descriptor (R78, R612) -/

/-- Does a SET carry its data in the descriptor? -/
def inlined (m : MailboxCmd) : Bool := bitAt m.flags.toNat 0

/-- The 64 bytes of the descriptor. -/
def mailboxBytes (op : Nat) (m : MailboxCmd) : List Byte :=
  natLE 2 0x0701 ++ natLE 6 (if m.irq then 1 else 0) ++ natLE 8 m.tag.toNat ++ natLE 1 op ++ natLE 1 m.sub ++ natLE 2 m.index ++
    natLE 4 m.flags.toNat ++ natLE 4 m.length.toNat ++ natLE 4 m.offset.toNat ++
    if inlined m then padTo 32 m.data else natLE 8 m.buffer.toNat ++ List.replicate 24 0

/-- Are LENGTH and FLAGS within their range? -/
def mailboxFields (m : MailboxCmd) : Bool :=
  decide (m.flags.toNat ≤ 1) && decide (1 ≤ m.length.toNat) && decide (m.length.toNat ≤ 16777216)

/-- Does the command carry the bytes that its descriptor implies? -/
def mailboxOk (set : Bool) (m : MailboxCmd) : Bool :=
  m.data.length == (if inlined m then 32 else if set && mailboxFields m then m.length.toNat else 0)

def mailboxKey (m : MailboxCmd) : Nat := m.index * 256 + m.sub

/-- A command is refused: DICT_REFUSED with its code (R613); the cause is recorded, except a miss. -/
def mailboxRefuse (m : MailboxCmd) (code : Nat) (d : Dev) : Dev := finishDescr m.queue m.ring 9 0 code 0 false d

/-- The completion waits for what the command wrote to the NV store (R685, R687). -/
def waitPersist (m : MailboxCmd) (was : Nat) (d : Dev) : Dev :=
  if was = d.nv.nextId then d else modDescr m.queue m.ring (fun x => { x with need := some (d.nv.nextId - 1) }) d

/-! ## The commands -/

/-- A GET, GET_STAGED or GET_INFO of an entry that exists. LENGTH must be the size of an entry that is no DOMAIN, and 16 with OFFSET 0 for
GET_INFO; a DOMAIN gives what it has from OFFSET on, nothing at its end, and TYPE_LENGTH beyond it (log entry 83). -/
def mailboxReadRow (op : Nat) (m : MailboxCmd) (req : Nat) (r : Row) (i : StartInfo) (d : Dev) : Dev :=
  let k := mailboxKey m
  let n := m.length.toNat
  let off := m.offset.toNat
  let no (c : Nat) : Dev := mailboxRefuse m c (refuseRead req k c d)
  let send (b : List Byte) : Dev → Dev :=
    sendNow m.queue m.ring i.from_ [(m.buffer.toNat, b)] m.fin (fun x => finishDescr m.queue m.ring 0 x 0 0 false)
  if op = 3 then
    (if !mayRead d req k then no 8 else if n ≠ 16 ∨ off ≠ 0 then no 4 else send (infoBytes d req k r) d)
  else match readRefusal d (op == 4) req k r with
    | some c => no c
    | none =>
      let (v, d') := readValue (op == 4) req k r d
      if r.ty = .domain then (if v.length < off then no 4 else send (slice off n v) d')
      else if off ≠ 0 ∨ n ≠ r.size then no 4
      else send v d'

/-- A body with `b` written over it from `off` on (R80); bytes between its old end and `off` are not stated by the manual and stay
free (log entry 50). -/
def bodyWith (base : List Byte) (off : Nat) (b : List Byte) (d : Dev) : List Byte × Dev :=
  let gap := off - base.length
  let free := (List.range gap).map fun j => (Config.freeValue (d.free + j)).setWidth 8
  (overlay (base ++ free) off b, { d with free := d.free + gap })

/-- A SET of an entry that exists. Before a requester's first SET of a DOMAIN, its staged body starts from the active one (log entry
84). -/
def mailboxSetRow (m : MailboxCmd) (req : Nat) (r : Row) (d : Dev) : Dev :=
  let k := mailboxKey m
  let n := m.length.toNat
  let off := m.offset.toNat
  let big := r.ty == .domain && decide (67108864 < off + n)
  let data := m.data.take n
  let (b, d') := if r.ty == .domain && !big then bodyWith ((stagedValue d req k).getD (rdB d k)) off data d else (data, d)
  let start := if inlined m && decide (32 < n) then 1 else if r.ty == .domain then 0 else off
  match writeEntry { path := .mailbox, req := req, k := k, start := start, bytes := b, big := big } r (tokenVerified b) d' with
  | (0, d') => waitPersist m d.nv.nextId (finishDescr m.queue m.ring 0 n 0 0 false d')
  | (c, d') => mailboxRefuse m c d'

/-- The access of a mailbox command to the dictionary (R78 to R81): a GET returns what stands at its grant (R848). A SET that had finished
before a replay does not apply again (R630). -/
def mailboxAccess (op : Nat) (m : MailboxCmd) (i : StartInfo) (d : Dev) : Dev :=
  let req := (qFn d m.queue).getD 0
  match entryRow d (mailboxKey m) with
  | none => mailboxRefuse m 1 (if i.done.isSome then d else miss 0 (mailboxKey m * 16) (op == 2) d)
  | some row =>
    if op = 2 then mailboxSetRow m req row d else mailboxReadRow op m req row i d

end Sys2Proof.Machine
end

