-- ==== Sys2Proof/Machine/Ddp.lean ====
section
/-! DEFINITION. The DDP engine on the CAN FD port (02): expedited requests, segmented transfers, the bus. -/

namespace Sys2Proof.Machine

/-! ## Frames (R87 to R89) -/

def modDdp (f : DdpState → DdpState) (d : Dev) : Dev := { d with ctl := { d.ctl with ddp := f d.ctl.ddp } }

/-- Byte `i` of a frame. -/
def fByte (b : List Byte) (i : Nat) : Nat := leAt b i 1

/-- The next frame length that CAN FD allows, from 8 bytes up. -/
def canLength (n : Nat) : Nat :=
  if n ≤ 8 then 8 else if n ≤ 12 then 12 else if n ≤ 16 then 16 else if n ≤ 20 then 20 else if n ≤ 24 then 24
  else if n ≤ 32 then 32 else if n ≤ 48 then 48 else 64

/-- Can a CAN FD frame have this many bytes? -/
def canLengthOk (n : Nat) : Bool := decide (n ≤ 8) || (decide (n ≤ 64) && canLength n == n)

/-- A frame goes to the transmit queue (R87, R92). -/
def transmit (b : List Byte) (d : Dev) : Dev :=
  let n := rd d K.x1110_NODE_ID
  let f : CanFrame := { ident := Fin.ofNat 2048 (0x180 + n), bytes := padTo (canLength b.length) b }
  modDdp (fun x => { x with txWait := x.txWait ++ [f] }) d

/-- The response to a request: header copied, status, data (R88). -/
def respond (req : List Byte) (status : Nat) (data : List Byte) (d : Dev) : Dev :=
  transmit (natLE 1 (fByte req 0 + 0x80) ++ slice 1 5 req ++ natLE 1 status ++ natLE 1 data.length ++ data) d

/-- A SEG_DATA, SEG_ACK or SEG_ABORT of the device (R96, R97): command, requester node, tag, number, byte 6, data. -/
def segFrame (cmd node tag num b6 : Nat) (data : List Byte) : Dev → Dev :=
  transmit (natLE 1 cmd ++ natLE 1 node ++ natLE 1 tag ++ natLE 3 num ++ natLE 1 b6 ++ natLE 1 data.length ++ data)

/-- Does the device take the frame: a request to its node, long enough, on a port that is in use (R83, R87, R88)? -/
def ddpTakes (d : Dev) (f : CanFrame) : Bool :=
  d.ctl.ddp.enabled && rd d K.x1110_BUS_STATE != 2 && f.ident.val / 128 == 2 && f.ident.val % 128 == rd d K.x1110_NODE_ID &&
    decide (8 ≤ f.bytes.length)

/-- Does byte 7 agree with the data that the frame carries (R88)? -/
def ddpLengthOk (b : List Byte) : Bool := decide (fByte b 7 ≤ 56) && decide (fByte b 7 + 8 ≤ b.length)

def ddpData (b : List Byte) : List Byte := slice 8 (fByte b 7) b

def ddpReq (b : List Byte) : Nat := 0x1000 + fByte b 1

def ddpKey (b : List Byte) : Nat := leAt b 4 2 * 256 + fByte b 3

/-- A request is refused: recorded and answered (R73, R820). -/
def ddpRefuse (b : List Byte) (code : Nat) (d : Dev) : Dev :=
  respond b code [] (refuseRead (ddpReq b) (ddpKey b) code d)

/-- A request for an entry that does not exist (R38, R39). -/
def ddpMissing (write : Bool) (b : List Byte) (d : Dev) : Dev := respond b 1 [] (miss 1 (ddpKey b * 16) write d)

/-! ## Expedited requests (R90 to R94) -/

/-- READ (R91). A DOMAIN is judged by the length of its body (log entry 86). -/
def ddpReadRun (b : List Byte) (d : Dev) : Dev :=
  let k := ddpKey b
  let staged := bitAt (fByte b 6) 0
  match entryRow d k with
  | none => ddpMissing false b d
  | some r =>
    match readRefusal d staged (ddpReq b) k r with
    | some c => ddpRefuse b c d
    | none =>
      let (v, d') := readValue staged (ddpReq b) k r d
      if 56 < v.length then ddpRefuse b 0xE d else respond b 0 v d'

/-- WRITE (R91). -/
def ddpWriteRun (b : List Byte) (d : Dev) : Dev :=
  let k := ddpKey b
  match entryRow d k with
  | none => ddpMissing true b d
  | some r =>
    match writeEntry { path := .ddp, req := ddpReq b, k := k, start := 0, bytes := ddpData b } r (tokenVerified (ddpData b)) d with
    | (c, d) => respond b c [] d

/-- READ_INFO (R91). -/
def ddpInfoRun (b : List Byte) (d : Dev) : Dev :=
  let k := ddpKey b
  match entryRow d k with
  | none => ddpMissing false b d
  | some r => respond b 0 (infoBytes d (ddpReq b) k r) d

/-! ## Segmented transfers (R95 to R100) -/

def segOf (d : Dev) (node : Nat) : Option SegXfer := tabFind d.ctl.ddp.segs node

def setSeg (node : Nat) (x : SegXfer) : Dev → Dev := modDdp fun y => { y with segs := tabSet node x y.segs }

def closeSeg (node : Nat) : Dev → Dev := modDdp fun y => { y with segs := tabDel node y.segs }

/-- Segments of a body; an empty one has a LAST segment too. -/
def segCount (n : Nat) : Nat := max 1 ((n + 55) / 56)

/-- The segments of a read that may be sent now: at most 16 unacknowledged (R97). -/
def sendSegs (node : Nat) : Nat → Dev → Dev
  | 0, d => d
  | n + 1, d =>
    match segOf d node with
    | none => d
    | some x =>
      let total := segCount x.body.length
      if x.next < total ∧ x.next < x.acked + 16 then
        sendSegs node n (segFrame 0x92 node x.tag x.next (if x.next + 1 = total then 1 else 0) (slice (56 * x.next) 56 x.body)
          (setSeg node { x with next := x.next + 1 } d))
      else d

/-- Is there no room for one more transfer of a node (R99)? -/
def segBusy (d : Dev) (node : Nat) : Bool := (segOf d node).isSome || decide (8 ≤ d.ctl.ddp.segs.length)

/-- OFFSET and LENGTH of an init (R95). -/
def initOffset (b : List Byte) : Nat := leAt (ddpData b) 0 4

def initLength (b : List Byte) : Nat := leAt (ddpData b) 4 4

def initOk (b : List Byte) : Bool := fByte b 7 == 8 && decide (initLength b ≤ 16777216)

/-- The transfer that an init opens. -/
def newSeg (write : Bool) (b body : List Byte) (d : Dev) : SegXfer :=
  { write := write, tag := fByte b 2, key := ddpKey b, offset := initOffset b, length := if write then initLength b else body.length
    body := body, next := 0, acked := 0, lastDone := false, lastAt := d.now }

/-- SEG_READ_INIT (R95, R99): the body is the value at the request, from OFFSET on and of at most LENGTH bytes; an OFFSET beyond its end
is a false length (log entry 86). -/
def segReadStart (b : List Byte) (d : Dev) : Dev :=
  let k := ddpKey b
  let node := fByte b 1
  let staged := bitAt (fByte b 6) 0
  if segBusy d node then ddpRefuse b 0xA d
  else match entryRow d k with
    | none => ddpMissing false b d
    | some r =>
      match readRefusal d staged (ddpReq b) k r with
      | some c => ddpRefuse b c d
      | none =>
        let (v, d') := readValue staged (ddpReq b) k r d
        if !initOk b || decide (v.length < initOffset b) then ddpRefuse b 4 d
        else sendSegs node 16 (respond b 0 [] (setSeg node (newSeg false b (slice (initOffset b) (initLength b) v) d) d'))

/-- The first cause that refuses a SEG_WRITE_INIT (R849); an entry that is not RWS is refused with READ_ONLY or TYPE_LENGTH (log entry
51). -/
def segWriteRefusal (d : Dev) (b : List Byte) (k : Nat) (r : Row) : Option Nat :=
  let req := ddpReq b
  if notReady d .ddp req k 0 r then some 7
  else if notPermitted d .ddp req k 0 then some 8
  else if r.cls = .long then some 6
  else if r.acc = .ro ∨ r.acc = .const then some 2
  else if r.ty = .domain ∧ 67108864 < initOffset b + initLength b then some 0xE
  else if !initOk b || r.acc != .rws || (r.ty != .domain && (initOffset b != 0 || initLength b != r.size)) then some 4
  else none

/-- SEG_WRITE_INIT (R95, R99). -/
def segWriteStart (b : List Byte) (d : Dev) : Dev :=
  let k := ddpKey b
  let node := fByte b 1
  if segBusy d node then ddpRefuse b 0xA d
  else match entryRow d k with
    | none => ddpMissing true b d
    | some r =>
      match segWriteRefusal d b k r with
      | some c => ddpRefuse b c d
      | none => respond b 0 [] (setSeg node (newSeg true b [] d) d)

/-- The number of the highest segment received in order; before the first there is none, and the manual states no value. -/
def highest (x : SegXfer) (d : Dev) : Nat × Dev :=
  if x.next = 0 then let (v, d) := fresh d; (v % 2 ^ 24, d) else (x.next - 1, d)

/-- The device acknowledges with a status (R97, R98). -/
def segAnswer (node : Nat) (x : SegXfer) (status : Nat) (d : Dev) : Dev :=
  let (n, d) := highest x d
  segFrame 0x93 node x.tag n status [] d

/-- The body of a segmented write whose LAST segment has come goes into the requester's staged copy (R71, R100); only then is that
segment acknowledged. -/
def segStage (node : Nat) (d : Dev) : Dev :=
  match (segOf d node).filter (·.lastDone) with
  | none => d
  | some x =>
    let req := 0x1000 + node
    let dom := (rowOf x.key).any fun r => r.ty == .domain
    let (v, d) := if dom then bodyWith ((stagedValue d req x.key).getD (rdB d x.key)) x.offset x.body d else (x.body, d)
    let (c, d) := stageWrite req x.key v d
    closeSeg node (segAnswer node x c (onlyIf (c != 0) (refuse req x.key c) d))

/-- SEG_DATA of a requester (R96 to R98): the next segment, or SEQUENCE; a segment of a wrong length ends the transfer. One that no open
transfer of its node and tag awaits is ignored, as the other frames of a transfer are (log entry 86). -/
def segDataIn (b : List Byte) (d : Dev) : Dev :=
  let node := fByte b 1
  match segOf d node with
  | none => d
  | some x =>
    if !x.write ∨ x.tag ≠ fByte b 2 then d
    else
      let x := { x with lastAt := d.now }
      let d := setSeg node x d
      let last := bitAt (fByte b 6) 0
      let data := ddpData b
      if leAt b 3 3 ≠ x.next then segAnswer node x 0xC d
      else
        let y := { x with body := x.body ++ data, next := x.next + 1, lastDone := last }
        if decide (x.length < y.body.length) || (!last && data.length != 56) || (last && y.body.length != x.length) then
          closeSeg node (segAnswer node x 4 (refuse (0x1000 + node) x.key 4 d))
        else
          let d := setSeg node y d
          if !last ∧ y.next % 16 = 0 then segAnswer node y 0 d else d

/-- SEG_ACK of a requester (R97, R98): more segments, or again from the one that follows. -/
def segAckIn (b : List Byte) (d : Dev) : Dev :=
  let node := fByte b 1
  match segOf d node with
  | none => d
  | some x =>
    let n := (leAt b 3 3 + 1) % 2 ^ 24
    if x.write ∨ x.tag ≠ fByte b 2 ∨ x.next < n then d
    else if n = segCount x.body.length then closeSeg node d
    else
      let y := { x with lastAt := d.now, acked := max x.acked n, next := if fByte b 6 = 0xC then n else x.next }
      sendSegs node 16 (setSeg node y d)

/-- SEG_ABORT of a requester: its transfer, of which it has one at most (R99), is closed whatever tag the frame carries (R100). -/
def segAbortIn (b : List Byte) (d : Dev) : Dev :=
  let node := fByte b 1
  if (segOf d node).isSome then respond b 0xD [] (closeSeg node d) else d

/-- A transfer is closed with TIMEOUT, which a frame of command 0x94 reports (R86, R100; log entry 86). -/
def segClose (node : Nat) (d : Dev) : Dev :=
  match segOf d node with
  | none => d
  | some x => segFrame 0x94 node x.tag 0 0xB [] (closeSeg node d)

/-- A transfer idle for 500 ms is closed (R100). -/
def segTimeout (node : Nat) (d : Dev) : Dev :=
  if (segOf d node).any fun x => decide (x.lastAt + ms 500 ≤ d.now) then segClose node d else d

/-- A frame of a transfer has left: its 500 ms begin anew (R100). -/
def segSent (b : List Byte) (d : Dev) : Dev :=
  match (segOf d (fByte b 1)).filter fun x => [0x90, 0x91, 0x92, 0x93].contains (fByte b 0) && x.tag == fByte b 2 with
  | none => d
  | some x => setSeg (fByte b 1) { x with lastAt := d.now } d

/-! ## What a request does once its target is granted -/

/-- A request that reads or writes the dictionary, by its command (R90). -/
def ddpAccess (b : List Byte) (d : Dev) : Dev :=
  match fByte b 0 with
  | 0x01 => ddpReadRun b d
  | 0x02 => ddpWriteRun b d
  | 0x03 => ddpInfoRun b d
  | 0x10 => segReadStart b d
  | 0x11 => segWriteStart b d
  | _ => d

end Sys2Proof.Machine
end

