-- ==== Sys2Proof/Machine/Bus.lean ====
section
/-! DEFINITION. The control bus matrix (01): shared ports, arbitration, accesses that wait; and with it how a command's meaning acts on the
block at its instant. -/

namespace Sys2Proof.Machine

/-! ## What an access does once its port is granted -/

def busDo : BusReq → Dev → Dev
  | .write a k start b sig, d => (writeBy a k start b sig d).2
  | .readStc a, d => stcRead a d
  | .mailbox op m i, d => mailboxAccess op m i d
  | .ddp b, d => ddpAccess b d
  | .stage node, d => segStage node d

/-- A master is granted a target: the target's port is taken for this CK_CTL cycle, the master no longer goes first there (R35). -/
def portTaken (m tgt : Nat) (d : Dev) : Dev :=
  { d with ctl := { d.ctl with
    ports := tabSet tgt (ctlCycle d) d.ctl.ports
    preferred := d.ctl.preferred.filter (· != (tgt, m))
    procLast := if 2 ≤ m ∧ m ≤ 5 then m else d.ctl.procLast } }

def grant (m tgt : Nat) (r : BusReq) (d : Dev) : Dev := busDo r (portTaken m tgt d)

/-! ## Arbitration (R34, R35) -/

/-- Place of a master in the fixed priority of R34: the replay engine, the control processors in round-robin, PCIe, DDP, debug. -/
def masterRank (d : Dev) (m : Nat) : Nat :=
  if m = 6 then 0
  else if 2 ≤ m ∧ m ≤ 5 then 1 + (m + 3 - d.ctl.procLast) % 4
  else if m = 0 then 5
  else if m = 1 then 6
  else 7

/-- Place of a waiting access at its target: masters that waited 64 cycles come first (R35). -/
def heldRank (d : Dev) (h : Held) : Nat :=
  (d.ctl.preferred.findIdx? (· == (h.target, h.master))).getD (d.ctl.preferred.length + masterRank d h.master)

/-- The oldest waiting access of each master: a master makes its accesses in order. -/
def oldestOfEach : List Held → List Nat → List Held
  | [], _ => []
  | h :: r, seen => if seen.contains h.master then oldestOfEach r seen else h :: oldestOfEach r (h.master :: seen)

/-- The accesses that the matrix grants in one cycle: at each target the first by rank. -/
def winners (d : Dev) : List Held :=
  let l := oldestOfEach d.ctl.held []
  l.filter fun h => l.all fun g => g.target != h.target || decide (heldRank d h ≤ heldRank d g)

/-- One cycle of the matrix; a block that no longer takes part drops what waits. -/
def grantCycle (d : Dev) : Dev :=
  if alive d then
    forAll (winners d) (fun h d =>
      if d.ctl.held.contains h then grant h.master h.target h.req { d with ctl := { d.ctl with held := d.ctl.held.erase h } } else d) d
  else { d with ctl := { d.ctl with held := [] } }

/-- The matrix runs through at most `n` cycles that begin before or at `t`, while accesses wait. -/
def busRun : Nat → Ps → Dev → Dev
  | 0, _, d => d
  | n + 1, t, d =>
    let next := (ctlCycle d + 1) * 2500
    if d.ctl.held = [] ∨ t < next then d else busRun n t (grantCycle (advance next d))

/-- The block at instant `t`: what waited for the bus matrix has been granted as cycles passed, and time has moved on. -/
def arrive (t : Ps) (d : Dev) : Dev := advance t (busRun d.ctl.held.length t d)

/-- An access reaches the matrix: granted at once when its target's port is free in this cycle and no earlier access of its master waits,
else it waits (R34, R37). A master that does not reach the target gets nothing. -/
def submit (m tgt : Nat) (r : BusReq) (d : Dev) : Dev :=
  if !reaches d m tgt then d
  else if tabFind d.ctl.ports tgt = some (ctlCycle d) ∨ d.ctl.held.any (·.master == m) then
    { d with ctl := { d.ctl with held := d.ctl.held ++ [{ target := tgt, master := m, since := ctlCycle d, req := r }] } }
  else grant m tgt r d

/-- A master has waited 64 CK_CTL cycles for a target: it is granted there before any other on the next free cycle (R35). -/
def masterWaited (m tgt : Nat) (d : Dev) : Dev :=
  if (d.ctl.held.any fun h => h.master == m && h.target == tgt && decide (h.since + 64 ≤ ctlCycle d)) &&
      !d.ctl.preferred.contains (tgt, m) then
    { d with ctl := { d.ctl with preferred := d.ctl.preferred ++ [(tgt, m)] } }
  else d

/-! ## How a command acts -/

/-- The meaning of a command on everything but memory and the queue: the block comes to the instant `t`, then `f` acts when it is
alive. -/
def act (t : Ps) (f : Dev → Dev) (s : State) : Host.Outcome State Fault Refusal :=
  .next { s with dev := let d := arrive t s.dev; if alive d then f d else d }

/-- As `act`, for a command that also changes frame memory. -/
def actMem (t : Ps) (f : Mem → Dev → Mem × Dev) (s : State) : Host.Outcome State Fault Refusal :=
  let d := arrive t s.dev
  let r := if alive d then f s.mem d else (s.mem, d)
  .next { s with mem := r.1, dev := r.2 }

/-- As `act`, for what goes on while a flush runs or the block stands in reset. -/
def actAlways (t : Ps) (f : Dev → Dev) (s : State) : Host.Outcome State Fault Refusal :=
  .next { s with dev := f (arrive t s.dev) }

/-- A write of bytes to entry `k`: an entry that the access does not meet is a miss, any other waits for its target's port. -/
def putBus (a : Access) (k start : Nat) (b : List Byte) (sigOk : Bool) (d : Dev) : Dev :=
  submit (masterOf a) (targetOf (k / 256)) (.write a k start b sigOk) d

end Sys2Proof.Machine
end

