-- ==== Sys2Proof/Machine/CmdAccess.lean ====
section
/-! DEFINITION. Meanings of the commands that read or write one entry, and of misses (02). -/

namespace Sys2Proof.Machine

/-- A write of bytes to entry `k`. -/
def actWrite (t : Ps) (a : Access) (k : Nat) (start : Nat) (b : List Byte) (sigOk : Bool) (s : State) :
    Host.Outcome State Fault Refusal :=
  wellFormed (accOk a) "ACCESS" (act t (putBus a k start b sigOk) s)

/-- DICTIONARY_WRITE (R68 to R73). -/
def execDictionaryWrite (t : Ps) (acc : Access) (index : Fin 65536) (sub : Fin 256) (start : Fin 16) (data : List Byte) :
    State → Host.Outcome State Fault Refusal :=
  actWrite t acc (index * 256 + sub) start data (tokenVerified data)

/-- COMPAT_REQUEST_WRITE (R2): a write to [1000:06]. -/
def execCompatRequestWrite (t : Ps) (acc : Access) (data : List Byte) : State → Host.Outcome State Fault Refusal :=
  actWrite t acc K.x1000_COMPAT_REQUEST 0 data false

/-- DEFAULT_TARGET_ACCESS (R38 to R42, R66): an access at an address, a read of some bytes or a write. An aperture read that meets its slots is
answered from them (R62); every other access of this command is one that the default target takes. -/
def execDefaultTargetAccess (t : Ps) (proc : Fin 4) (path : Path) (req : Requester) (address : Nat) (read : Option Nat) (s : State) :
    Host.Outcome State Fault Refusal :=
  let acc : Access := { path := path, req := req, proc := proc }
  wellFormed (accOk acc) "ACCESS" (act t (fun d =>
    if !reaches d (masterOf acc) 0 then d
    else match if path = .aperture then read.bind fun n => apertureRead (reqId req) address n d else none with
      | some (b, d) => toHost (.readData (reqId req) b false) d
      | none => missBy acc address read.isNone d) s)

/-- MISS_CLEAR (R41): a write to [1C20:06]. -/
def execMissClear (t : Ps) (acc : Access) (data : List Byte) : State → Host.Outcome State Fault Refusal :=
  actWrite t acc K.x1C20_CLEAR 0 data false

/-- REFUSE_CLEAR (R73): a write to [1C21:06]. -/
def execRefuseClear (t : Ps) (acc : Access) (data : List Byte) : State → Host.Outcome State Fault Refusal :=
  actWrite t acc K.x1C21_CLEAR 0 data false

/-- STC_NOW_READ (R672): a read of [1460:01]. Through the aperture it takes the dedicated port (R33) and its answer goes to the host; on
other paths the value is that at the grant. -/
def execStcNowRead (t : Ps) (acc : Access) (s : State) : Host.Outcome State Fault Refusal :=
  wellFormed (accOk acc) "STC_NOW_READ"
    (act t (fun d => if acc.path = .aperture then stcRead acc d else submit (masterOf acc) (targetOf 0x1460) (.readStc acc) d) s)

/-- COMMIT_REQUEST (R109): a write to [5000:01]. -/
def execCommitRequest (t : Ps) (acc : Access) (data : List Byte) : State → Host.Outcome State Fault Refusal :=
  actWrite t acc K.x5000_COMMIT_REQUEST 0 data false

/-- DISCARD_BASTING (R108): a write to [5000:02]. -/
def execDiscardBasting (t : Ps) (acc : Access) (data : List Byte) : State → Host.Outcome State Fault Refusal :=
  actWrite t acc K.x5000_DISCARD_BASTING 0 data false

/-- OP_START (R132): 0x01 written to [slot:02]. -/
def execOpStart (t : Ps) (acc : Access) (slot : Fin 64) : State → Host.Outcome State Fault Refusal :=
  actWrite t acc (K.slot_CONTROL slot) 0 [1] false

/-- OP_ABORT (R135): 0x02 written to [slot:02]. -/
def execOpAbort (t : Ps) (acc : Access) (slot : Fin 64) : State → Host.Outcome State Fault Refusal :=
  actWrite t acc (K.slot_CONTROL slot) 0 [2] false

/-- OP_RELEASE (R131): 0x03 written to [slot:02]. -/
def execOpRelease (t : Ps) (acc : Access) (slot : Fin 64) : State → Host.Outcome State Fault Refusal :=
  actWrite t acc (K.slot_CONTROL slot) 0 [3] false

/-- RX_RESTART (R198): a write to [rx:03]. -/
def execRxRestart (t : Ps) (acc : Access) (port : Fin 128) (data : List Byte) : State → Host.Outcome State Fault Refusal :=
  actWrite t acc (K.rx_RX_RESTART port) 0 data false

/-- RX_TEST_WRITE (R224, R225): a write to [rx:08]. -/
def execRxTestWrite (t : Ps) (acc : Access) (port : Fin 128) (data : List Byte) : State → Host.Outcome State Fault Refusal :=
  actWrite t acc (K.rx_RX_TEST port) 0 data false

/-- PRBS_CHECK_WRITE (R229): a write to [rx:09]. -/
def execPrbsCheckWrite (t : Ps) (acc : Access) (port : Fin 128) (data : List Byte) : State → Host.Outcome State Fault Refusal :=
  actWrite t acc (K.rx_PRBS_CHECK port) 0 data false

/-- RX_COUNT_CLEAR (R204): a write to [rx:13]. -/
def execRxCountClear (t : Ps) (acc : Access) (port : Fin 128) (data : List Byte) : State → Host.Outcome State Fault Refusal :=
  actWrite t acc (K.rx_COUNT_CLEAR port) 0 data false

/-- TX_TEST_WRITE (R226): a write to [tx:03]. -/
def execTxTestWrite (t : Ps) (acc : Access) (port : Fin 128) (data : List Byte) : State → Host.Outcome State Fault Refusal :=
  actWrite t acc (K.tx_TX_TEST port) 0 data false

/-- INJECT_ERROR (R206): a write to [tx:04]. -/
def execInjectError (t : Ps) (acc : Access) (port : Fin 128) (data : List Byte) : State → Host.Outcome State Fault Refusal :=
  actWrite t acc (K.tx_INJECT_ERROR port) 0 data false

/-- REGION_RELEASE (R442): a write to [sr:32]. -/
def execRegionRelease (t : Ps) (acc : Access) (comp : Fin 72) (data : List Byte) : State → Host.Outcome State Fault Refusal :=
  actWrite t acc (K.sr_RELEASE comp) 0 data false

/-- EA_COUNT_CLEAR (R500): a write to [ea:0A]. -/
def execEaCountClear (t : Ps) (acc : Access) (port : Fin 128) (data : List Byte) : State → Host.Outcome State Fault Refusal :=
  actWrite t acc (K.ea_COUNT_CLEAR port) 0 data false

/-- AR_COUNT_CLEAR (R517): a write to [ar:11]. -/
def execArCountClear (t : Ps) (acc : Access) (unit : Fin 16) (data : List Byte) : State → Host.Outcome State Fault Refusal :=
  actWrite t acc (K.ar_COUNT_CLEAR unit) 0 data false

/-- MEM_COUNT_CLEAR (R583): a write to [3800:11]. -/
def execMemCountClear (t : Ps) (acc : Access) (data : List Byte) : State → Host.Outcome State Fault Refusal :=
  actWrite t acc K.x3800_COUNT_CLEAR 0 data false

/-- FAULT_RECORD_CLEAR (R584): a write to [3806:08]. -/
def execFaultRecordClear (t : Ps) (acc : Access) (data : List Byte) : State → Host.Outcome State Fault Refusal :=
  actWrite t acc K.x3806_CLEAR 0 data false

/-- PAGE_TABLE_QUERY (R585): a write to [3808:01]. -/
def execPageTableQuery (t : Ps) (acc : Access) (data : List Byte) : State → Host.Outcome State Fault Refusal :=
  actWrite t acc K.x3808_QUERY 0 data false

/-- TIME_ANCHOR_WRITE (R673): a write to [1468:01]. -/
def execTimeAnchorWrite (t : Ps) (acc : Access) (data : List Byte) : State → Host.Outcome State Fault Refusal :=
  actWrite t acc K.x1468_ANCHOR 0 data false

/-- SET_PASSWORD (R740): a write to [1A1u:03]. -/
def execSetPassword (t : Ps) (acc : Access) (u : Fin 4) (data : List Byte) : State → Host.Outcome State Fault Refusal :=
  actWrite t acc (K.up_SET_PASSWORD u) 0 data false

/-- UNLOCK (R741): a write to [1A1u:04]. -/
def execUnlock (t : Ps) (acc : Access) (u : Fin 4) (data : List Byte) : State → Host.Outcome State Fault Refusal :=
  actWrite t acc (K.up_UNLOCK u) 0 data false

/-- LOCK (R742): a write to [1A1u:05]. -/
def execLock (t : Ps) (acc : Access) (u : Fin 4) (data : List Byte) : State → Host.Outcome State Fault Refusal :=
  actWrite t acc (K.up_LOCK u) 0 data false

/-- ERASE_AND_CLEAR (R743): a write to [1A1u:09]. -/
def execEraseAndClear (t : Ps) (acc : Access) (u : Fin 4) (data : List Byte) : State → Host.Outcome State Fault Refusal :=
  actWrite t acc (K.up_ERASE_AND_CLEAR u) 0 data false

/-- A write of an owner token whose ACTION byte is the command's (R790), with what the security engine found. -/
def actToken (t : Ps) (a : Access) (action : Nat) (b : List Byte) (sig : SigCheck) (s : State) : Host.Outcome State Fault Refusal :=
  wellFormed (leAt b 5 1 == action) "OWNER_TOKEN" (actWrite t a K.x1800_OWNER_TOKEN 0 b (sig.vendorKeyKnown && sig.vendorSigs) s)

/-- OWNER_ENROL (R790). -/
def execOwnerEnrol (t : Ps) (acc : Access) (data : List Byte) (sig : SigCheck) : State → Host.Outcome State Fault Refusal :=
  actToken t acc 1 data sig

/-- OWNER_ENROL_ENFORCE (R791). -/
def execOwnerEnrolEnforce (t : Ps) (acc : Access) (data : List Byte) (sig : SigCheck) : State → Host.Outcome State Fault Refusal :=
  actToken t acc 2 data sig

/-- OWNER_REVOKE (R790). -/
def execOwnerRevoke (t : Ps) (acc : Access) (data : List Byte) (sig : SigCheck) : State → Host.Outcome State Fault Refusal :=
  actToken t acc 3 data sig

/-- ENTER_RMA (R792). -/
def execEnterRma (t : Ps) (acc : Access) (data : List Byte) (sig : SigCheck) : State → Host.Outcome State Fault Refusal :=
  actToken t acc 4 data sig

/-- SVN_COMMIT (R793): a write to [1800:06]. -/
def execSvnCommit (t : Ps) (acc : Access) (data : List Byte) : State → Host.Outcome State Fault Refusal :=
  actWrite t acc K.x1800_SVN_COMMIT 0 data false

/-- EPOCH_ADVANCE (R789): a write to [1802:06]. -/
def execEpochAdvance (t : Ps) (acc : Access) (data : List Byte) : State → Host.Outcome State Fault Refusal :=
  actWrite t acc K.x1802_EPOCH_ADVANCE 0 data false

/-- QUEUE_ENABLE (R606): 0x01 written to [3C01:0C]. -/
def execQueueEnable (t : Ps) (acc : Access) : State → Host.Outcome State Fault Refusal := actWrite t acc K.x3C01_Q_ENABLE 0 [1] false

/-- QUEUE_DISABLE (R627): 0x00 written to [3C01:0C]. -/
def execQueueDisable (t : Ps) (acc : Access) : State → Host.Outcome State Fault Refusal := actWrite t acc K.x3C01_Q_ENABLE 0 [0] false

/-- RESUME_SKIP (R626): 0x01 written to [3C01:13]. -/
def execResumeSkip (t : Ps) (acc : Access) : State → Host.Outcome State Fault Refusal := actWrite t acc K.x3C01_RESUME 0 [1] false

/-- RESUME_RETRY (R626): 0x02 written to [3C01:13]. -/
def execResumeRetry (t : Ps) (acc : Access) : State → Host.Outcome State Fault Refusal := actWrite t acc K.x3C01_RESUME 0 [2] false

/-- LOG_CLEAR (R821): a write to [1C10:04]. -/
def execLogClear (t : Ps) (acc : Access) (data : List Byte) : State → Host.Outcome State Fault Refusal :=
  actWrite t acc K.x1C10_LOG_CLEAR 0 data false

end Sys2Proof.Machine
end

