-- ==== Sys2Proof/Machine/CmdAudio.lean ====
section
/-! DEFINITION. Meanings of the commands of audio. -/

namespace Sys2Proof.Machine

/-- As `act`, for the audio unit: nothing happens when the start went on without it. -/
def actAudio (t : Ps) (f : Dev → Dev) : State → Host.Outcome State Fault Refusal := act t fun d => onlyIf (audioOn d) f d

/-- EMBEDDED_AUDIO_PACKET (R496, R498). -/
def execEmbeddedAudioPacket (t : Ps) (port : Fin 128) (packet : AudioPacket) (s : State) : Host.Outcome State Fault Refusal :=
  wellFormed (packet.samples.length == 4 && packet.invalid.length == 4) "EMBEDDED_AUDIO_PACKET"
    (actAudio t (embedPacket port packet) s)

/-- EMBEDDED_GROUP_TIMEOUT (R497): no packet for 2 ms, or the signal that carries the group is gone. -/
def execEmbeddedGroupTimeout (t : Ps) (port : Fin 128) (group : Fin 8) : State → Host.Outcome State Fault Refusal :=
  actAudio t fun d =>
    let x := aunit d (groupUnit port group)
    if x.present ∧ (x.lastAt + ms 2 ≤ d.now ∨ !audioSignal d port) then groupLost port group d else d

/-- SOURCE_SYNC_LOST (R493, R494). -/
def execSourceSyncLost (t : Ps) (code : Fin 65536) : State → Host.Outcome State Fault Refusal :=
  actAudio t fun d => forAll (clockUnits code) unitAsync d

/-- SRC_BYPASS_QUALIFIED (R493). -/
def execSrcBypassQualified (t : Ps) (code : Fin 65536) : State → Host.Outcome State Fault Refusal :=
  actAudio t fun d => forAll (clockUnits code) unitBypass d

/-- MUTED_SOURCE_RETURN (R494). -/
def execMutedSourceReturn (t : Ps) (code : Fin 65536) : State → Host.Outcome State Fault Refusal :=
  actAudio t fun d => forAll (clockUnits code) unitReturns d

/-- EMBEDDER_SLIP (R506). -/
def execEmbedderSlip (t : Ps) (port : Fin 128) (omits : Bool) : State → Host.Outcome State Fault Refusal :=
  actAudio t (embedSlip port omits)

/-- AES3_ACQUIRED (R512, R516). -/
def execAes3Acquired (t : Ps) (unit : Fin 16) (rateHz : Nat) : State → Host.Outcome State Fault Refusal :=
  actAudio t (aesAcquired unit rateHz)

/-- AES3_TX_BLOCK_BOUNDARY (R520 to R524). -/
def execAes3TxBlockBoundary (t : Ps) (unit : Fin 16) : State → Host.Outcome State Fault Refusal := actAudio t (aesTxBoundary unit)

/-- CAPTURE_BLOCK_FORM (R529). -/
def execCaptureBlockForm (t : Ps) (stream : Fin 64) : State → Host.Outcome State Fault Refusal := actAudio t (capForm stream)

/-- PLAYBACK_GAP (R532). -/
def execPlaybackGap (t : Ps) (stream : Fin 32) : State → Host.Outcome State Fault Refusal := actAudio t (playGap stream)

/-- AUDIO_CLOCK_SLEW_END (R482). -/
def execAudioClockSlewEnd (t : Ps) : State → Host.Outcome State Fault Refusal := actAudio t audioSlewEnd

end Sys2Proof.Machine
end

