-- ==== Sys2Proof/Machine/CmdBoot.lean ====
section
/-! DEFINITION. Meanings of the commands of start-up. -/

namespace Sys2Proof.Machine

/-- BOOT_START (R770): CAUSE as R778 lists it, and NODE_ID as the pins hold it. -/
def execBootStart (t : Ps) (cause : Fin 7) (nodeId : Fin 128) (s : State) : Host.Outcome State Fault Refusal :=
  wellFormed (decide (1 ≤ cause.val)) "BOOT_START" (actAlways t (bootStart cause nodeId) s)

/-- BOOT_STEP_END (R771). -/
def execBootStepEnd (t : Ps) (result : StepResult) (found : BootFindings) : State → Host.Outcome State Fault Refusal :=
  act t (stepEnd result found)

/-- BOOT_STEP_TIMEOUT (R771). -/
def execBootStepTimeout (t : Ps) : State → Host.Outcome State Fault Refusal := act t stepTimeout

/-- BOOT_HOLD_RETRY (R771). -/
def execBootHoldRetry (t : Ps) (good : Bool) : State → Host.Outcome State Fault Refusal :=
  act t (holdRetry good ⟨[], 0, 0, [], [], 0, 0, 0, [], []⟩)

/-- RECOVERY_EXIT (R781): 100 ms after operation 0x0010 reached DONE. -/
def execRecoveryExit (t : Ps) : State → Host.Outcome State Fault Refusal :=
  act t fun d =>
    if rd d K.x1C40_BOOT_STEP = 0xFE ∧ d.boot.opDone.any (fun x => decide (x + ms 100 ≤ d.now)) then internalRestart d else d

/-- FUSE_REREAD (R782): every 1 s in a RECOVERY entered at S03. -/
def execFuseReread (t : Ps) (ok : Bool) : State → Host.Outcome State Fault Refusal :=
  act t fun d =>
    if rd d K.x1C40_BOOT_STEP = 0xFE ∧ d.boot.fuseFail ∧ d.boot.stepAt + sec 1 ≤ d.now then
      (if ok then internalRestart d else modBoot (fun b => { b with stepAt := d.now }) d)
    else d

/-- LINK_UP (R591, R592): not when S04 was left out (R771); S04 ends with it when it still runs (R769, R778). -/
def execLinkUp (t : Ps) (width speed : Nat) (s : State) : Host.Outcome State Fault Refusal :=
  wellFormed ([1, 2, 4, 8, 16].contains width && decide (1 ≤ speed) && decide (speed ≤ 7)) "LINK_UP"
    (act t (fun d =>
      let n := rd d K.x1C40_BOOT_STEP
      if reduced d 4 || !d.boot.started || (decide (n ≤ 4) && n != 0xFE) then d
      else
        let d := if n < 0x19 ∧ (thisEntry d).outcome.getD 3 none = none then record 4 1 d else d
        linkUp width speed (pllsLocked [3] d)) s)

end Sys2Proof.Machine
end

