-- ==== Sys2Proof/Machine/CmdClocks.lean ====
section
/-! DEFINITION. Meanings of the commands of clocks and the time base. -/

namespace Sys2Proof.Machine

/-- XTAL_LOSS (R646, R647). -/
def execXtalLoss (t : Ps) : State → Host.Outcome State Fault Refusal := act t xtalLost

/-- XTAL_RETURN (R648): the pull-in starts; PLL_LOCK_CONFIRMED of the root ends it. -/
def execXtalReturn (t : Ps) : State → Host.Outcome State Fault Refusal :=
  act t fun d => if rd d K.x1400_XTAL_STATE = 1 then
    wr K.x1400_XTAL_STATE 0 (modClk (fun c => { c with xtalBackAt := some d.now }) d) else d

/-- ROOT_LOSS_OF_LOCK (R640, R647). -/
def execRootLossOfLock (t : Ps) : State → Host.Outcome State Fault Refusal :=
  act t fun d =>
    if rd d K.x1400_XTAL_STATE = 0 then rootHold (onlyIf (rd d K.x1400_ROOT_STATE == 2) (incSat 32 (K.x1402_PLL_RELOCKS 0)) d) else d

/-- REF_FRAME_PULSE (R651 to R653). -/
def execRefFramePulse (t : Ps) : State → Host.Outcome State Fault Refusal := act t refPulse

/-- REF_QUALIFIED (R652, R655, R660): of the genlock reference, or of the input that a generator follows, with its measured
offset. -/
def execRefQualified (t : Ps) (tgInput : Option (Fin 8)) (ppb : Int) : State → Host.Outcome State Fault Refusal :=
  act t (match tgInput with
    | none => refQualify ppb
    | some g => inputQualify g ppb)

/-- REF_CLK_LOSS (R653): absent, or a loss of lock with REF_CLK present. -/
def execRefClkLoss (t : Ps) (clockPresent : Bool) : State → Host.Outcome State Fault Refusal :=
  act t fun d =>
    if rd d K.x1410_REF_STATE = 0 then d else if clockPresent then refPllLost d else refAbsent d

/-- REF_CLK_CHANGE (R654): a new reference, or absent under a fixed selection. -/
def execRefClkChange (t : Ps) (found : Fin 7) : State → Host.Outcome State Fault Refusal :=
  act t fun d =>
    if rd d K.x1410_REF_STATE = 0 then d
    else if refAccepts d found then
      change (K.x1401_PLL_STATE 4) 3 (refLost 1 (modClk (fun k => { k with clkFound := found.val, lastPulse := none }) d))
    else refAbsent d

/-- REF_CLK_PRESENT (R650). -/
def execRefClkPresent (t : Ps) (found : Fin 7) : State → Host.Outcome State Fault Refusal :=
  act t fun d => if rd d K.x1410_REF_STATE = 0 then refAppears found d else d

/-- TG_SLEW_COMPLETE (R656, R661): the phase error is within 1 ns and the frequency is the source's. -/
def execTgSlewComplete (t : Ps) (g : Fin 8) : State → Host.Outcome State Fault Refusal :=
  act t (tgSlewed g)

/-- STC_SLEW_END (R671). -/
def execStcSlewEnd (t : Ps) : State → Host.Outcome State Fault Refusal :=
  act t fun d =>
    if rd d K.x1460_STC_STATE = 2 ∧ slewRateAt d d.now = d.clk.slewTo then
      wr K.x1460_STC_STATE 1 (wr K.x1460_STC_RATE_PPB (tc 32 d.clk.slewTo) d)
    else d

/-- ANCHOR_STALE (R674). -/
def execAnchorStale (t : Ps) : State → Host.Outcome State Fault Refusal :=
  act t fun d =>
    if rd d K.x1468_ANCHOR_STATE = 1 ∧
        leAt (rdB d K.x1468_ANCHOR) 0 8 + rd d K.x1468_ANCHOR_MAX_AGE_S * 1000000000 < stcNs d then
      wr K.x1468_ANCHOR_STATE 2 d
    else d

/-- PTM_DIALOGUE (R675): the pair of the STC and the PTM master time, every PTM_INTERVAL_MS. -/
def execPtmDialogue (t : Ps) (master : Nat) : State → Host.Outcome State Fault Refusal :=
  act t fun d =>
    if rd d K.x3C00_LINK_STATE = 1 ∧ d.clk.ptmAt ≤ d.now then
      wrB K.x1468_PTM_PAIR (natLE 8 (stcNs d) ++ natLE 8 master)
        (modClk (fun c => { c with ptmAt := d.now + ms (rd d K.x1468_PTM_INTERVAL_MS) }) d)
    else d

end Sys2Proof.Machine
end

