-- ==== Sys2Proof/Machine/CmdCommit.lean ====
section
/-! DEFINITION. Meanings of the commands of commits. -/

namespace Sys2Proof.Machine

/-- COMMIT_VALIDATE_START (R110, R111). -/
def execCommitValidateStart (t : Ps) (slot : Fin 64) : State → Host.Outcome State Fault Refusal := act t (validateStart slot)

/-- COMMIT_VALIDATION_END (R112). -/
def execCommitValidationEnd (t : Ps) (slot : Fin 64) : State → Host.Outcome State Fault Refusal := act t (validationEnd slot)

/-- PERSIST_WRITE_ADMIT (R685): what waited for the write goes on. -/
def execPersistWriteAdmit (t : Ps) : State → Host.Outcome State Fault Refusal := act t fun d => nvCovered (pbState (admitOne d))

/-- AES3_FRAME_RECEIVED (R513): a commit applies at the start of a block. -/
def execAes3FrameReceived (t : Ps) (unit : Fin 16) (frame : AesFrame) (s : State) : Host.Outcome State Fault Refusal :=
  wellFormed (frame.parityOk.length == 2 && frame.samples.length == 2 && frame.v.length == 2 && frame.u.length == 2 &&
      frame.c.length == 2) "AES3_FRAME_RECEIVED"
    (actAudio t (fun d => aesFrame unit frame (onlyIf frame.blockStart (applyBoundary (0x1000 + unit)) d)) s)

/-- AES3_LOSS (R514): what waited for a block applies at once. -/
def execAes3Loss (t : Ps) (unit : Fin 16) (kind : AesLossKind) : State → Host.Outcome State Fault Refusal :=
  actAudio t fun d => applyQuiet (aesLost unit kind d)

end Sys2Proof.Machine
end

