-- ==== Sys2Proof/Machine/CmdDdp.lean ====
section
/-! DEFINITION. Meanings of the commands of the DDP engine. -/

namespace Sys2Proof.Machine

/-- The commands of R90. -/
def ddpCommands : List Nat := [0x01, 0x02, 0x03, 0x10, 0x11, 0x12, 0x13, 0x14]

/-- A request frame of command `cmd`: one that the device does not take is ignored, one whose length is false is refused before anything
else (R88). -/
def actDdp (t : Ps) (ok : Nat → Bool) (f : CanFrame) (g : List Byte → Dev → Dev) (s : State) : Host.Outcome State Fault Refusal :=
  wellFormed (canLengthOk f.bytes.length && ok (fByte f.bytes 0)) "CAN_FRAME"
    (act t (fun d =>
      if !ddpTakes d f then d
      else if ddpLengthOk f.bytes then g f.bytes d
      else ddpRefuse f.bytes 4 d) s)

/-- Expedited requests that the device holds (R93): those that wait for the bus matrix. -/
def expeditedHeld (d : Dev) : Nat :=
  (d.ctl.held.filter fun h =>
    match h.req with
    | .ddp b => decide (fByte b 0 ≤ 3)
    | _ => false).length

/-- A request that reads or writes the dictionary waits for its target (R94); the 33rd expedited one is answered with BUSY (R93). -/
def ddpSubmit (b : List Byte) (d : Dev) : Dev :=
  if fByte b 0 ≤ 3 ∧ 32 ≤ expeditedHeld d then ddpRefuse b 0xA d else submit 1 (targetOf (leAt b 4 2)) (.ddp b) d

/-- A segmented write whose last segment has come waits for the target of its entry. -/
def segDataPut (b : List Byte) (d : Dev) : Dev :=
  let d' := segDataIn b d
  let node := fByte b 1
  match segOf d' node with
  | some x => if x.lastDone ∧ !(segOf d node).any (·.lastDone) then submit 1 (targetOf (x.key / 256)) (.stage node) d' else d'
  | none => d'

/-- DDP_READ (R91). -/
def execDdpRead (t : Ps) (frame : CanFrame) : State → Host.Outcome State Fault Refusal := actDdp t (· == 1) frame ddpSubmit

/-- DDP_WRITE (R91). -/
def execDdpWrite (t : Ps) (frame : CanFrame) : State → Host.Outcome State Fault Refusal := actDdp t (· == 2) frame ddpSubmit

/-- DDP_READ_INFO (R91). -/
def execDdpReadInfo (t : Ps) (frame : CanFrame) : State → Host.Outcome State Fault Refusal := actDdp t (· == 3) frame ddpSubmit

/-- SEG_READ_INIT (R95). -/
def execSegReadInit (t : Ps) (frame : CanFrame) : State → Host.Outcome State Fault Refusal := actDdp t (· == 0x10) frame ddpSubmit

/-- SEG_WRITE_INIT (R95). -/
def execSegWriteInit (t : Ps) (frame : CanFrame) : State → Host.Outcome State Fault Refusal := actDdp t (· == 0x11) frame ddpSubmit

/-- SEG_DATA (R96). -/
def execSegData (t : Ps) (frame : CanFrame) : State → Host.Outcome State Fault Refusal := actDdp t (· == 0x12) frame segDataPut

/-- SEG_ACK (R97). -/
def execSegAck (t : Ps) (frame : CanFrame) : State → Host.Outcome State Fault Refusal := actDdp t (· == 0x13) frame segAckIn

/-- SEG_ABORT (R100). -/
def execSegAbort (t : Ps) (frame : CanFrame) : State → Host.Outcome State Fault Refusal := actDdp t (· == 0x14) frame segAbortIn

/-- DDP_BAD_COMMAND (R90): a request of another command. -/
def execDdpBadCommand (t : Ps) (frame : CanFrame) : State → Host.Outcome State Fault Refusal :=
  actDdp t (fun c => !ddpCommands.contains c) frame fun b => ddpRefuse b 4

/-- SEG_TRANSFER_TIMEOUT (R100). -/
def execSegTransferTimeout (t : Ps) (node : Fin 256) : State → Host.Outcome State Fault Refusal := act t (segTimeout node)

/-- DDP_RESPONSE_TRANSMIT (R92): the frame at the front of the transmit queue leaves on the bus. -/
def execDdpResponseTransmit (t : Ps) : State → Host.Outcome State Fault Refusal :=
  act t fun d =>
    if !d.ctl.ddp.enabled ∨ rd d K.x1110_BUS_STATE = 2 then d
    else match d.ctl.ddp.txWait with
      | [] => d
      | x :: r => segSent x.bytes (modDdp (fun y => { y with txWait := r, sent := x :: y.sent }) d)

/-- BUS_OFF (R86): open segmented transfers are closed with TIMEOUT. -/
def execBusOff (t : Ps) : State → Host.Outcome State Fault Refusal :=
  act t fun d =>
    if !d.ctl.ddp.enabled then d else wr K.x1110_BUS_STATE 2 (forAll (d.ctl.ddp.segs.map (·.1)) segClose d)

/-- BUS_OFF_RECOVERY (R86): the sequence of ISO 11898-1 has ended. -/
def execBusOffRecovery (t : Ps) : State → Host.Outcome State Fault Refusal :=
  act t fun d =>
    if rd d K.x1110_BUS_STATE = 2 then clearAll [K.x1110_TX_ERR_COUNT, K.x1110_RX_ERR_COUNT, K.x1110_BUS_STATE] d else d

/-- DATA_RATE_APPLY (R84): at bus-idle. -/
def execDataRateApply (t : Ps) : State → Host.Outcome State Fault Refusal :=
  act t fun d => modDdp (fun x => { x with rate := rd d K.x1110_DATA_RATE }) d

end Sys2Proof.Machine
end

