-- ==== Sys2Proof/Machine/CmdEvidence.lean ====
section
/-! DEFINITION. Meanings of the commands of evidence chains. -/

namespace Sys2Proof.Machine

/-- SEAL_BOUNDARY (R465). -/
def execSealBoundary (t : Ps) (e : Fin 8) : State → Host.Outcome State Fault Refusal := act t (sealBoundary e)

/-- MANIFEST_SIGNED (R466). -/
def execManifestSigned (t : Ps) (e : Fin 8) : State → Host.Outcome State Fault Refusal := act t (sealSigned e)

/-- EVIDENCE_SEAL (R474): operation 0x0020 in a slot. -/
def execEvidenceSeal (t : Ps) (slot : Fin 64) : State → Host.Outcome State Fault Refusal :=
  act t fun d => if running d slot 0x20 then sealOp slot d else d

/-- EVIDENCE_EXPORT (R471): operation 0x0021 in a slot; `poisoned` says that the pages of the record's frame hold poison. -/
def execEvidenceExport (t : Ps) (slot : Fin 64) (poisoned : Bool) : State → Host.Outcome State Fault Refusal :=
  act t fun d => if running d slot 0x21 then exportStep slot poisoned d else d

/-- COMPOSITION_COMPLETE (R369, R450): the composition that runs ends. -/
def execCompositionComplete (t : Ps) (comp : Fin 72) : State → Host.Outcome State Fault Refusal := act t (completeComp comp)

end Sys2Proof.Machine
end

