-- ==== Sys2Proof/Machine/CmdFaults.lean ====
section
/-! DEFINITION. Meanings of the commands of fault handling. -/

namespace Sys2Proof.Machine

/-- CELL_RETRY_END (R800): a retry of a cell of a block. -/
def execCellRetryEnd (t : Ps) (unit : FaultUnit) (fin : CellEnd) (s : State) : Host.Outcome State Fault Refusal :=
  wellFormed (unitLevel (unitNum unit) == 0 && unitNum unit != 0) "CELL_RETRY_END" (act t (cellRetryEnd (unitNum unit) fin) s)

/-- BLOCK_WATCHDOG_EXPIRY (R799, R803, R804). -/
def execBlockWatchdogExpiry (t : Ps) (block : Fin 39) (s : State) : Host.Outcome State Fault Refusal :=
  wellFormed (block.val != 0) "BLOCK_WATCHDOG_EXPIRY" (act t (blockStart block 1) s)

/-- REGION_TIMEOUT_EXPIRY (R799, R803, R804). -/
def execRegionTimeoutExpiry (t : Ps) (region : Fin 4) : State → Host.Outcome State Fault Refusal := act t (regionTimeout region)

/-- CHIP_TIMEOUT_EXPIRY (R799, R803, R804). -/
def execChipTimeoutExpiry (t : Ps) (silent : Silent) : State → Host.Outcome State Fault Refusal := act t (chipTimeout silent)

/-- RECOVERY_COMMIT_POINT (R802, R13, R806). -/
def execRecoveryCommitPoint (t : Ps) (unit : FaultUnit) : State → Host.Outcome State Fault Refusal :=
  act t (recoveryCommit (unitNum unit))

/-- RECOVERY_END (R802, R803, R808). -/
def execRecoveryEnd (t : Ps) (unit : FaultUnit) (ok : Bool) : State → Host.Outcome State Fault Refusal :=
  act t (recoveryEnd (unitNum unit) ok)

/-- RECOVERY_BUDGET_SPENT (R799, R803). -/
def execRecoveryBudgetSpent (t : Ps) (unit : FaultUnit) : State → Host.Outcome State Fault Refusal :=
  act t (budgetSpent (unitNum unit))

/-- JOURNAL_REPLAY_RUN (R700 to R704): cause as [1C30:07], the region of the faulted unit or the whole chip, and entries that are
uncorrectable. An isolated region reads REPLAYING from its replay on. -/
def execJournalReplayRun (t : Ps) (cause : Fin 6) (scope : Option (Fin 4)) (uncorrectable : List Nat) (s : State) :
    Host.Outcome State Fault Refusal :=
  wellFormed (decide (1 ≤ cause.val)) "JOURNAL_REPLAY_RUN"
    (act t (fun d =>
      let d := match scope with
        | some r => onlyIf (cause.val == 2 && rd d (K.x1011_REGION_STATE r) == 2) (setRegion r 3) d
        | none => d
      replayRun cause (scope.map (·.val)) uncorrectable d) s)

/-- MASTER_WAIT_LIMIT (R35). -/
def execMasterWaitLimit (t : Ps) (master : Fin 8) (target : Fin 9) : State → Host.Outcome State Fault Refusal :=
  act t (masterWaited master target)

/-- MASTER_RESET_IN_BURST (R809, R810): of a burst of 1 to 8 beats, `done` were made. -/
def execMasterResetInBurst (t : Ps) (master : Fin 8) (_write : Bool) (beats done : Fin 9) (entry : Nat) (opSeq : Option Nat)
    (s : State) : Host.Outcome State Fault Refusal :=
  wellFormed (decide (1 ≤ beats.val) && decide (done.val < beats.val) && decide (entry < 2 ^ 24))
    "MASTER_RESET_IN_BURST" (act t (masterReset master (beats.val - done.val) entry opSeq) s)

/-- GPIO_IN_SAMPLE (R841): the levels at the balls, as the board drives those that the block does not. -/
def execGpioInSample (t : Ps) (levels : BitVec 32) : State → Host.Outcome State Fault Refusal :=
  act t (gpioIn levels.toNat)

/-- CAN_BUS_ERROR (R84). -/
def execCanBusError (t : Ps) (error : CanError) : State → Host.Outcome State Fault Refusal :=
  act t fun d => busState (match error with
    | .transmit n => wr K.x1110_TX_ERR_COUNT n d
    | .receive n => wr K.x1110_RX_ERR_COUNT n d)

end Sys2Proof.Machine
end

