-- ==== Sys2Proof/Machine/CmdFrc.lean ====
section
/-! DEFINITION. Meanings of the commands of converters and coefficient sets. -/

namespace Sys2Proof.Machine

/-- COEFFICIENT_SET_LOAD (R333): the body of the operation in a slot. -/
def execCoefficientSetLoad (t : Ps) (slot : Fin 64) (host : HostRead) (nvOk : Bool) : State → Host.Outcome State Fault Refusal :=
  act t fun d => if running d slot 0x70 then setLoadRun slot host nvOk d else d

/-- MOTION_REFINEMENT_TILE (R358, R185): one 64 × 64 tile of a MOTION converter, sixteen units paid. -/
def execMotionRefinementTile (t : Ps) (f : Fin 32) (tile : Nat) : State → Host.Outcome State Fault Refusal :=
  act t fun d =>
    let q := rd d (K.frc_WORK_SIZE f)
    let (ta, td) := tilesOf (q / 65536) (q % 65536)
    if rd d (K.frc_FRC_MODE f) = 2 ∧ rd d (K.frc_ATTACH f) ≠ 0xFFFF ∧ !workShed d 0 ∧ tile < ta * td ∧
        !(conv d f).refined.contains tile then
      onceForPaid 0 16 (modConv f fun c => { c with refined := tile :: c.refined }) d
    else d

end Sys2Proof.Machine
end

