-- ==== Sys2Proof/Machine/CmdFunctions.lean ====
section
/-! DEFINITION. Meanings of the commands of PCIe functions. -/

namespace Sys2Proof.Machine

/-- FUNCTION_LEVEL_RESET (R597). -/
def execFunctionLevelReset (t : Ps) (fn : Fin 64) : State → Host.Outcome State Fault Refusal := act t (fnDrain 1 fn)

/-- BUS_MASTER_DISABLE (R597). -/
def execBusMasterDisable (t : Ps) (fn : Fin 64) : State → Host.Outcome State Fault Refusal := act t (fnDrain 2 fn)

/-- VF_DISABLE (R598). -/
def execVfDisable (t : Ps) : State → Host.Outcome State Fault Refusal := act t vfDisable

/-- VF_ENABLE (R593). -/
def execVfEnable (t : Ps) (count : Fin 64) : State → Host.Outcome State Fault Refusal := act t (vfEnable count)

/-- HOT_RESET (R599). -/
def execHotReset (t : Ps) : State → Host.Outcome State Fault Refusal := act t hotReset

/-- FUNCTION_DRAIN_COMPLETE (R598). -/
def execFunctionDrainComplete (t : Ps) (fn : Fin 64) : State → Host.Outcome State Fault Refusal := act t (fnDrained fn)

/-- QUEUE_DRAIN_COMPLETE (R627). -/
def execQueueDrainComplete (t : Ps) (q : Fin 65536) : State → Host.Outcome State Fault Refusal := act t (queueDrained q)

/-- PERST_ASSERT (R767, R769). -/
def execPerstAssert (t : Ps) : State → Host.Outcome State Fault Refusal := actAlways t perstLow

/-- PERST_DEASSERT (R769). -/
def execPerstDeassert (t : Ps) : State → Host.Outcome State Fault Refusal := actAlways t perstHigh

end Sys2Proof.Machine
end

