-- ==== Sys2Proof/Machine/CmdGovernor.lean ====
section
/-! DEFINITION. Meanings of the commands of the budget governor. -/

namespace Sys2Proof.Machine

/-- GOVERNOR_TOKEN_TICK (R182): every 1 ms. -/
def execGovernorTokenTick (t : Ps) : State → Host.Outcome State Fault Refusal :=
  act t fun d => if d.ctl.tokensAt + ms 1 ≤ d.now then tokenTick d else d

/-- DEFERRABLE_WORK_DISPATCH (R185 to R187). -/
def execDeferrableWorkDispatch (t : Ps) (kind : WorkKind) : State → Host.Outcome State Fault Refusal :=
  act t (dispatchWork (workRow kind))

/-- POWER_ESTIMATE_UPDATE (R47): every 10 ms. -/
def execPowerEstimateUpdate (t : Ps) (e : PowerEstimate) (s : State) : Host.Outcome State Fault Refusal :=
  wellFormed ([e.lanes, e.memory, e.compositors, e.conversion, e.inputs, e.pcie, e.control, e.leakage].all
      fun v => decide (v < 2 ^ 28)) "POWER_ESTIMATE_UPDATE"
    (act t (fun d =>
      if d.ctl.estimateAt + ms 10 ≤ d.now then
        let d := { d with ctl := { d.ctl with estimateAt := d.now } }
        wr K.x1620_P_LANES e.lanes (wr K.x1620_P_MEMORY e.memory (wr K.x1620_P_COMPOSITORS e.compositors
          (wr K.x1620_P_CONVERSION e.conversion (wr K.x1620_P_INPUTS e.inputs (wr K.x1620_P_PCIE e.pcie
            (wr K.x1620_P_CONTROL e.control (wr K.x1620_P_TOTAL
              (e.lanes + e.memory + e.compositors + e.conversion + e.inputs + e.pcie + e.control + e.leakage) d)))))))
      else d) s)

/-- AUTO_COMPACTION (R722): one tail sector; without tokens while too few sectors are erased, with them below the higher
figure. -/
def execAutoCompaction (t : Ps) (r : Fin 4) : State → Host.Outcome State Fault Refusal :=
  act t fun d =>
    let e := erasedAhead d r
    let n := (match (ring d r).used with
      | s :: _ => (s.recs.filter (isCurrent (ringRecs d r) (maxCommit (ringRecs d 0)))).length
      | [] => 0)
    if e < (compactBelow r).2 then (compactTail r d).2
    else if e < (compactBelow r).1 then onceForPaid 3 n (fun d => (compactTail r d).2) d
    else d

/-- Records that the next step of an operation 0x0030 moves. -/
def compactionMoves (d : Dev) (s : Nat) : Nat :=
  match (opRings d s).find? fun r => decide (erasedAhead d r + (ring d r).pend.length < arg d s 7) with
  | none => 0
  | some r =>
    match (ring d r).used with
    | x :: _ :: _ => (x.recs.filter (isCurrent (ringRecs d r) (maxCommit (ringRecs d 0)))).length
    | _ => 0

/-- NV_COMPACTION (R737, R738): one step of the operation in a slot, each record moved paid for. -/
def execNvCompaction (t : Ps) (slot : Fin 64) : State → Host.Outcome State Fault Refusal :=
  act t fun d =>
    if running d slot 0x30 then
      (if (slotRun d slot).abortAsked then abortSlot slot d
       else onceForPaid 3 (compactionMoves d slot) (compactionStep slot) d)
    else d

/-- EYE_SCAN (R233): one paid sample point of a scan that runs. -/
def execEyeScan (t : Ps) (slot : Fin 64) (errors : Nat) : State → Host.Outcome State Fault Refusal :=
  act t fun d =>
    if running d slot 0x50 then
      (if !eyeReady d (arg d slot 6) then finishSlot slot 4 3 d
       else slotForPaid slot 5 1 (eyePoint slot errors) d)
    else d

end Sys2Proof.Machine
end

