-- ==== Sys2Proof/Machine/CmdQueues.lean ====
section
/-! DEFINITION. Meanings of the commands of host queues. -/

namespace Sys2Proof.Machine

/-- DOORBELL_WRITE (R610, R611). -/
def execDoorbellWrite (t : Ps) (fn : Fin 64) (offset : Nat) (data : List Byte) (s : State) : Host.Outcome State Fault Refusal :=
  wellFormed (decide (offset < 524288)) "DOORBELL_WRITE" (act t (doorbell fn offset data) s)

/-- COMPLETION_WRITE (R618 to R623). -/
def execCompletionWrite (t : Ps) (q : Fin 65536) : State → Host.Outcome State Fault Refusal := act t (writeCompletion q)

/-- DESCRIPTOR_RETIRE (R632). -/
def execDescriptorRetire (t : Ps) (q : Fin 65536) : State → Host.Outcome State Fault Refusal := act t (retireOldest q)

/-- IRQ_HOLDOFF_EXPIRY (R621). -/
def execIrqHoldoffExpiry (t : Ps) (q : Fin 65536) : State → Host.Outcome State Fault Refusal := act t (irqHoldoffEnd q)

/-- Is a fetched descriptor of 64 bytes and of one of the opcodes `ops`? -/
def descOk (x : Desc) (ops : List Nat) : Bool := x.bytes.length == 64 && ops.contains (dOpcode x.bytes)

/-- A fence is placed: it notes the NV-class effects and commits made before it (R623). -/
def placeFence (x : Desc) (d : Dev) : Dev :=
  modDescr x.queue x.ring (fun y => { y with need := some d.nv.nextId, result := d.ctl.granted }) d

/-- FENCE_LOCAL (R623): later descriptors start once every earlier one has finished. -/
def execFenceLocal (t : Ps) (x : Desc) (s : State) : Host.Outcome State Fault Refusal :=
  wellFormed (descOk x [0x10]) "FENCE_LOCAL" (act t (runDescr x.queue x.ring x.bytes fun _ => placeFence x) s)

/-- FENCE_HOST (R623): later completions are held until every earlier host write is visible. -/
def execFenceHost (t : Ps) (x : Desc) (s : State) : Host.Outcome State Fault Refusal :=
  wellFormed (descOk x [0x11]) "FENCE_HOST" (act t (runDescr x.queue x.ring x.bytes fun _ => placeFence x) s)

/-- FENCE_PERSIST (R623, R687): later descriptors start once every earlier NV-class effect is covered. -/
def execFencePersist (t : Ps) (x : Desc) (s : State) : Host.Outcome State Fault Refusal :=
  wellFormed (descOk x [0x12]) "FENCE_PERSIST" (act t (runDescr x.queue x.ring x.bytes fun _ => placeFence x) s)

/-- EVENT_BUFFER (R617): LENGTH is a multiple of 64, at least one record. -/
def execEventBuffer (t : Ps) (x : Desc) (s : State) : Host.Outcome State Fault Refusal :=
  wellFormed (descOk x [0x0501]) "EVENT_BUFFER"
    (act t (runDescr x.queue x.ring x.bytes
      (bufferRun x.queue x.ring (dLength x.bytes % 64 == 0 && decide (64 ≤ dLength x.bytes) && headerOk x.bytes))) s)

/-- EVENT_BUFFER_TIMEOUT (R617): the buffer in use completes 1 ms after its first record. -/
def execEventBufferTimeout (t : Ps) (q : Fin 65536) : State → Host.Outcome State Fault Refusal :=
  act t fun d =>
    if (queue d q).bufFirst.any fun b => decide (b + ms 1 ≤ d.now) then
      modQ q (fun c => { c with
        bufFirst := none
        descs := modFirst (fun x => x.status.isNone && dOpcode x.bytes == 0x0501 && x.moved != 0)
          (fun x => { x with status := some 0 }) c.descs }) d
    else d

/-- CAPTURE_BUFFER (R617): the buffer waits for a block of its stream. -/
def execCaptureBuffer (t : Ps) (x : Desc) (s : State) : Host.Outcome State Fault Refusal :=
  wellFormed (descOk x [0x0301]) "CAPTURE_BUFFER"
    (act t (runDescr x.queue x.ring x.bytes (bufferRun x.queue x.ring (headerOk x.bytes))) s)

/-- EVIDENCE_BUFFER (R617): the buffer waits for export units. -/
def execEvidenceBuffer (t : Ps) (x : Desc) (s : State) : Host.Outcome State Fault Refusal :=
  wellFormed (descOk x [0x0601]) "EVIDENCE_BUFFER"
    (act t (runDescr x.queue x.ring x.bytes (bufferRun x.queue x.ring (headerOk x.bytes))) s)

/-- LINK_DOWN (R592). -/
def execLinkDown (t : Ps) : State → Host.Outcome State Fault Refusal := act t linkDown

/-- PLL_LOSS_OF_LOCK (R636 to R638, R635): the block relocks; a memory PHY takes its stack out, the PCIe PHY its link, the
reference PLL the genlock reference; a synthesizer has no other effect. -/
def execPllLossOfLock (t : Ps) (pll : PllBlock) : State → Host.Outcome State Fault Refusal :=
  act t fun d =>
    if pll.val = 0 ∨ rd d (K.x1401_PLL_STATE pll) ≠ 2 then d
    else if pll.val = 4 then refPllLost d
    else
      let d := incSat 32 (K.x1402_PLL_RELOCKS pll) (change (K.x1401_PLL_STATE pll) 3
        (modClk (fun c => { c with relockAt := tabSet pll.val d.now c.relockAt }) d))
      if pll.val = 1 ∨ pll.val = 2 then change (K.x1012_MB_STATE (pll.val - 1)) 1 d
      else if pll.val = 3 then linkDown d
      else d

/-- PLL_LOCK_CONFIRMED (R641, R643, R645, R648, R207): blocks 0 to 12 as in [1401], 13 + 2q + f the PLLs of quad q. -/
def execPllLockConfirmed (t : Ps) (pll : Fin 77) (band : Fin 64) : State → Host.Outcome State Fault Refusal :=
  act t fun d =>
    if pll.val = 0 then rootRelocked band d
    else if pll.val = 4 then refPllLocked d
    else if pll.val < 13 then
      (if rd d (K.x1401_PLL_STATE pll) = 1 ∨ rd d (K.x1401_PLL_STATE pll) = 3 then
        modClk (fun c => { c with relockAt := tabSet pll.val d.now c.relockAt }) (change (K.x1401_PLL_STATE pll) 2 d)
       else d)
    else quadRelocked ((pll.val - 13) / 2) ((pll.val - 13) % 2) band d

/-- PHY_RECALIBRATE_END (R637): 40 us after the relock the stack serves traffic again. -/
def execPhyRecalibrateEnd (t : Ps) (stack : Fin 2) : State → Host.Outcome State Fault Refusal :=
  act t fun d =>
    if rd d (K.x1012_MB_STATE stack) = 1 ∧ rd d (K.x1401_PLL_STATE (1 + stack)) = 2 ∧
        tabGet 0 d.clk.relockAt (1 + stack) + us 40 ≤ d.now then
      change (K.x1012_MB_STATE stack) 0 d
    else d

end Sys2Proof.Machine
end

