-- ==== Sys2Proof/Machine/CmdHost.lean ====
section
/-! DEFINITION. Meanings of the commands of transfers with the host. -/

namespace Sys2Proof.Machine

/-- EXPORT_FRAME (R615). -/
def execExportFrame (t : Ps) (x : Desc) (poisoned : Bool) (fin : HostWriteEnd) (s : State) : Host.Outcome State Fault Refusal :=
  wellFormed (descOk x [0x0101]) "EXPORT_FRAME"
    (act t (runDescr x.queue x.ring x.bytes (exportFrame x poisoned fin)) s)

/-- WINDOW_TO_HOST (R614). -/
def execWindowToHost (t : Ps) (x : Desc) (fin : HostWriteEnd) (s : State) : Host.Outcome State Fault Refusal :=
  wellFormed (descOk x [0x0102]) "WINDOW_TO_HOST"
    (actMem t (fun m d => (m, runDescr x.queue x.ring x.bytes (fun i => windowToHost x fin i m) d)) s)

/-- IMPORT_PLANE (R616). -/
def execImportPlane (t : Ps) (x : Desc) (host : HostRead) (s : State) : Host.Outcome State Fault Refusal :=
  wellFormed (descOk x [0x0201]) "IMPORT_PLANE"
    (act t (fun d => match importStart x d with
      | some d => runDescr x.queue x.ring x.bytes (importPlane x host) d
      | none => d) s)

/-- HOST_TO_WINDOW (R614). -/
def execHostToWindow (t : Ps) (x : Desc) (host : HostRead) (s : State) : Host.Outcome State Fault Refusal :=
  wellFormed (descOk x [0x0202]) "HOST_TO_WINDOW"
    (actMem t (runDescrMem x.queue x.ring x.bytes (hostToWindow x host)) s)

/-- PLAYBACK_BLOCK (R531, R617). -/
def execPlaybackBlock (t : Ps) (x : Desc) (host : HostRead) (s : State) : Host.Outcome State Fault Refusal :=
  wellFormed (descOk x [0x0401]) "PLAYBACK_BLOCK"
    (act t (runDescr x.queue x.ring x.bytes (playbackBlock x host)) s)

end Sys2Proof.Machine
end

