-- ==== Sys2Proof/Machine/CmdInputs.lean ====
section
/-! DEFINITION. Meanings of the commands of input pipelines. -/

namespace Sys2Proof.Machine

/-- FRAME_PUBLISH (R274). -/
def execFramePublish (t : Ps) (port : Fin 128) : State → Host.Outcome State Fault Refusal := act t (publishInput port)

/-- PAGE_FREE (R563): once no reader holds a frame of the store that had the page. -/
def execPageFree (t : Ps) (lpn : Fin 524288) : State → Host.Outcome State Fault Refusal :=
  act t fun d =>
    match tabFind d.fm.freeing lpn with
    | some (id, n) =>
      if anyHeld d fun h => h.1 == id && decide (h.2 < n) then d else freePage lpn d
    | none => d

end Sys2Proof.Machine
end

