-- ==== Sys2Proof/Machine/CmdLanes.lean ====
section
/-! DEFINITION. Meanings of the commands of serial lanes. -/

namespace Sys2Proof.Machine

/-- RAW_DETECTOR_CHANGE (R201, R202): the detectors of the balls, kept but not followed while a near-end loop has the receiver (R224). LOL
does not clear under LOS, nor while the candidate's PLL is not LOCKED (R195). -/
def execRawDetectorChange (t : Ps) (port : Fin 128) (lol asserted : Bool) : State → Host.Outcome State Fault Refusal :=
  act t fun d =>
    let d := modRx port (fun x => if lol then { x with ballLol := asserted } else { x with ballLos := asserted }) d
    if looped d port then d
    else if !lol then inputsFollow port (rawLos port asserted d)
    else if !asserted && (sig d port 2 || !pllLocked d port (famOf (rd d (K.rx_RX_RATE port)))) then d
    else inputsFollow port (rawLol port asserted d)

/-- LOS_DEBOUNCE_ASSERT (R201, R198): due once raw LOS has been asserted for its time. -/
def execLosDebounceAssert (t : Ps) (port : Fin 128) : State → Host.Outcome State Fault Refusal :=
  act t fun d =>
    if sig d port 2 && !sig d port 0 && decide ((rx d port).losDue ≤ d.now) then
      inputsFollow port (debouncedLoss port true (setSig port 0 true d))
    else d

/-- LOS_DEBOUNCE_CLEAR (R201): the search proceeds from the first candidate. -/
def execLosDebounceClear (t : Ps) (port : Fin 128) : State → Host.Outcome State Fault Refusal :=
  act t fun d =>
    if !sig d port 2 && sig d port 0 && decide ((rx d port).losDue ≤ d.now) then
      let d := setSig port 0 false d
      if rd d (K.rx_RX_STATE port) = 1 then loadCandidate port (firstCandidate d port) d else d
    else d

/-- LOL_DEBOUNCE_ASSERT (R201, R198). -/
def execLolDebounceAssert (t : Ps) (port : Fin 128) : State → Host.Outcome State Fault Refusal :=
  act t fun d =>
    if sig d port 3 && !sig d port 1 && decide ((rx d port).lolDue ≤ d.now) then
      inputsFollow port (txUpdate port (debouncedLoss port false (setSig port 1 true d)))
    else d

/-- LOL_DEBOUNCE_CLEAR (R201): the reported flag clears. -/
def execLolDebounceClear (t : Ps) (port : Fin 128) : State → Host.Outcome State Fault Refusal :=
  act t fun d =>
    if !sig d port 3 && sig d port 1 && decide ((rx d port).lolDue ≤ d.now) then txUpdate port (setSig port 1 false d) else d

/-- CDR_LOCK_QUALIFIED (R198): raw LOL has stayed clear for 10 us within 100 us of loading the candidate, on a LOCKED PLL (R195). -/
def execCdrLockQualified (t : Ps) (port : Fin 128) : State → Host.Outcome State Fault Refusal :=
  act t fun d =>
    let r := rx d port
    if rd d (K.rx_RX_STATE port) = 1 ∧ sig d port 0 = false ∧ sig d port 3 = false ∧
        pllLocked d port (famOf (rd d (K.rx_RX_RATE port))) ∧
        max r.lolClearAt r.candAt + us 10 ≤ d.now ∧ d.now ≤ r.candAt + us 100 then
      modRx port (fun x => { x with alignAt := d.now, good := 0, miss := 0, foreign := 0 }) (rxState port 2 d)
    else d

/-- CANDIDATE_TIMEOUT (R198, R199): 100 us on a candidate; while LOS is asserted the first candidate is held. -/
def execCandidateTimeout (t : Ps) (port : Fin 128) : State → Host.Outcome State Fault Refusal :=
  act t fun d =>
    if rd d (K.rx_RX_STATE port) = 1 ∧ sig d port 0 = false ∧ (rx d port).candAt + us 100 ≤ d.now then rxNext port d else d

/-- ALIGN_WINDOW_EXPIRY (R198): 500 us for SDI, 50 us for tie. -/
def execAlignWindowExpiry (t : Ps) (port : Fin 128) : State → Host.Outcome State Fault Refusal :=
  act t fun d =>
    if rd d (K.rx_RX_STATE port) = 2 ∧
        (rx d port).alignAt + us (if rd d (K.rx_RX_RATE port) = 0x20 then 50 else 500) ≤ d.now then rxNext port d else d

/-- SDI_TRS_RECEIVED (R198): the third EAV in a row locks; the eighth missing or misplaced one returns to ALIGN. -/
def execSdiTrsReceived (t : Ps) (port : Fin 128) (inPlace : Bool) : State → Host.Outcome State Fault Refusal :=
  act t fun d =>
    let st := rd d (K.rx_RX_STATE port)
    if (tieOf d port).isSome then d
    else if inPlace then
      let n := (rx d port).good + 1
      if st = 2 ∨ st = 3 then
        onlyIf (st == 2 && decide (3 ≤ n)) (fun d => inputsFollow port (rxState port 3 d))
          (modRx port (fun x => { x with good := n, miss := 0 }) d)
      else d
    else
      let n := (rx d port).miss + 1
      let d' := modRx port (fun x => { x with good := 0, miss := n }) d
      if st = 3 then
        (if 8 ≤ n then inputsFollow port (rxState port 2 (modRx port (fun x => { x with alignAt := d.now, miss := 0 }) d')) else d')
      else if st = 2 then d' else d

/-- SDI_LINE_RECEIVED (R203): line CRC mismatches count at 1.485 Gb/s and above in LOCKED. -/
def execSdiLineReceived (t : Ps) (port : Fin 128) (_line : Nat) (crcOk : Bool) : State → Host.Outcome State Fault Refusal :=
  act t fun d =>
    if !crcOk && rd d (K.rx_RX_STATE port) == 3 && rd d (K.rx_RX_RATE port) != 1 && rd d (K.rx_RX_RATE port) != 0x20 then
      incSat 32 (K.rx_CRC_ERRORS port) d
    else d

/-- QUAD_PLL_LOSS_OF_LOCK (R207 steps 1 and 2). -/
def execQuadPllLossOfLock (t : Ps) (q : Fin 32) (frac : Bool) : State → Host.Outcome State Fault Refusal :=
  act t (quadLoss q (if frac then 1 else 0))

/-- TX_INTERPOLATOR_REALIGN (R207 step 4): once the PLL is LOCKED again, on every SDI transmitter that it squelched. -/
def execTxInterpolatorRealign (t : Ps) (q : Fin 32) (frac : Bool) : State → Host.Outcome State Fault Refusal :=
  act t fun d =>
    let f := if frac then 1 else 0
    if rd d (kPllState q f) = 2 then
      setPllT0 q f none (forAll (((List.range 4).map (4 * q.val + ·)).filter fun p => (tx d p).sqFamily == f && (tieOf d p).isNone)
        realignTx d)
    else d

/-- TX_RESUME (R207 step 5, R855, R815), and of a tie transmitter (R209). -/
def execTxResume (t : Ps) (port : Fin 128) : State → Host.Outcome State Fault Refusal := act t (resumeTx port)

/-- TIE_BLOCK_RECEIVED (R240 to R249): what stood at the block position of each lane, and when it arrived in ns. -/
def execTieBlockReceived (t : Ps) (b : Fin 16) (blocks : List (Option (List Byte))) (skewNs : List Nat)
    (s : State) : Host.Outcome State Fault Refusal :=
  wellFormed (blocks.length == 5 && skewNs.length == 5) "TIE_BLOCK_RECEIVED"
    (act t (fun d => inputsFollow (8 * b) (tieBlocks b blocks skewNs d)) s)

/-- TIE_LANE_REJOIN (R248). -/
def execTieLaneRejoin (t : Ps) (b : Fin 16) (lane : Fin 5) : State → Host.Outcome State Fault Refusal :=
  act t fun d => inputsFollow (8 * b) (tieRejoin b lane d)

/-- PRBS_SYNC_GAINED (R229): the latest 64 bits received. -/
def execPrbsSyncGained (t : Ps) (seen : PrbsSeen) : State → Host.Outcome State Fault Refusal :=
  fun s => wellFormed (seen.bits.length == 64) "PRBS_SYNC_GAINED" (act t (prbsGained seen.port seen.bits) s)

/-- PRBS_SYNC_LOST (R229): the errors counted, and those in the latest 65,536 bits. -/
def execPrbsSyncLost (t : Ps) (port : Fin 128) (errors recent : Nat) : State → Host.Outcome State Fault Refusal :=
  act t (prbsLost port errors recent)

end Sys2Proof.Machine
end

