-- ==== Sys2Proof/Machine/CmdMailbox.lean ====
section
/-! DEFINITION. Meanings of the commands of mailbox queues. -/

namespace Sys2Proof.Machine

/-- The opcodes of R613 that have a command of their own. -/
def knownOpcodes : List Nat := [0x10, 0x11, 0x12, 0x0101, 0x0102, 0x0201, 0x0202, 0x0301, 0x0401, 0x0501, 0x0601]

/-- NOP (R613). An opcode outside the table completes with BAD_DESCRIPTOR, a DICT_COMMAND whose own opcode is none of R78
with DICT_REFUSED and TYPE_LENGTH, which is recorded. -/
def execNop (t : Ps) (x : Desc) (s : State) : Host.Outcome State Fault Refusal :=
  wellFormed (x.bytes.length == 64 && !knownOpcodes.contains (dOpcode x.bytes) &&
      (dOpcode x.bytes != 0x0701 || leAt x.bytes 16 1 == 0 || decide (4 < leAt x.bytes 16 1))) "NOP"
    (act t (runDescr x.queue x.ring x.bytes (fun _ d =>
      if dOpcode x.bytes = 1 then finishDescr x.queue x.ring (if headerOk x.bytes then 0 else 5) 0 0 0 false d
      else if dOpcode x.bytes = 0x0701 then finishDescr x.queue x.ring 9 0 4 0 false
        (refuse ((qFn d x.queue).getD 0) (leAt x.bytes 18 2 * 256 + leAt x.bytes 17 1) 4 d)
      else finishDescr x.queue x.ring 5 0 0 0 false d)) s)

/-- Bytes of a command that travel as best-effort traffic: its descriptor and its data (R848). -/
def mailboxTraffic (op : Nat) (m : MailboxCmd) : Nat := 64 + if op = 2 ∧ inlined m then 0 else m.length.toNat

/-- A mailbox command runs (R78 to R81): the data of a SET arrive, then the command waits for the target of its object. -/
def mailboxRun (op : Nat) (m : MailboxCmd) (i : StartInfo) (d : Dev) : Dev :=
  let q := m.queue.val
  let r := m.ring.val
  if !mailboxFields m then finishDescr q r 5 0 0 0 false d
  else if op = 2 ∧ !inlined m ∧ m.fin ≠ .ok then faultDescr q r 4 0 d
  else match i.done.filter fun _ => op = 2 with
    | some y => finishDescr q r (y.status.getD 0) y.moved y.detail y.result y.poisoned d
    | none =>
      submit 0 (targetOf m.index) (.mailbox op m i) (onlyIf (op == 2 && !inlined m)
        (fun d => countBytes q m.length.toNat true (dmaRead ((qFn d q).getD 0) m.buffer.toNat m.length.toNat d)) d)

/-- A mailbox command of opcode `op` (R81, R848): it starts when units for all of its traffic are paid. -/
def actMailbox (t : Ps) (op : Nat) (m : MailboxCmd) (s : State) : Host.Outcome State Fault Refusal :=
  wellFormed (mailboxOk (op == 2) m) "DICT_COMMAND"
    (act t (fun d =>
      let n := mailboxTraffic op m
      if (startInfo d m.queue m.ring).all fun i => !i.cancelled && decide (paidBytes d m.queue < n) then d
      else runDescr m.queue m.ring (mailboxBytes op m) (mailboxRun op m) (payHost m.queue n d)) s)

/-- MAILBOX_GET (R79). -/
def execMailboxGet (t : Ps) (m : MailboxCmd) : State → Host.Outcome State Fault Refusal := actMailbox t 1 m

/-- MAILBOX_SET (R80). -/
def execMailboxSet (t : Ps) (m : MailboxCmd) : State → Host.Outcome State Fault Refusal := actMailbox t 2 m

/-- MAILBOX_GET_INFO (R79). -/
def execMailboxGetInfo (t : Ps) (m : MailboxCmd) : State → Host.Outcome State Fault Refusal := actMailbox t 3 m

/-- MAILBOX_GET_STAGED (R79). -/
def execMailboxGetStaged (t : Ps) (m : MailboxCmd) : State → Host.Outcome State Fault Refusal := actMailbox t 4 m

end Sys2Proof.Machine
end

