-- ==== Sys2Proof/Machine/CmdMemory.lean ====
section
/-! DEFINITION. Meanings of the commands of frame memory. -/

namespace Sys2Proof.Machine

/-- MEMORY_READ (R544, R552, R556). -/
def execMemoryRead (t : Ps) (m : MemAccess) : State → Host.Outcome State Fault Refusal := act t (memoryAccess m)

/-- PAGE_RETIREMENT_COPY_END (R548). -/
def execPageRetirementCopyEnd (t : Ps) (ppn : Fin 524288) : State → Host.Outcome State Fault Refusal := actMem t (copyEnd ppn)

/-- PATROL_SCRUB_PAGE (R575): the next page in ascending order, paid for. -/
def execPatrolScrubPage (t : Ps) (ppn : Fin 524288) (reads : List (Fin 1024 × GranuleRead)) :
    State → Host.Outcome State Fault Refusal :=
  act t fun d =>
    if on d K.x3810_PATROL_ENABLE ∧ ppn.val < rd d K.x3800_PAGES_TOTAL ∧
        patrolNext d ((retiredList d).length + d.fm.copies.length) d.fm.patrolPos = ppn.val then
      onceForPaid 4 1 (fun d =>
        let was := d.fm.lagging
        let d := patrolPage ppn (reads.map fun r => (r.1.val, r.2)) d
        onlyIf (d.fm.lagging && !was) (condition K.x3810_LAG_PAGES) d) d
    else d

/-- MEMORY_SCRUB (R579): one page of the operation in a slot. -/
def execMemoryScrub (t : Ps) (slot : Fin 64) (reads : List (Fin 1024 × GranuleRead)) : State → Host.Outcome State Fault Refusal :=
  act t fun d => if running d slot 0x40 then scrubPage slot (reads.map fun r => (r.1.val, r.2)) d else d

/-- MEMORY_TEST (R580): one page of the operation in a slot. -/
def execMemoryTest (t : Ps) (slot : Fin 64) (failed : List (Fin 1024)) : State → Host.Outcome State Fault Refusal :=
  act t fun d => if running d slot 0x41 then testPage slot (failed.map (·.val)) d else d

/-- BAR4_READ (R570 to R572): a request that PCIe allows, within one 4 KiB page. -/
def execBar4Read (t : Ps) (fn : Fin 64) (offset length : Nat) (s : State) : Host.Outcome State Fault Refusal :=
  wellFormed (decide (offset < 2 ^ 35) && decide (1 ≤ length) && decide (offset % 4096 + length ≤ 4096)) "BAR4_READ"
    (act t (bar4Get fn offset length s.mem) s)

/-- BAR4_WRITE (R570 to R572). -/
def execBar4Write (t : Ps) (fn : Fin 64) (offset : Nat) (data : List Byte) (s : State) : Host.Outcome State Fault Refusal :=
  wellFormed (decide (offset < 2 ^ 35) && decide (1 ≤ data.length) && decide (offset % 4096 + data.length ≤ 4096)) "BAR4_WRITE"
    (actMem t (bar4Put fn offset data) s)

/-- WINDOW_GROW_PAGE (R573). -/
def execWindowGrowPage (t : Ps) (w : Fin 64) : State → Host.Outcome State Fault Refusal := actMem t (growWindow w)

end Sys2Proof.Machine
end

