-- ==== Sys2Proof/Machine/CmdNv.lean ====
section
/-! DEFINITION. Meanings of the commands of the NV store. -/

namespace Sys2Proof.Machine

/-- RING_B_COPY (R719). -/
def execRingBCopy (t : Ps) (tables : Bool) : State → Host.Outcome State Fault Refusal := act t (copyOne tables)

/-- SECTOR_ERASE_COMPLETE (R722, R712). -/
def execSectorEraseComplete (t : Ps) (r : Fin 4) : State → Host.Outcome State Fault Refusal :=
  act t fun d =>
    match (ring d r).pend with
    | [] => d
    | p :: _ => compactionErased (sectorAddr r p) (eraseDone r d)

/-- FLASH_ERASE_FAIL (R724). -/
def execFlashEraseFail (t : Ps) (r : Fin 4) : State → Host.Outcome State Fault Refusal :=
  act t fun d =>
    match (ring d r).pend with
    | [] => d
    | p :: _ =>
      eraseFails r (forAll (List.range 64) (fun s =>
        modSlot s fun x => { x with aux := if running d s 0x30 then x.aux.filter (· != sectorAddr r p) else x.aux }) d)

/-- BACKOFF_EXPIRY (R741). -/
def execBackoffExpiry (t : Ps) (u : Fin 4) : State → Host.Outcome State Fault Refusal :=
  act t fun d =>
    if (user d u).backoffEnd.any fun e => decide (e ≤ d.now) then
      persistBackoff u (modUser u (fun x => { x with backoffEnd := none, backoffLen := 0 }) d)
    else d

end Sys2Proof.Machine
end

