-- ==== Sys2Proof/Machine/CmdPower.lean ====
section
/-! DEFINITION. Meanings of the commands of power failure and replay. -/

namespace Sys2Proof.Machine

/-- PFAIL_ACCEPT (R680, R689). -/
def execPfailAccept (t : Ps) : State → Host.Outcome State Fault Refusal := actAlways t pfail

/-- PFAIL_GLITCH (R680). -/
def execPfailGlitch (t : Ps) : State → Host.Outcome State Fault Refusal := act t (incSat 32 K.x1640_PFAIL_GLITCHES)

/-- FLUSH_DRAIN_COMPLETE (R689). -/
def execFlushDrainComplete (t : Ps) : State → Host.Outcome State Fault Refusal := actAlways t (flushEnd true)

/-- POWER_RETURN_RESTART (R696). -/
def execPowerReturnRestart (t : Ps) : State → Host.Outcome State Fault Refusal := actAlways t powerReturn

/-- HOLDUP_SAMPLE (R681): every 100 us. -/
def execHoldupSample (t : Ps) (code : Fin 4096) : State → Host.Outcome State Fault Refusal :=
  act t fun d => if d.power.sampleAt + us 100 ≤ d.now then holdupSample code d else d

/-- RESERVE_UPDATE (R682): every 1 ms. -/
def execReserveUpdate (t : Ps) : State → Host.Outcome State Fault Refusal :=
  act t fun d => if d.power.reserveAt + ms 1 ≤ d.now then reserveUpdate d else d

/-- PERSIST_DRAIN_RECORD (R719): in operation and while a flush drains (R690). -/
def execPersistDrainRecord (t : Ps) : State → Host.Outcome State Fault Refusal :=
  actAlways t fun d =>
    if d.power.flush.isSome then drainOne d
    else if alive d then nvCovered (pbState (drainOne d)) else d

/-- FLASH_PROGRAM_FAIL (R691, R724). -/
def execFlashProgramFail (t : Ps) : State → Host.Outcome State Fault Refusal :=
  actAlways t fun d => if d.power.flush.isSome || alive d then drainFails d else d

/-- RAIL_UNDERVOLTAGE (R830): from the end of S01 on. -/
def execRailUndervoltage (t : Ps) (rail : Fin 11) : State → Host.Outcome State Fault Refusal :=
  actAlways t fun d =>
    if alive d ∧ d.boot.started ∧ rd d K.x1C40_BOOT_STEP ≠ 1 then
      pfail (persistObj 0x1610 0x2000 (change K.x1610_RAIL_FAULTS (Nat.min (rd d K.x1610_RAIL_FAULTS + 1) (2 ^ 32 - 1))
        (wr K.x1610_LAST_RAIL (rail + 1) d)))
    else d

/-- RESET_N_ASSERT (R768, R831): a pulse of 100 ns or more. -/
def execResetNAssert (t lowPs : Ps) : State → Host.Outcome State Fault Refusal :=
  actAlways t fun d => if lowPs < 100000 then d else deviceReset 2 d

/-- T_ABS_TRIP (R765). -/
def execTAbsTrip (t : Ps) : State → Host.Outcome State Fault Refusal := actAlways t fun d => if d.power.stopped then d else absTrip d

end Sys2Proof.Machine
end

