-- ==== Sys2Proof/Machine/CmdSeam.lean ====
section
/-! DEFINITION. Meanings of the commands of seams and frame boundaries. -/

namespace Sys2Proof.Machine

/-- TG_SEAM (R282). -/
def execTgSeam (t : Ps) (g : Fin 8) : State → Host.Outcome State Fault Refusal := act t (tgSeam g)

/-- INPUT_FRAME_RECEIVED (R256, R262): the frame that ends at this boundary. -/
def execInputFrameReceived (t : Ps) (port : Fin 128) (frame : RxFrame) (s : State) : Host.Outcome State Fault Refusal :=
  wellFormed (rxFrameOk frame) "INPUT_FRAME_RECEIVED" (act t (inputBoundary port frame) s)

/-- INPUT_SIGNAL_LOSS (R270). -/
def execInputSignalLoss (t : Ps) (port : Fin 128) (partOf : Option RxFrame) (s : State) : Host.Outcome State Fault Refusal :=
  wellFormed (partOf.all rxFrameOk) "INPUT_SIGNAL_LOSS" (act t (inputGone port partOf) s)

/-- LL_ROUTE_RESTORE (R173, R302): the generator of a low-latency route has read LOCKED for 1 s; the next seam restores the
offset. -/
def execLlRouteRestore (t : Ps) (port : Fin 128) : State → Host.Outcome State Fault Refusal :=
  act t fun d =>
    if rd d (K.route_ROUTE_MODE port) = 1 ∧ (tg d (routeTg d port)).lockedSince.any (fun a => decide (a + sec 1 ≤ d.now)) then
      modRoute port (fun x => { x with ll := true }) d
    else d

end Sys2Proof.Machine
end

