-- ==== Sys2Proof/Machine/CmdSlots.lean ====
section
/-! DEFINITION. Meanings of the commands of long-operation slots. -/

namespace Sys2Proof.Machine

/-- OP_DISPATCH (R132, R134). -/
def execOpDispatch (t : Ps) (slot : Fin 64) : State → Host.Outcome State Fault Refusal := act t (slotDispatch slot)

/-- SLOT_CLAIM_TIMEOUT (R131): 10 s after the claim. -/
def execSlotClaimTimeout (t : Ps) (slot : Fin 64) : State → Host.Outcome State Fault Refusal :=
  act t fun d =>
    if slotState d slot = 0 ∧ slotOwned d slot ∧ (slotRun d slot).claimedAt + sec 10 ≤ d.now then
      wr (K.slot_OWNER slot) 0xFFFF d
    else d

/-- SLOT_RESULT_TIMEOUT (R131): 10 s after the slot entered DONE, FAILED or ABORTED. -/
def execSlotResultTimeout (t : Ps) (slot : Fin 64) : State → Host.Outcome State Fault Refusal :=
  act t fun d =>
    if 3 ≤ slotState d slot ∧ (slotRun d slot).endedAt + sec 10 ≤ d.now then freeSlot slot d else d

end Sys2Proof.Machine
end

