-- ==== Sys2Proof/Machine/CmdThermal.lean ====
section
/-! DEFINITION. Meanings of the commands of thermal management. -/

namespace Sys2Proof.Machine

/-- THERMAL_SAMPLE (R747, R754): one reading for each of the 36 sensors, none where its self-check fails; it goes on through a flush. -/
def execThermalSample (t : Ps) (readings : List (Option Int)) (s : State) : Host.Outcome State Fault Refusal :=
  wellFormed (readings.length == 36 && readings.all fun r => r.all fun v => decide (-400 ≤ v) && decide (v ≤ 1600)) "THERMAL_SAMPLE"
    (actAlways t (fun d =>
      if !sampleDue d then d
      else if d.power.flush.isSome then flushSample readings d
      else if alive d then thermalSample readings d else d) s)

/-- GRACE_EXPIRY (R758): the grace time has passed at level SLOW or higher. -/
def execGraceExpiry (t : Ps) : State → Host.Outcome State Fault Refusal :=
  act t fun d =>
    if on d K.x1602_THROTTLE_FLAG ∧ 2 ≤ rd d K.x1602_THERMAL_LEVEL ∧ d.therm.graceEnd ≤ d.now ∧ rd d K.x1602_SHED_STEP = 0 then
      setShed 1 d
    else d

/-- SHED_STEP_ADVANCE (R758): 100 ms after the previous step, at level SLOW or higher. -/
def execShedStepAdvance (t : Ps) : State → Host.Outcome State Fault Refusal :=
  act t fun d =>
    let n := rd d K.x1602_SHED_STEP
    if 2 ≤ rd d K.x1602_THERMAL_LEVEL ∧ 1 ≤ n ∧ n ≤ 2 ∧ d.therm.stepAt + ms 100 ≤ d.now then setShed (n + 1) d else d

/-- SHED_STEP_LIFT (R761): 100 ms after the previous lift, below SLOW. -/
def execShedStepLift (t : Ps) : State → Host.Outcome State Fault Refusal :=
  act t fun d =>
    let n := rd d K.x1602_SHED_STEP
    if rd d K.x1602_THERMAL_LEVEL < 2 ∧ 1 ≤ n ∧ d.therm.stepAt + ms 100 ≤ d.now then setShed (n - 1) d else d

end Sys2Proof.Machine
end

