-- ==== Sys2Proof/Machine/CmdTrust.lean ====
section
/-! DEFINITION. Meanings of the commands of trust. -/

namespace Sys2Proof.Machine

/-- FIRMWARE_VERIFY_STAGE (R786): operation 0x0010 in a slot. -/
def execFirmwareVerifyStage (t : Ps) (slot : Fin 64) (host : HostRead) (sig : SigCheck) (flashOk : Bool) :
    State → Host.Outcome State Fault Refusal :=
  act t fun d => if running d slot 0x10 then firmwareRun slot host sig flashOk d else d

/-- ATTESTATION_REPORT (R797): operation 0x0060 in a slot. -/
def execAttestationReport (t : Ps) (slot : Fin 64) : State → Host.Outcome State Fault Refusal :=
  act t fun d => if running d slot 0x60 then attestRun slot d else d

/-- BOOT_LEDGER_RESET (R798): operation 0x0080 in a slot. -/
def execBootLedgerReset (t : Ps) (slot : Fin 64) : State → Host.Outcome State Fault Refusal :=
  act t fun d => if running d slot 0x80 then ledgerResetRun slot d else d

/-- DOE_DISCOVERY (R796): the discovery protocol of the PCI Express specification (PRESUMED, log entry 44). -/
def execDoeDiscovery (t : Ps) (index : Nat) : State → Host.Outcome State Fault Refusal :=
  act t (toHost (.doe (
    if index = 0 then natLE 2 1 ++ [0, 1] else if index = 1 then natLE 2 Config.pcieVendorId.toNat ++ [1, 0] else [0xFF, 0xFF, 0, 0])))

/-- DOE_UMOUSA_REQUEST (R796): the report, padded to 3,632 bytes. -/
def execDoeUmousaRequest (t : Ps) (nonce : List Byte) (s : State) : Host.Outcome State Fault Refusal :=
  wellFormed (nonce.length == 32) "DOE_UMOUSA_REQUEST"
    (act t (fun d => let (b, d) := umousa nonce d; toHost (.doe (padTo 3632 b)) d) s)

end Sys2Proof.Machine
end

