-- ==== Sys2Proof/Machine/Dispatch.lean ====
section
/-! DEFINITION. One arm for each command: its meaning. -/

namespace Sys2Proof.Machine

/-- The effect of a command on everything but the queue. -/
def exec (i : Instr) (s : State) : Host.Outcome State Fault Refusal :=
  match i with
  | .compatRequestWrite t acc data => Sys2Proof.Machine.execCompatRequestWrite t acc data s
  | .dictionaryWrite t acc index sub start data => Sys2Proof.Machine.execDictionaryWrite t acc index sub start data s
  | .defaultTargetAccess t proc path req address read => Sys2Proof.Machine.execDefaultTargetAccess t proc path req address read s
  | .missClear t acc data => Sys2Proof.Machine.execMissClear t acc data s
  | .refuseClear t acc data => Sys2Proof.Machine.execRefuseClear t acc data s
  | .masterWaitLimit t master target => Sys2Proof.Machine.execMasterWaitLimit t master target s
  | .masterResetInBurst t master write beats done entry opSeq => Sys2Proof.Machine.execMasterResetInBurst t master write beats done entry opSeq s
  | .powerEstimateUpdate t est => Sys2Proof.Machine.execPowerEstimateUpdate t est s
  | .stcNowRead t acc => Sys2Proof.Machine.execStcNowRead t acc s
  | .mailboxGet t m => Sys2Proof.Machine.execMailboxGet t m s
  | .mailboxSet t m => Sys2Proof.Machine.execMailboxSet t m s
  | .mailboxGetInfo t m => Sys2Proof.Machine.execMailboxGetInfo t m s
  | .mailboxGetStaged t m => Sys2Proof.Machine.execMailboxGetStaged t m s
  | .ddpRead t frame => Sys2Proof.Machine.execDdpRead t frame s
  | .ddpWrite t frame => Sys2Proof.Machine.execDdpWrite t frame s
  | .ddpReadInfo t frame => Sys2Proof.Machine.execDdpReadInfo t frame s
  | .segReadInit t frame => Sys2Proof.Machine.execSegReadInit t frame s
  | .segWriteInit t frame => Sys2Proof.Machine.execSegWriteInit t frame s
  | .segData t frame => Sys2Proof.Machine.execSegData t frame s
  | .segAck t frame => Sys2Proof.Machine.execSegAck t frame s
  | .segAbort t frame => Sys2Proof.Machine.execSegAbort t frame s
  | .ddpBadCommand t frame => Sys2Proof.Machine.execDdpBadCommand t frame s
  | .segTransferTimeout t node => Sys2Proof.Machine.execSegTransferTimeout t node s
  | .ddpResponseTransmit t => Sys2Proof.Machine.execDdpResponseTransmit t s
  | .busOff t => Sys2Proof.Machine.execBusOff t s
  | .busOffRecovery t => Sys2Proof.Machine.execBusOffRecovery t s
  | .dataRateApply t => Sys2Proof.Machine.execDataRateApply t s
  | .commitRequest t acc data => Sys2Proof.Machine.execCommitRequest t acc data s
  | .discardBasting t acc data => Sys2Proof.Machine.execDiscardBasting t acc data s
  | .commitValidateStart t slot => Sys2Proof.Machine.execCommitValidateStart t slot s
  | .commitValidationEnd t slot => Sys2Proof.Machine.execCommitValidationEnd t slot s
  | .opStart t acc slot => Sys2Proof.Machine.execOpStart t acc slot s
  | .opAbort t acc slot => Sys2Proof.Machine.execOpAbort t acc slot s
  | .opRelease t acc slot => Sys2Proof.Machine.execOpRelease t acc slot s
  | .opDispatch t slot => Sys2Proof.Machine.execOpDispatch t slot s
  | .slotClaimTimeout t slot => Sys2Proof.Machine.execSlotClaimTimeout t slot s
  | .slotResultTimeout t slot => Sys2Proof.Machine.execSlotResultTimeout t slot s
  | .governorTokenTick t => Sys2Proof.Machine.execGovernorTokenTick t s
  | .deferrableWorkDispatch t kind => Sys2Proof.Machine.execDeferrableWorkDispatch t kind s
  | .motionRefinementTile t frc tile => Sys2Proof.Machine.execMotionRefinementTile t frc tile s
  | .llRouteRestore t port => Sys2Proof.Machine.execLlRouteRestore t port s
  | .rxRestart t acc port data => Sys2Proof.Machine.execRxRestart t acc port data s
  | .rxTestWrite t acc port data => Sys2Proof.Machine.execRxTestWrite t acc port data s
  | .prbsCheckWrite t acc port data => Sys2Proof.Machine.execPrbsCheckWrite t acc port data s
  | .rxCountClear t acc port data => Sys2Proof.Machine.execRxCountClear t acc port data s
  | .txTestWrite t acc port data => Sys2Proof.Machine.execTxTestWrite t acc port data s
  | .injectError t acc port data => Sys2Proof.Machine.execInjectError t acc port data s
  | .rawDetectorChange t port lol asserted => Sys2Proof.Machine.execRawDetectorChange t port lol asserted s
  | .losDebounceAssert t port => Sys2Proof.Machine.execLosDebounceAssert t port s
  | .losDebounceClear t port => Sys2Proof.Machine.execLosDebounceClear t port s
  | .lolDebounceAssert t port => Sys2Proof.Machine.execLolDebounceAssert t port s
  | .lolDebounceClear t port => Sys2Proof.Machine.execLolDebounceClear t port s
  | .cdrLockQualified t port => Sys2Proof.Machine.execCdrLockQualified t port s
  | .candidateTimeout t port => Sys2Proof.Machine.execCandidateTimeout t port s
  | .alignWindowExpiry t port => Sys2Proof.Machine.execAlignWindowExpiry t port s
  | .sdiTrsReceived t port inPlace => Sys2Proof.Machine.execSdiTrsReceived t port inPlace s
  | .sdiLineReceived t port line crcOk => Sys2Proof.Machine.execSdiLineReceived t port line crcOk s
  | .quadPllLossOfLock t quad frac => Sys2Proof.Machine.execQuadPllLossOfLock t quad frac s
  | .txInterpolatorRealign t quad frac => Sys2Proof.Machine.execTxInterpolatorRealign t quad frac s
  | .txResume t port => Sys2Proof.Machine.execTxResume t port s
  | .tieBlockReceived t bundle blocks skewNs => Sys2Proof.Machine.execTieBlockReceived t bundle blocks skewNs s
  | .tieLaneRejoin t bundle lane => Sys2Proof.Machine.execTieLaneRejoin t bundle lane s
  | .eyeScan t slot errors => Sys2Proof.Machine.execEyeScan t slot errors s
  | .inputFrameReceived t port frame => Sys2Proof.Machine.execInputFrameReceived t port frame s
  | .framePublish t port => Sys2Proof.Machine.execFramePublish t port s
  | .inputSignalLoss t port partOf => Sys2Proof.Machine.execInputSignalLoss t port partOf s
  | .tgSeam t tg => Sys2Proof.Machine.execTgSeam t tg s
  | .compositionComplete t comp => Sys2Proof.Machine.execCompositionComplete t comp s
  | .regionRelease t acc comp data => Sys2Proof.Machine.execRegionRelease t acc comp data s
  | .sealBoundary t e => Sys2Proof.Machine.execSealBoundary t e s
  | .manifestSigned t e => Sys2Proof.Machine.execManifestSigned t e s
  | .evidenceSeal t slot => Sys2Proof.Machine.execEvidenceSeal t slot s
  | .evidenceExport t slot poisoned => Sys2Proof.Machine.execEvidenceExport t slot poisoned s
  | .coefficientSetLoad t slot host nvOk => Sys2Proof.Machine.execCoefficientSetLoad t slot host nvOk s
  | .embeddedAudioPacket t port packet => Sys2Proof.Machine.execEmbeddedAudioPacket t port packet s
  | .embeddedGroupTimeout t port group => Sys2Proof.Machine.execEmbeddedGroupTimeout t port group s
  | .sourceSyncLost t code => Sys2Proof.Machine.execSourceSyncLost t code s
  | .srcBypassQualified t code => Sys2Proof.Machine.execSrcBypassQualified t code s
  | .mutedSourceReturn t code => Sys2Proof.Machine.execMutedSourceReturn t code s
  | .embedderSlip t port omits => Sys2Proof.Machine.execEmbedderSlip t port omits s
  | .aes3FrameReceived t unit frame => Sys2Proof.Machine.execAes3FrameReceived t unit frame s
  | .aes3Acquired t unit rateHz => Sys2Proof.Machine.execAes3Acquired t unit rateHz s
  | .aes3Loss t unit kind => Sys2Proof.Machine.execAes3Loss t unit kind s
  | .aes3TxBlockBoundary t unit => Sys2Proof.Machine.execAes3TxBlockBoundary t unit s
  | .captureBlockForm t stream => Sys2Proof.Machine.execCaptureBlockForm t stream s
  | .eaCountClear t acc port data => Sys2Proof.Machine.execEaCountClear t acc port data s
  | .arCountClear t acc unit data => Sys2Proof.Machine.execArCountClear t acc unit data s
  | .memoryRead t m => Sys2Proof.Machine.execMemoryRead t m s
  | .pageRetirementCopyEnd t ppn => Sys2Proof.Machine.execPageRetirementCopyEnd t ppn s
  | .pageFree t lpn => Sys2Proof.Machine.execPageFree t lpn s
  | .patrolScrubPage t ppn reads => Sys2Proof.Machine.execPatrolScrubPage t ppn reads s
  | .memoryScrub t slot reads => Sys2Proof.Machine.execMemoryScrub t slot reads s
  | .memoryTest t slot failed => Sys2Proof.Machine.execMemoryTest t slot failed s
  | .memCountClear t acc data => Sys2Proof.Machine.execMemCountClear t acc data s
  | .faultRecordClear t acc data => Sys2Proof.Machine.execFaultRecordClear t acc data s
  | .pageTableQuery t acc data => Sys2Proof.Machine.execPageTableQuery t acc data s
  | .bar4Read t fn offset length => Sys2Proof.Machine.execBar4Read t fn offset length s
  | .bar4Write t fn offset data => Sys2Proof.Machine.execBar4Write t fn offset data s
  | .windowGrowPage t domain => Sys2Proof.Machine.execWindowGrowPage t domain s
  | .phyRecalibrateEnd t stack => Sys2Proof.Machine.execPhyRecalibrateEnd t stack s
  | .doorbellWrite t fn offset data => Sys2Proof.Machine.execDoorbellWrite t fn offset data s
  | .nop t d => Sys2Proof.Machine.execNop t d s
  | .fenceLocal t d => Sys2Proof.Machine.execFenceLocal t d s
  | .fenceHost t d => Sys2Proof.Machine.execFenceHost t d s
  | .fencePersist t d => Sys2Proof.Machine.execFencePersist t d s
  | .exportFrame t d poisoned fin => Sys2Proof.Machine.execExportFrame t d poisoned fin s
  | .windowToHost t d fin => Sys2Proof.Machine.execWindowToHost t d fin s
  | .importPlane t d host => Sys2Proof.Machine.execImportPlane t d host s
  | .hostToWindow t d host => Sys2Proof.Machine.execHostToWindow t d host s
  | .captureBuffer t d => Sys2Proof.Machine.execCaptureBuffer t d s
  | .playbackBlock t d host => Sys2Proof.Machine.execPlaybackBlock t d host s
  | .eventBuffer t d => Sys2Proof.Machine.execEventBuffer t d s
  | .eventBufferTimeout t queue => Sys2Proof.Machine.execEventBufferTimeout t queue s
  | .evidenceBuffer t d => Sys2Proof.Machine.execEvidenceBuffer t d s
  | .completionWrite t queue => Sys2Proof.Machine.execCompletionWrite t queue s
  | .descriptorRetire t queue => Sys2Proof.Machine.execDescriptorRetire t queue s
  | .irqHoldoffExpiry t queue => Sys2Proof.Machine.execIrqHoldoffExpiry t queue s
  | .queueEnable t acc => Sys2Proof.Machine.execQueueEnable t acc s
  | .queueDisable t acc => Sys2Proof.Machine.execQueueDisable t acc s
  | .queueDrainComplete t queue => Sys2Proof.Machine.execQueueDrainComplete t queue s
  | .resumeSkip t acc => Sys2Proof.Machine.execResumeSkip t acc s
  | .resumeRetry t acc => Sys2Proof.Machine.execResumeRetry t acc s
  | .functionLevelReset t fn => Sys2Proof.Machine.execFunctionLevelReset t fn s
  | .busMasterDisable t fn => Sys2Proof.Machine.execBusMasterDisable t fn s
  | .vfDisable t => Sys2Proof.Machine.execVfDisable t s
  | .hotReset t => Sys2Proof.Machine.execHotReset t s
  | .functionDrainComplete t fn => Sys2Proof.Machine.execFunctionDrainComplete t fn s
  | .linkDown t => Sys2Proof.Machine.execLinkDown t s
  | .linkUp t width speed => Sys2Proof.Machine.execLinkUp t width speed s
  | .doeDiscovery t index => Sys2Proof.Machine.execDoeDiscovery t index s
  | .doeUmousaRequest t nonce => Sys2Proof.Machine.execDoeUmousaRequest t nonce s
  | .attestationReport t slot => Sys2Proof.Machine.execAttestationReport t slot s
  | .journalReplayRun t cause scope uncorrectable => Sys2Proof.Machine.execJournalReplayRun t cause scope uncorrectable s
  | .pllLossOfLock t pll => Sys2Proof.Machine.execPllLossOfLock t pll s
  | .pllLockConfirmed t pll band => Sys2Proof.Machine.execPllLockConfirmed t pll band s
  | .xtalLoss t => Sys2Proof.Machine.execXtalLoss t s
  | .xtalReturn t => Sys2Proof.Machine.execXtalReturn t s
  | .refFramePulse t => Sys2Proof.Machine.execRefFramePulse t s
  | .refQualified t tgInput ppb => Sys2Proof.Machine.execRefQualified t tgInput ppb s
  | .refClkLoss t clockPresent => Sys2Proof.Machine.execRefClkLoss t clockPresent s
  | .refClkChange t found => Sys2Proof.Machine.execRefClkChange t found s
  | .tgSlewComplete t tg => Sys2Proof.Machine.execTgSlewComplete t tg s
  | .timeAnchorWrite t acc data => Sys2Proof.Machine.execTimeAnchorWrite t acc data s
  | .anchorStale t => Sys2Proof.Machine.execAnchorStale t s
  | .ptmDialogue t master => Sys2Proof.Machine.execPtmDialogue t master s
  | .pfailAccept t => Sys2Proof.Machine.execPfailAccept t s
  | .pfailGlitch t => Sys2Proof.Machine.execPfailGlitch t s
  | .flushDrainComplete t => Sys2Proof.Machine.execFlushDrainComplete t s
  | .powerReturnRestart t => Sys2Proof.Machine.execPowerReturnRestart t s
  | .holdupSample t code => Sys2Proof.Machine.execHoldupSample t code s
  | .reserveUpdate t => Sys2Proof.Machine.execReserveUpdate t s
  | .persistWriteAdmit t => Sys2Proof.Machine.execPersistWriteAdmit t s
  | .persistDrainRecord t => Sys2Proof.Machine.execPersistDrainRecord t s
  | .ringBCopy t tables => Sys2Proof.Machine.execRingBCopy t tables s
  | .flashProgramFail t => Sys2Proof.Machine.execFlashProgramFail t s
  | .sectorEraseComplete t ring => Sys2Proof.Machine.execSectorEraseComplete t ring s
  | .autoCompaction t ring => Sys2Proof.Machine.execAutoCompaction t ring s
  | .nvCompaction t slot => Sys2Proof.Machine.execNvCompaction t slot s
  | .setPassword t acc u data => Sys2Proof.Machine.execSetPassword t acc u data s
  | .unlock t acc u data => Sys2Proof.Machine.execUnlock t acc u data s
  | .lock t acc u data => Sys2Proof.Machine.execLock t acc u data s
  | .eraseAndClear t acc u data => Sys2Proof.Machine.execEraseAndClear t acc u data s
  | .backoffExpiry t u => Sys2Proof.Machine.execBackoffExpiry t u s
  | .thermalSample t readings => Sys2Proof.Machine.execThermalSample t readings s
  | .graceExpiry t => Sys2Proof.Machine.execGraceExpiry t s
  | .shedStepAdvance t => Sys2Proof.Machine.execShedStepAdvance t s
  | .shedStepLift t => Sys2Proof.Machine.execShedStepLift t s
  | .tAbsTrip t => Sys2Proof.Machine.execTAbsTrip t s
  | .railUndervoltage t rail => Sys2Proof.Machine.execRailUndervoltage t rail s
  | .resetNAssert t lowPs => Sys2Proof.Machine.execResetNAssert t lowPs s
  | .perstAssert t => Sys2Proof.Machine.execPerstAssert t s
  | .perstDeassert t => Sys2Proof.Machine.execPerstDeassert t s
  | .bootStart t cause nodeId => Sys2Proof.Machine.execBootStart t cause nodeId s
  | .bootStepEnd t result found => Sys2Proof.Machine.execBootStepEnd t result found s
  | .bootStepTimeout t => Sys2Proof.Machine.execBootStepTimeout t s
  | .bootHoldRetry t good => Sys2Proof.Machine.execBootHoldRetry t good s
  | .firmwareVerifyStage t slot host sig flashOk => Sys2Proof.Machine.execFirmwareVerifyStage t slot host sig flashOk s
  | .recoveryExit t => Sys2Proof.Machine.execRecoveryExit t s
  | .fuseReread t ok => Sys2Proof.Machine.execFuseReread t ok s
  | .bootLedgerReset t slot => Sys2Proof.Machine.execBootLedgerReset t slot s
  | .ownerEnrol t acc data sig => Sys2Proof.Machine.execOwnerEnrol t acc data sig s
  | .ownerEnrolEnforce t acc data sig => Sys2Proof.Machine.execOwnerEnrolEnforce t acc data sig s
  | .ownerRevoke t acc data sig => Sys2Proof.Machine.execOwnerRevoke t acc data sig s
  | .enterRma t acc data sig => Sys2Proof.Machine.execEnterRma t acc data sig s
  | .svnCommit t acc data => Sys2Proof.Machine.execSvnCommit t acc data s
  | .epochAdvance t acc data => Sys2Proof.Machine.execEpochAdvance t acc data s
  | .cellRetryEnd t unit fin => Sys2Proof.Machine.execCellRetryEnd t unit fin s
  | .blockWatchdogExpiry t block => Sys2Proof.Machine.execBlockWatchdogExpiry t block s
  | .regionTimeoutExpiry t region => Sys2Proof.Machine.execRegionTimeoutExpiry t region s
  | .chipTimeoutExpiry t silent => Sys2Proof.Machine.execChipTimeoutExpiry t silent s
  | .recoveryCommitPoint t unit => Sys2Proof.Machine.execRecoveryCommitPoint t unit s
  | .recoveryEnd t unit ok => Sys2Proof.Machine.execRecoveryEnd t unit ok s
  | .recoveryBudgetSpent t unit => Sys2Proof.Machine.execRecoveryBudgetSpent t unit s
  | .logClear t acc data => Sys2Proof.Machine.execLogClear t acc data s
  | .vfEnable t count => Sys2Proof.Machine.execVfEnable t count s
  | .refClkPresent t found => Sys2Proof.Machine.execRefClkPresent t found s
  | .rootLossOfLock t => Sys2Proof.Machine.execRootLossOfLock t s
  | .canBusError t error => Sys2Proof.Machine.execCanBusError t error s
  | .prbsSyncGained t seen => Sys2Proof.Machine.execPrbsSyncGained t seen s
  | .prbsSyncLost t port errors recent => Sys2Proof.Machine.execPrbsSyncLost t port errors recent s
  | .playbackGap t stream => Sys2Proof.Machine.execPlaybackGap t stream s
  | .audioClockSlewEnd t => Sys2Proof.Machine.execAudioClockSlewEnd t s
  | .stcSlewEnd t => Sys2Proof.Machine.execStcSlewEnd t s
  | .gpioInSample t levels => Sys2Proof.Machine.execGpioInSample t levels s
  | .flashEraseFail t ring => Sys2Proof.Machine.execFlashEraseFail t ring s

end Sys2Proof.Machine
end

