-- ==== Sys2Proof/Machine/Step.lean ====
section
/-! DEFINITION. One step: the command at the front of the queue, or one tick of CK_FAB on an empty queue. -/

namespace Sys2Proof.Machine

/-- One CK_FAB cycle, 1,250 ps (R636). -/
def tickPs : Ps := 1250

/-- One step: the command at the front runs on the state with the queue's rest; on an empty queue device time moves on by one
CK_FAB cycle, and the bus matrix serves what waits for it, nothing else (DESIGN CHOICE, log entry 22). -/
def step (s : State) : Host.Outcome State Fault Refusal :=
  match s.pending with
  | [] => .next { s with dev := arrive (s.dev.now + tickPs) s.dev }
  | c :: r => exec c { s with pending := r }

/-- The state with a command at the front of its queue. -/
def State.withFront (s : State) (c : Instr) : State := { s with pending := c :: s.pending }

/-- The state with the command that a word spells at the front of its queue; unchanged where the word spells none. -/
def State.withFetchWord (s : State) (nbits w : Nat) : State :=
  match decodeTableWord nbits w with
  | some c => s.withFront c
  | none => s

end Sys2Proof.Machine
end

