-- ==== Sys2Proof/WellFormed.lean ====
section
/-! DEFINITION. Which commands are well formed: the operands that an event of the hardware can carry. One check for each command; a
command whose check fails stops with the fault `badOperand`. -/

namespace Sys2Proof

open Sys2Proof.Machine

/-- A CAN FD frame whose length the format has (R87) and whose first byte is the command (R90). -/
def canOk (f : CanFrame) (cmd : Nat) : Bool := canLengthOk f.bytes.length && fByte f.bytes 0 == cmd

/-- An access that brings an owner token of one action (R790). -/
def tokenForm (acc : Access) (action : Nat) (data : List Byte) : Bool := leAt data 5 1 == action && accOk acc

/-- Can an event of the hardware carry the command's operands? -/
def WellFormed (i : Instr) : Bool :=
  match i with
  | .compatRequestWrite _ acc _ => accOk acc
  | .dictionaryWrite _ acc _ _ _ _ => accOk acc
  | .defaultTargetAccess _ proc path req _ _ => accOk { path := path, req := req, proc := proc }
  | .missClear _ acc _ => accOk acc
  | .refuseClear _ acc _ => accOk acc
  | .masterWaitLimit _ _ _ => true
  | .masterResetInBurst _ _ _ beats done entry _ => decide (1 ≤ beats.val) && decide (done.val < beats.val) && decide (entry < 2 ^ 24)
  | .powerEstimateUpdate _ est => [est.lanes, est.memory, est.compositors, est.conversion, est.inputs, est.pcie, est.control, est.leakage].all fun v => decide (v < 2 ^ 28)
  | .stcNowRead _ acc => accOk acc
  | .mailboxGet _ m => mailboxOk false m
  | .mailboxSet _ m => mailboxOk true m
  | .mailboxGetInfo _ m => mailboxOk false m
  | .mailboxGetStaged _ m => mailboxOk false m
  | .ddpRead _ frame => canOk frame 1
  | .ddpWrite _ frame => canOk frame 2
  | .ddpReadInfo _ frame => canOk frame 3
  | .segReadInit _ frame => canOk frame 0x10
  | .segWriteInit _ frame => canOk frame 0x11
  | .segData _ frame => canOk frame 0x12
  | .segAck _ frame => canOk frame 0x13
  | .segAbort _ frame => canOk frame 0x14
  | .ddpBadCommand _ frame => canLengthOk frame.bytes.length && !ddpCommands.contains (fByte frame.bytes 0)
  | .segTransferTimeout _ _ => true
  | .ddpResponseTransmit _ => true
  | .busOff _ => true
  | .busOffRecovery _ => true
  | .dataRateApply _ => true
  | .commitRequest _ acc _ => accOk acc
  | .discardBasting _ acc _ => accOk acc
  | .commitValidateStart _ _ => true
  | .commitValidationEnd _ _ => true
  | .opStart _ acc _ => accOk acc
  | .opAbort _ acc _ => accOk acc
  | .opRelease _ acc _ => accOk acc
  | .opDispatch _ _ => true
  | .slotClaimTimeout _ _ => true
  | .slotResultTimeout _ _ => true
  | .governorTokenTick _ => true
  | .deferrableWorkDispatch _ _ => true
  | .motionRefinementTile _ _ _ => true
  | .llRouteRestore _ _ => true
  | .rxRestart _ acc _ _ => accOk acc
  | .rxTestWrite _ acc _ _ => accOk acc
  | .prbsCheckWrite _ acc _ _ => accOk acc
  | .rxCountClear _ acc _ _ => accOk acc
  | .txTestWrite _ acc _ _ => accOk acc
  | .injectError _ acc _ _ => accOk acc
  | .rawDetectorChange _ _ _ _ => true
  | .losDebounceAssert _ _ => true
  | .losDebounceClear _ _ => true
  | .lolDebounceAssert _ _ => true
  | .lolDebounceClear _ _ => true
  | .cdrLockQualified _ _ => true
  | .candidateTimeout _ _ => true
  | .alignWindowExpiry _ _ => true
  | .sdiTrsReceived _ _ _ => true
  | .sdiLineReceived _ _ _ _ => true
  | .quadPllLossOfLock _ _ _ => true
  | .txInterpolatorRealign _ _ _ => true
  | .txResume _ _ => true
  | .tieBlockReceived _ _ blocks skewNs => blocks.length == 5 && skewNs.length == 5
  | .tieLaneRejoin _ _ _ => true
  | .eyeScan _ _ _ => true
  | .inputFrameReceived _ _ frame => rxFrameOk frame
  | .framePublish _ _ => true
  | .inputSignalLoss _ _ partOf => partOf.all rxFrameOk
  | .tgSeam _ _ => true
  | .compositionComplete _ _ => true
  | .regionRelease _ acc _ _ => accOk acc
  | .sealBoundary _ _ => true
  | .manifestSigned _ _ => true
  | .evidenceSeal _ _ => true
  | .evidenceExport _ _ _ => true
  | .coefficientSetLoad _ _ _ _ => true
  | .embeddedAudioPacket _ _ packet => packet.samples.length == 4 && packet.invalid.length == 4
  | .embeddedGroupTimeout _ _ _ => true
  | .sourceSyncLost _ _ => true
  | .srcBypassQualified _ _ => true
  | .mutedSourceReturn _ _ => true
  | .embedderSlip _ _ _ => true
  | .aes3FrameReceived _ _ frame => frame.parityOk.length == 2 && frame.samples.length == 2 && frame.v.length == 2 && frame.u.length == 2 && frame.c.length == 2
  | .aes3Acquired _ _ _ => true
  | .aes3Loss _ _ _ => true
  | .aes3TxBlockBoundary _ _ => true
  | .captureBlockForm _ _ => true
  | .eaCountClear _ acc _ _ => accOk acc
  | .arCountClear _ acc _ _ => accOk acc
  | .memoryRead _ _ => true
  | .pageRetirementCopyEnd _ _ => true
  | .pageFree _ _ => true
  | .patrolScrubPage _ _ _ => true
  | .memoryScrub _ _ _ => true
  | .memoryTest _ _ _ => true
  | .memCountClear _ acc _ => accOk acc
  | .faultRecordClear _ acc _ => accOk acc
  | .pageTableQuery _ acc _ => accOk acc
  | .bar4Read _ _ offset length => decide (offset < 2 ^ 35) && decide (1 ≤ length) && decide (offset % 4096 + length ≤ 4096)
  | .bar4Write _ _ offset data => decide (offset < 2 ^ 35) && decide (1 ≤ data.length) && decide (offset % 4096 + data.length ≤ 4096)
  | .windowGrowPage _ _ => true
  | .phyRecalibrateEnd _ _ => true
  | .doorbellWrite _ _ offset _ => decide (offset < 524288)
  | .nop _ d => d.bytes.length == 64 && !knownOpcodes.contains (dOpcode d.bytes) &&
      (dOpcode d.bytes != 0x0701 || leAt d.bytes 16 1 == 0 || decide (4 < leAt d.bytes 16 1))
  | .fenceLocal _ d => descOk d [0x10]
  | .fenceHost _ d => descOk d [0x11]
  | .fencePersist _ d => descOk d [0x12]
  | .exportFrame _ d _ _ => descOk d [0x0101]
  | .windowToHost _ d _ => descOk d [0x0102]
  | .importPlane _ d _ => descOk d [0x0201]
  | .hostToWindow _ d _ => descOk d [0x0202]
  | .captureBuffer _ d => descOk d [0x0301]
  | .playbackBlock _ d _ => descOk d [0x0401]
  | .eventBuffer _ d => descOk d [0x0501]
  | .eventBufferTimeout _ _ => true
  | .evidenceBuffer _ d => descOk d [0x0601]
  | .completionWrite _ _ => true
  | .descriptorRetire _ _ => true
  | .irqHoldoffExpiry _ _ => true
  | .queueEnable _ acc => accOk acc
  | .queueDisable _ acc => accOk acc
  | .queueDrainComplete _ _ => true
  | .resumeSkip _ acc => accOk acc
  | .resumeRetry _ acc => accOk acc
  | .functionLevelReset _ _ => true
  | .busMasterDisable _ _ => true
  | .vfDisable _ => true
  | .hotReset _ => true
  | .functionDrainComplete _ _ => true
  | .linkDown _ => true
  | .linkUp _ width speed => [1, 2, 4, 8, 16].contains width && decide (1 ≤ speed) && decide (speed ≤ 7)
  | .doeDiscovery _ _ => true
  | .doeUmousaRequest _ nonce => nonce.length == 32
  | .attestationReport _ _ => true
  | .journalReplayRun _ cause _ _ => decide (1 ≤ cause.val)
  | .pllLossOfLock _ _ => true
  | .pllLockConfirmed _ _ _ => true
  | .xtalLoss _ => true
  | .xtalReturn _ => true
  | .refFramePulse _ => true
  | .refQualified _ _ _ => true
  | .refClkLoss _ _ => true
  | .refClkChange _ _ => true
  | .tgSlewComplete _ _ => true
  | .timeAnchorWrite _ acc _ => accOk acc
  | .anchorStale _ => true
  | .ptmDialogue _ _ => true
  | .pfailAccept _ => true
  | .pfailGlitch _ => true
  | .flushDrainComplete _ => true
  | .powerReturnRestart _ => true
  | .holdupSample _ _ => true
  | .reserveUpdate _ => true
  | .persistWriteAdmit _ => true
  | .persistDrainRecord _ => true
  | .ringBCopy _ _ => true
  | .flashProgramFail _ => true
  | .sectorEraseComplete _ _ => true
  | .autoCompaction _ _ => true
  | .nvCompaction _ _ => true
  | .setPassword _ acc _ _ => accOk acc
  | .unlock _ acc _ _ => accOk acc
  | .lock _ acc _ _ => accOk acc
  | .eraseAndClear _ acc _ _ => accOk acc
  | .backoffExpiry _ _ => true
  | .thermalSample _ readings => readings.length == 36 && readings.all fun r => r.all fun v => decide (-400 ≤ v) && decide (v ≤ 1600)
  | .graceExpiry _ => true
  | .shedStepAdvance _ => true
  | .shedStepLift _ => true
  | .tAbsTrip _ => true
  | .railUndervoltage _ _ => true
  | .resetNAssert _ _ => true
  | .perstAssert _ => true
  | .perstDeassert _ => true
  | .bootStart _ cause _ => decide (1 ≤ cause.val)
  | .bootStepEnd _ _ _ => true
  | .bootStepTimeout _ => true
  | .bootHoldRetry _ _ => true
  | .firmwareVerifyStage _ _ _ _ _ => true
  | .recoveryExit _ => true
  | .fuseReread _ _ => true
  | .bootLedgerReset _ _ => true
  | .ownerEnrol _ acc data _ => tokenForm acc 1 data
  | .ownerEnrolEnforce _ acc data _ => tokenForm acc 2 data
  | .ownerRevoke _ acc data _ => tokenForm acc 3 data
  | .enterRma _ acc data _ => tokenForm acc 4 data
  | .svnCommit _ acc _ => accOk acc
  | .epochAdvance _ acc _ => accOk acc
  | .cellRetryEnd _ unit _ => unitLevel (unitNum unit) == 0 && unitNum unit != 0
  | .blockWatchdogExpiry _ block => block.val != 0
  | .regionTimeoutExpiry _ _ => true
  | .chipTimeoutExpiry _ _ => true
  | .recoveryCommitPoint _ _ => true
  | .recoveryEnd _ _ _ => true
  | .recoveryBudgetSpent _ _ => true
  | .logClear _ acc _ => accOk acc
  | .vfEnable _ _ => true
  | .refClkPresent _ _ => true
  | .rootLossOfLock _ => true
  | .canBusError _ _ => true
  | .prbsSyncGained _ seen => seen.bits.length == 64
  | .prbsSyncLost _ _ _ _ => true
  | .playbackGap _ _ => true
  | .audioClockSlewEnd _ => true
  | .stcSlewEnd _ => true
  | .gpioInSample _ _ => true
  | .flashEraseFail _ _ => true

end Sys2Proof
end

