-- ==== Sys2Proof/Safety.lean ====
section
/-! DEFINITION. The terms in which claims are stated: what a good state is, what a run does, when a write is accepted, and what a
command changes. -/

namespace Sys2Proof.Machine

/-- The invariant of the block: frame memory is in its canonical form. -/
def State.Inv (s : State) : Prop := memWf s.mem = true

/-- Every command that waits is one that an event of the hardware can carry. -/
def State.Ready (s : State) : Prop := ∀ c ∈ s.pending, WellFormed c = true

/-- A run of `n` steps from `s` meets no fault and no refusal. -/
def SafeRun (n : Nat) (s : State) : Prop := ∃ t, core.run n s = .next t

/-- The command answers a next state in which only the block's own data, frame memory and the queue apart, has changed, and `P` holds
of it. -/
def Makes (c : Instr) (s : State) (P : Dev → Prop) : Prop := ∃ d, exec c s = .next { s with dev := d } ∧ P d

/-- Is `j` a count of a function that an event may move: EVENTS_LOST, when it finds no room, or BYTES_D2H, when it goes to a queue
(R617, R634)? -/
def isLost (j : Nat) : Bool := (List.range 64).any fun f => j == K.fn_EVENTS_LOST f || j == K.fn_BYTES_D2H f

/-- The numbered entries of `d'` read as those of `d`, but for the listed ones, which read as listed. -/
def Entries (l : Tab Nat) (d d' : Dev) : Prop := ∀ j, rd d' j = (tabFind l j).getD (rd d j)

/-- As `Entries`, where events may be raised on the way. -/
def EntriesE (l : Tab Nat) (d d' : Dev) : Prop := ∀ j, isLost j = false → rd d' j = (tabFind l j).getD (rd d j)

/-- Everything of the block but its numbered entries is as in `d`. -/
def SameRest (d d' : Dev) : Prop := { d' with od := d.od } = d

/-- An event of code `code` about entry `entry` stands newest in the event log, with `new` in its NEW field and `detail` first in DETAIL. -/
def newestEvent (d : Dev) (code entry new : Nat) (detail : List Byte) : Prop :=
  ∃ e, d.evLog.head? = some e ∧ e.code = code ∧ e.entry = entry ∧ e.new = new ∧ e.seq = d.evSeq ∧ e.detail.take detail.length = detail

/-- The descriptor is the next of its queue and may start now, for the first time. -/
def Fresh (x : Desc) (d : Dev) : Prop :=
  startInfo d x.queue x.ring = some {} ∧ ∀ y ∈ (queue d x.queue).descs, y.ring ≠ x.ring.val

/-- The descriptor has a place in its queue, and `P` holds of it. -/
def InPlace (x : Desc) (d : Dev) (P : Descr → Prop) : Prop :=
  ∃ y, (queue d x.queue).descs.find? (fun y => y.ring == x.ring.val) = some y ∧ y.bytes = x.bytes ∧ y.written = false ∧ P y

/-- The descriptor has finished with a status and BYTES, DETAIL and RESULT as given; its completion is still to be written. -/
def Finished (x : Desc) (st moved detail result : Nat) (d : Dev) : Prop :=
  InPlace x d fun y => y.status = some st ∧ y.moved = moved ∧ y.detail = detail ∧ y.result = result ∧ y.poisoned = false

/-- Does master `m` get target `tgt` at once: it reaches it, the target's port is free in this cycle, and no earlier access of the master
waits (R34)? -/
def PortFree (m tgt : Nat) (d : Dev) : Prop :=
  reaches d m tgt = true ∧ tabFind d.ctl.ports tgt ≠ some (ctlCycle d) ∧ (d.ctl.held.any fun h => h.master == m) = false

/-- The block as a write of `acc` to object `k / 256` meets it at time `t`. -/
def atWrite (t : Ps) (acc : Access) (k : Nat) (s : State) : Dev := portTaken (masterOf acc) (targetOf (k / 256)) (arrive t s.dev)

/-- A write of bytes `b` to entry `k`, which carry the number `v`, is granted at once and refused for no cause of R849. -/
def Accepted (t : Ps) (acc : Access) (k v : Nat) (b : List Byte) (s : State) : Prop :=
  alive (arrive t s.dev) = true ∧ accOk acc = true ∧ PortFree (masterOf acc) (targetOf (k / 256)) (arrive t s.dev) ∧
    ∃ r, metRow (atWrite t acc k s) acc.path (reqId acc.req) k v true = some r ∧ leNat (b.take r.size) = v ∧
      refusal (atWrite t acc k s) { path := acc.path, req := reqId acc.req, k := k, start := 0, bytes := b } r = none

/-- Does the command act while the block is in a flush, held in reset or stopped: is it part of the power or reset sequence? -/
def inSequence : Instr → Bool
  | .pfailAccept _ => true
  | .flushDrainComplete _ => true
  | .powerReturnRestart _ => true
  | .persistDrainRecord _ => true
  | .flashProgramFail _ => true
  | .railUndervoltage _ _ => true
  | .resetNAssert _ _ => true
  | .tAbsTrip _ => true
  | .thermalSample _ _ => true
  | .bootStart _ _ _ => true
  | .perstAssert _ => true
  | .perstDeassert _ => true
  | _ => false

/-- The device time at which a command falls. -/
def timeOf : Instr → Ps
  | .compatRequestWrite t _ _ => t
  | .dictionaryWrite t _ _ _ _ _ => t
  | .defaultTargetAccess t _ _ _ _ _ => t
  | .missClear t _ _ => t
  | .refuseClear t _ _ => t
  | .masterWaitLimit t _ _ => t
  | .masterResetInBurst t _ _ _ _ _ _ => t
  | .powerEstimateUpdate t _ => t
  | .stcNowRead t _ => t
  | .mailboxGet t _ => t
  | .mailboxSet t _ => t
  | .mailboxGetInfo t _ => t
  | .mailboxGetStaged t _ => t
  | .ddpRead t _ => t
  | .ddpWrite t _ => t
  | .ddpReadInfo t _ => t
  | .segReadInit t _ => t
  | .segWriteInit t _ => t
  | .segData t _ => t
  | .segAck t _ => t
  | .segAbort t _ => t
  | .ddpBadCommand t _ => t
  | .segTransferTimeout t _ => t
  | .ddpResponseTransmit t => t
  | .busOff t => t
  | .busOffRecovery t => t
  | .dataRateApply t => t
  | .commitRequest t _ _ => t
  | .discardBasting t _ _ => t
  | .commitValidateStart t _ => t
  | .commitValidationEnd t _ => t
  | .opStart t _ _ => t
  | .opAbort t _ _ => t
  | .opRelease t _ _ => t
  | .opDispatch t _ => t
  | .slotClaimTimeout t _ => t
  | .slotResultTimeout t _ => t
  | .governorTokenTick t => t
  | .deferrableWorkDispatch t _ => t
  | .motionRefinementTile t _ _ => t
  | .llRouteRestore t _ => t
  | .rxRestart t _ _ _ => t
  | .rxTestWrite t _ _ _ => t
  | .prbsCheckWrite t _ _ _ => t
  | .rxCountClear t _ _ _ => t
  | .txTestWrite t _ _ _ => t
  | .injectError t _ _ _ => t
  | .rawDetectorChange t _ _ _ => t
  | .losDebounceAssert t _ => t
  | .losDebounceClear t _ => t
  | .lolDebounceAssert t _ => t
  | .lolDebounceClear t _ => t
  | .cdrLockQualified t _ => t
  | .candidateTimeout t _ => t
  | .alignWindowExpiry t _ => t
  | .sdiTrsReceived t _ _ => t
  | .sdiLineReceived t _ _ _ => t
  | .quadPllLossOfLock t _ _ => t
  | .txInterpolatorRealign t _ _ => t
  | .txResume t _ => t
  | .tieBlockReceived t _ _ _ => t
  | .tieLaneRejoin t _ _ => t
  | .eyeScan t _ _ => t
  | .inputFrameReceived t _ _ => t
  | .framePublish t _ => t
  | .inputSignalLoss t _ _ => t
  | .tgSeam t _ => t
  | .compositionComplete t _ => t
  | .regionRelease t _ _ _ => t
  | .sealBoundary t _ => t
  | .manifestSigned t _ => t
  | .evidenceSeal t _ => t
  | .evidenceExport t _ _ => t
  | .coefficientSetLoad t _ _ _ => t
  | .embeddedAudioPacket t _ _ => t
  | .embeddedGroupTimeout t _ _ => t
  | .sourceSyncLost t _ => t
  | .srcBypassQualified t _ => t
  | .mutedSourceReturn t _ => t
  | .embedderSlip t _ _ => t
  | .aes3FrameReceived t _ _ => t
  | .aes3Acquired t _ _ => t
  | .aes3Loss t _ _ => t
  | .aes3TxBlockBoundary t _ => t
  | .captureBlockForm t _ => t
  | .eaCountClear t _ _ _ => t
  | .arCountClear t _ _ _ => t
  | .memoryRead t _ => t
  | .pageRetirementCopyEnd t _ => t
  | .pageFree t _ => t
  | .patrolScrubPage t _ _ => t
  | .memoryScrub t _ _ => t
  | .memoryTest t _ _ => t
  | .memCountClear t _ _ => t
  | .faultRecordClear t _ _ => t
  | .pageTableQuery t _ _ => t
  | .bar4Read t _ _ _ => t
  | .bar4Write t _ _ _ => t
  | .windowGrowPage t _ => t
  | .phyRecalibrateEnd t _ => t
  | .doorbellWrite t _ _ _ => t
  | .nop t _ => t
  | .fenceLocal t _ => t
  | .fenceHost t _ => t
  | .fencePersist t _ => t
  | .exportFrame t _ _ _ => t
  | .windowToHost t _ _ => t
  | .importPlane t _ _ => t
  | .hostToWindow t _ _ => t
  | .captureBuffer t _ => t
  | .playbackBlock t _ _ => t
  | .eventBuffer t _ => t
  | .eventBufferTimeout t _ => t
  | .evidenceBuffer t _ => t
  | .completionWrite t _ => t
  | .descriptorRetire t _ => t
  | .irqHoldoffExpiry t _ => t
  | .queueEnable t _ => t
  | .queueDisable t _ => t
  | .queueDrainComplete t _ => t
  | .resumeSkip t _ => t
  | .resumeRetry t _ => t
  | .functionLevelReset t _ => t
  | .busMasterDisable t _ => t
  | .vfDisable t => t
  | .hotReset t => t
  | .functionDrainComplete t _ => t
  | .linkDown t => t
  | .linkUp t _ _ => t
  | .doeDiscovery t _ => t
  | .doeUmousaRequest t _ => t
  | .attestationReport t _ => t
  | .journalReplayRun t _ _ _ => t
  | .pllLossOfLock t _ => t
  | .pllLockConfirmed t _ _ => t
  | .xtalLoss t => t
  | .xtalReturn t => t
  | .refFramePulse t => t
  | .refQualified t _ _ => t
  | .refClkLoss t _ => t
  | .refClkChange t _ => t
  | .tgSlewComplete t _ => t
  | .timeAnchorWrite t _ _ => t
  | .anchorStale t => t
  | .ptmDialogue t _ => t
  | .pfailAccept t => t
  | .pfailGlitch t => t
  | .flushDrainComplete t => t
  | .powerReturnRestart t => t
  | .holdupSample t _ => t
  | .reserveUpdate t => t
  | .persistWriteAdmit t => t
  | .persistDrainRecord t => t
  | .ringBCopy t _ => t
  | .flashProgramFail t => t
  | .sectorEraseComplete t _ => t
  | .autoCompaction t _ => t
  | .nvCompaction t _ => t
  | .setPassword t _ _ _ => t
  | .unlock t _ _ _ => t
  | .lock t _ _ _ => t
  | .eraseAndClear t _ _ _ => t
  | .backoffExpiry t _ => t
  | .thermalSample t _ => t
  | .graceExpiry t => t
  | .shedStepAdvance t => t
  | .shedStepLift t => t
  | .tAbsTrip t => t
  | .railUndervoltage t _ => t
  | .resetNAssert t _ => t
  | .perstAssert t => t
  | .perstDeassert t => t
  | .bootStart t _ _ => t
  | .bootStepEnd t _ _ => t
  | .bootStepTimeout t => t
  | .bootHoldRetry t _ => t
  | .firmwareVerifyStage t _ _ _ _ => t
  | .recoveryExit t => t
  | .fuseReread t _ => t
  | .bootLedgerReset t _ => t
  | .ownerEnrol t _ _ _ => t
  | .ownerEnrolEnforce t _ _ _ => t
  | .ownerRevoke t _ _ _ => t
  | .enterRma t _ _ _ => t
  | .svnCommit t _ _ => t
  | .epochAdvance t _ _ => t
  | .cellRetryEnd t _ _ => t
  | .blockWatchdogExpiry t _ => t
  | .regionTimeoutExpiry t _ => t
  | .chipTimeoutExpiry t _ => t
  | .recoveryCommitPoint t _ => t
  | .recoveryEnd t _ _ => t
  | .recoveryBudgetSpent t _ => t
  | .logClear t _ _ => t
  | .vfEnable t _ => t
  | .refClkPresent t _ => t
  | .rootLossOfLock t => t
  | .canBusError t _ => t
  | .prbsSyncGained t _ => t
  | .prbsSyncLost t _ _ _ => t
  | .playbackGap t _ => t
  | .audioClockSlewEnd t => t
  | .stcSlewEnd t => t
  | .gpioInSample t _ => t
  | .flashEraseFail t _ => t

end Sys2Proof.Machine
end

