-- ==== Sys2Proof/Certificates/Slice0/Obligations.lean ====
section
/-! DEFINITION. The statements about the block that are to be proved. In each, `arrive t s.dev` is the block at the instant of the
command, when what waited for the bus matrix has been served, `Makes` says that the command answers a next state with queue and frame memory unchanged, and `Accepted` that no cause of R849
refuses a write. -/

open Sys2Proof Sys2Proof.Machine

/-! ## The machine as a whole -/

/-- A step with a command at the front of the queue is `exec` of that command on the state with the queue's rest. -/
def Obligations.StepRunsFront : Prop :=
  ∀ (c : Instr) (s : State), step (s.withFront c) = exec c s

/-- A step on an empty queue moves device time on by one CK_FAB cycle, in which the bus matrix serves what waits for it; where nothing
waits it changes no entry (DESIGN CHOICE, log entry 22). -/
def Obligations.IdleStepTicks : Prop :=
  ∀ s : State, s.pending = [] →
    step s = .next { s with dev := arrive (s.dev.now + 1250) s.dev } ∧
    (s.dev.ctl.held = [] →
      ∃ d, step s = .next { s with dev := d } ∧ d.now = s.dev.now + 1250 ∧ Entries [] s.dev d ∧
        { d with now := s.dev.now, stcFp := s.dev.stcFp } = s.dev)

/-- Frame memory of the block right after reset is in canonical form. -/
def Obligations.ResetInv : Prop := State.reset.Inv

/-- Every step keeps frame memory in canonical form, whatever the state and the commands. -/
def Obligations.StepKeepsInv : Prop :=
  ∀ s t : State, s.Inv → step s = .next t → t.Inv

/-- A command never changes the queue: what waits behind it still waits, in order. -/
def Obligations.ExecKeepsQueue : Prop :=
  ∀ (c : Instr) (s t : State), exec c s = .next t → t.pending = s.pending

/-- A command answers a next state exactly when its operands are well formed; otherwise it stops with the fault `badOperand`, in every
state. No command is refused. -/
def Obligations.WellFormedExactly : Prop :=
  ∀ (c : Instr) (s : State),
    (WellFormed c = true → ∃ t, exec c s = .next t) ∧
    (WellFormed c = false → ∃ w, exec c s = .fault (.badOperand w))

/-- A queue of well-formed commands runs to its end from any state: after `n` steps the first `n` commands have left the queue. -/
def Obligations.QueueRunsOut : Prop :=
  ∀ (n : Nat) (s : State), s.Ready → ∃ t, core.run n s = .next t ∧ t.pending = s.pending.drop n ∧ t.Ready

/-- Frame memory changes only by BAR4_WRITE, HOST_TO_WINDOW, WINDOW_GROW_PAGE and PAGE_RETIREMENT_COPY_END: after any other command every
byte reads as before. -/
def Obligations.MemoryFrame : Prop :=
  ∀ (c : Instr) (s t : State), exec c s = .next t →
    (∀ t' fn o b, c ≠ .bar4Write t' fn o b) → (∀ t' x h, c ≠ .hostToWindow t' x h) → (∀ t' w, c ≠ .windowGrowPage t' w) →
    (∀ t' p, c ≠ .pageRetirementCopyEnd t' p) → ∀ a, memGet t.mem a = memGet s.mem a

/-- While the block is in a flush, held in reset or stopped, a command that is not part of the power or reset sequence changes nothing but
time, in which what waits for the bus matrix is dropped. -/
def Obligations.DeadBlockIgnores : Prop :=
  ∀ (c : Instr) (s : State), WellFormed c = true → inSequence c = false → alive (arrive (timeOf c) s.dev) = false →
    exec c s = .next { s with dev := arrive (timeOf c) s.dev } ∧
    (s.dev.ctl.held = [] → exec c s = .next { s with dev := advance (timeOf c) s.dev }) ∧
    (alive s.dev = false → Entries [] s.dev (arrive (timeOf c) s.dev) ∧ (arrive (timeOf c) s.dev).host = s.dev.host ∧
      (arrive (timeOf c) s.dev).nv = s.dev.nv ∧ (arrive (timeOf c) s.dev).body = s.dev.body)

/-- What reset leaves: every entry at its default, where the manual states none the model's choice (log entry 6); boot at step S01, no
dictionary, no slot owned; every byte of frame memory reads 0x00 (the model's choice, log entry 5) (R63, R770, R771). -/
def Obligations.ResetEntries : Prop :=
  (∀ k, rd State.reset.dev k = dflt k) ∧ rd State.reset.dev K.x1C40_BOOT_STEP = 1 ∧ rd State.reset.dev K.x1001_DICT_STATE = 0 ∧
    rd State.reset.dev K.x5000_STAGE_FREE = 16384 ∧ (∀ s : Fin 64, rd State.reset.dev (K.slot_OWNER s) = 0xFFFF) ∧
    (∀ a, memGet State.reset.mem a = 0) ∧ State.reset.pending = []

/-- The control bus matrix: an access whose target has been taken in this CK_CTL cycle waits, with no effect yet; a master that is
preferred at a target is served there before any other; otherwise the replay engine, the control processors, PCIe, DDP and debug are
served in this order; a target serves one master per cycle (R34, R35, R37). MASTER_WAIT_LIMIT and MASTER_RESET_IN_BURST complete: a master
that has waited 64 CK_CTL cycles goes before the others at its target and nothing else changes; one that is reset in a burst leaves an
event with the beats not made, and its journal entry is to be replayed (R35, R809). -/
def Obligations.BusMatrix : Prop :=
  (∀ (t : Ps) (s : State),
       let d₀ := arrive t s.dev
       (∀ (acc : Access) (i : Fin 65536) (sub : Fin 256) (start : Fin 16) (b : List Byte), alive d₀ = true → accOk acc = true →
         reaches d₀ (masterOf acc) (targetOf i) = true → tabFind d₀.ctl.ports (targetOf i) = some (ctlCycle d₀) →
         Makes (.dictionaryWrite t acc i sub start b) s fun d => Entries [] d₀ d ∧ d.ctl.held = d₀.ctl.held ++
           [{ target := targetOf i, master := masterOf acc, since := ctlCycle d₀
              req := .write acc (i * 256 + sub) start b (tokenVerified b) }]) ∧
       (∀ (d : Dev), let first := oldestOfEach d.ctl.held []
         (∀ h ∈ first, d.ctl.preferred.head? = some (h.target, h.master) → h ∈ winners d) ∧
         (∀ g ∈ first, ∀ h ∈ first, d.ctl.preferred = [] → g.target = h.target → masterRank d g.master < masterRank d h.master →
           h ∉ winners d) ∧
         masterRank d 6 = 0 ∧ (∀ m, 2 ≤ m → m ≤ 5 → 1 ≤ masterRank d m ∧ masterRank d m ≤ 4) ∧ masterRank d 0 = 5 ∧ masterRank d 1 = 6 ∧
         masterRank d 7 = 7)) ∧
  (∀ (t : Ps) (m : Fin 8) (s : State),
       let d₀ := arrive t s.dev
       alive d₀ = true →
       (∀ (g : Fin 9) h, h ∈ d₀.ctl.held → h.master = m.val → h.target = g.val → h.since + 64 ≤ ctlCycle d₀ →
         d₀.ctl.preferred.contains (g.val, m.val) = false → Makes (.masterWaitLimit t m g) s fun d => d.ctl.preferred = d₀.ctl.preferred ++ [(g.val, m.val)] ∧
           d.ctl.held = d₀.ctl.held ∧ { d with ctl := d₀.ctl } = { d₀ with ctl := d₀.ctl }) ∧
       (∀ (w : Bool) (beats done : Fin 9) (entry : Nat) (op : Option Nat), 1 ≤ beats.val → done.val < beats.val → entry < 2 ^ 24 →
         Makes (.masterResetInBurst t m w beats done entry op) s fun d =>
           newestEvent d 0x16 entry (beats.val - done.val) [BitVec.ofNat 8 m] ∧
           d.jr.entries = d₀.jr.entries.map (fun e => if op = some e.opSeq then { e with jstate := 3 } else e) ∧
           ∀ j, isLost j = false → rd d j = rd d₀ j))

/-! ## Access to the dictionary -/

/-- The commands that clear counts set the entries their rules name to 0 and change no other entry and nothing else of the block; a PRBS
checker that is synchronised counts from there (R41, R73, R204, R500, R517, R583, R584). -/
def Obligations.CountsClear : Prop :=
  ∀ (t : Ps) (acc : Access) (b : List Byte) (port : Fin 128) (unit : Fin 16) (s : State),
    let d₀ := arrive t s.dev
    let zeros (i a n : Nat) : Tab Nat := (List.range n).map fun j => (i * 256 + a + j, 0)
    let clears (c : Instr) (k : Nat) (l : Tab Nat) : Prop :=
      Accepted t acc k 1 b s → Makes c s fun d => Entries l d₀ d ∧ SameRest (atWrite t acc k s) d
    clears (.missClear t acc b) K.x1C20_CLEAR (zeros 0x1C20 1 5) ∧
    clears (.refuseClear t acc b) K.x1C21_CLEAR (zeros 0x1C21 1 5) ∧
    clears (.memCountClear t acc b) K.x3800_COUNT_CLEAR (zeros 0x3800 9 8) ∧
    clears (.faultRecordClear t acc b) K.x3806_CLEAR (zeros 0x3806 1 7) ∧
    clears (.eaCountClear t acc port b) (K.ea_COUNT_CLEAR port) (zeros (0x3500 + port) 6 2) ∧
    clears (.arCountClear t acc unit b) (K.ar_COUNT_CLEAR unit) (zeros (0x3410 + unit) 0xC 5) ∧
    (Accepted t acc (K.rx_COUNT_CLEAR port) 1 b s → Makes (.rxCountClear t acc port b) s fun d =>
      let a := atWrite t acc (K.rx_COUNT_CLEAR port) s
      Entries (zeros (0x2000 + port) 0xD 3 ++ zeros (0x2000 + port) 0x11 2) d₀ d ∧ (rx d port).prbsAt = d₀.now ∧
        { d with od := a.od, lanes := a.lanes } = a)

/-- DEFAULT_TARGET_ACCESS counts the miss and, when no lower master was recorded in the CK_CTL cycle, records its address, master, kind
and time; a function's aperture access is answered with an Unsupported Request, a read of another master but DDP with a bus error (R38,
R39, R41, R42). No refusal is recorded. An aperture read that meets its slots is answered with their bytes (R62, R65). -/
def Obligations.MissRecorded : Prop :=
  ∀ (t : Ps) (acc : Access) (a : Nat) (read : Option Nat) (s : State),
    let d₀ := arrive t s.dev
    let m := masterOf acc
    let c : Instr := .defaultTargetAccess t acc.proc acc.path acc.req a read
    let served := if acc.path = .aperture then read.bind fun n => apertureRead (reqId acc.req) a n d₀ else none
    alive d₀ = true → accOk acc = true → reaches d₀ m 0 = true →
    let count : Nat × Nat := (K.x1C20_MISS_COUNT, min (rd d₀ K.x1C20_MISS_COUNT + 1) 0xFFFFFFFF)
    (served = none → Makes c s fun d =>
      Entries (if recordsNow d₀ d₀.ctl.missCycle m then
          [count, (K.x1C20_LAST_ADDRESS, a), (K.x1C20_LAST_MASTER, m), (K.x1C20_LAST_KIND, if read = none then 1 else 0),
            (K.x1C20_LAST_STC, stcNs d₀)]
        else [count]) d₀ d ∧
      (recordsNow d₀ d₀.ctl.missCycle m → d.ctl.missCycle = some (ctlCycle d₀, m)) ∧
      d.host.out = (if acc.path = .aperture then .unsupported (reqId acc.req) :: d₀.host.out else d₀.host.out) ∧
      d.ctl.busErrors = if acc.path ≠ .aperture ∧ 2 ≤ m ∧ read ≠ none then (m, a) :: d₀.ctl.busErrors else d₀.ctl.busErrors) ∧
    (∀ v d', served = some (v, d') → Makes c s fun d => d = toHost (.readData (reqId acc.req) v false) d')

/-- A write that a cause of R849 refuses is recorded in [1C21] with that cause and changes no other entry; nothing of its data is kept
(R73, R74). -/
def Obligations.RefusedWriteRecorded : Prop :=
  ∀ (t : Ps) (acc : Access) (i : Fin 65536) (sub : Fin 256) (start : Fin 16) (b : List Byte) (s : State) (r : Row) (c : Nat),
    let d₀ := arrive t s.dev
    let k := i.val * 256 + sub.val
    let w : Put := { path := acc.path, req := reqId acc.req, k := k, start := start.val, bytes := b }
    alive d₀ = true → accOk acc = true → PortFree (masterOf acc) (targetOf i) d₀ →
    metRow d₀ acc.path (reqId acc.req) k (leNat (b.take r.size)) true = some r → refusal d₀ w r = some c →
    let count : Nat × Nat := (K.x1C21_REFUSE_COUNT, min (rd d₀ K.x1C21_REFUSE_COUNT + 1) 0xFFFFFFFF)
    Makes (.dictionaryWrite t acc i sub start b) s fun d =>
      Entries (if recordsNow d₀ d₀.ctl.refuseCycle (reqId acc.req) then
          [count, (K.x1C21_LAST_ENTRY, k), (K.x1C21_LAST_REQUESTER, reqId acc.req), (K.x1C21_LAST_REASON, c),
            (K.x1C21_LAST_STC, stcNs d₀)]
        else [count]) d₀ d ∧
      (recordsNow d₀ d₀.ctl.refuseCycle (reqId acc.req) → d.ctl.refuseCycle = some (ctlCycle d₀, reqId acc.req)) ∧
      d.body = d₀.body ∧ d.ctl.basting = d₀.ctl.basting ∧ d.nv = d₀.nv ∧
      d.host = d₀.host

/-- A write that RECOVERY or the absence of a dictionary does not allow is refused with NOT_READY, before every other cause; one that the
requester may not make with NOT_PERMITTED next; one to an entry of class LONG with USE_LONG_OP; then READ_ONLY, LOCKED, TOO_LARGE,
TYPE_LENGTH and, for a write that is not staged, RANGE (R849). -/
def Obligations.RefusalOrder : Prop :=
  ∀ (d : Dev) (w : Put) (r : Row),
    let v := w.num r
    let no := notReady d w.path w.req w.k v r
    let np := notPermitted d w.path w.req w.k v
    let ro := readOnly w.path r w.start w.bytes.length
    let lk := locked d w.req w.k v
    let big := tooLarge d w.path w.k r w.big
    let pass := no = false ∧ np = false ∧ r.cls ≠ .long ∧ ro = false ∧ lk = false ∧ big = false
    let ln := lengthOk w.path r w.start w.bytes.length
    (refusal d w r = some 4 ↔ pass ∧ ln = false) ∧
    (refusal d w r = some 5 ↔ pass ∧ ln = true ∧ r.acc ≠ .rws ∧ valueOk d w.req w.k r v w.bytes = false) ∧
    (refusal d w r = some 7 ↔ no = true) ∧ (refusal d w r = some 8 ↔ no = false ∧ np = true) ∧
    (refusal d w r = some 6 ↔ no = false ∧ np = false ∧ r.cls = .long) ∧
    (refusal d w r = some 2 ↔ no = false ∧ np = false ∧ r.cls ≠ .long ∧ ro = true) ∧
    (refusal d w r = some 0xF ↔ no = false ∧ np = false ∧ r.cls ≠ .long ∧ ro = false ∧ lk = true) ∧
    (refusal d w r = some 0xE ↔ no = false ∧ np = false ∧ r.cls ≠ .long ∧ ro = false ∧ lk = false ∧ big = true)

/-- A write to a staged entry, with room in the store, puts the value in the writer's basting without a range check and changes no entry;
DISCARD_BASTING empties that basting (R71, R102, R108). -/
def Obligations.StagingKeepsEntries : Prop :=
  ∀ (t : Ps) (acc : Access) (i : Fin 65536) (sub : Fin 256) (v : Nat) (b : List Byte) (s : State) (r : Row),
    let d₀ := arrive t s.dev
    let k := i.val * 256 + sub.val
    let q := reqId acc.req
    (Accepted t acc k v b s → entryRow d₀ k = some r → r.acc = .rws → r.ty ≠ .domain → stageRoom d₀ q k (b.take r.size).length = true →
      Makes (.dictionaryWrite t acc i sub 0 b) s fun d =>
        Entries [] d₀ d ∧ stagedValue d q k = some (b.take r.size) ∧
        (∀ k', k' ≠ k → stagedValue d q k' = stagedValue d₀ q k') ∧ ∀ q', q' ≠ q → basting d q' = basting d₀ q') ∧
    (Accepted t acc K.x5000_DISCARD_BASTING 1 b s →
      Makes (.discardBasting t acc b) s fun d =>
        Entries [] d₀ d ∧ basting d q = {} ∧ ∀ q', q' ≠ q → basting d q' = basting d₀ q')

/-- Each requester has its own staged copy of every RWS entry: a staged write of one leaves what every other has staged (R102). -/
def Obligations.StagedCopies : Prop :=
  ∀ (t : Ps) (acc : Access) (i : Fin 65536) (sub : Fin 256) (v : Nat) (b : List Byte) (s : State) (r : Row),
    let d₀ := arrive t s.dev
    let k := i.val * 256 + sub.val
    Accepted t acc k v b s → entryRow d₀ k = some r → r.acc = .rws → Makes (.dictionaryWrite t acc i sub 0 b) s fun d =>
      ∀ q k', q ≠ reqId acc.req → stagedValue d q k' = stagedValue d₀ q k'

/-- STC_NOW_READ completes: through the aperture, where the function may read the entry, it is answered with the STC of its instant: eight
bytes of nanoseconds, two of fraction, six of zero; on another path, its target's port free, the read takes that port and changes nothing
else (R33, R34, R672). -/
def Obligations.StcReadAnswers : Prop :=
  ∀ (t : Ps) (acc : Access) (s : State),
    let d₀ := arrive t s.dev
    alive d₀ = true → accOk acc = true →
    (acc.path = .aperture → mayRead d₀ (reqId acc.req) K.x1460_STC_NOW = true → Makes (.stcNowRead t acc) s fun d =>
        d = toHost (.readData (reqId acc.req) (natLE 8 (stcNs d₀) ++ natLE 2 (stcFrac d₀) ++ List.replicate 6 0) false) d₀) ∧
    (acc.path ≠ .aperture → mayRead d₀ (reqId acc.req) K.x1460_STC_NOW = true → PortFree (masterOf acc) 4 d₀ →
      Makes (.stcNowRead t acc) s fun d => d = portTaken (masterOf acc) 4 d₀ ∧ Entries [] d₀ d)

/-- What a written value does to the boot configuration, the fuses, the keys and the fault log: COMPAT_REQUEST is stored for the next
deassertion of reset, SVN_COMMIT raises the fused security version, EPOCH_ADVANCE steps KEY_EPOCH, LOG_CLEAR empties the log (R2, R793,
R789, R821). An owner token that acts burns the fuses its ACTION names: enrol, enrol and enforce, revoke, enter RMA; the first three step
KEY_EPOCH (R789, R790, R791). -/
def Obligations.SecurityWrites : Prop :=
  (∀ (t : Ps) (acc : Access) (v : Nat) (b : List Byte) (s : State),
       let d₀ := arrive t s.dev
       (Accepted t acc K.x1000_COMPAT_REQUEST v b s →
         Makes (.compatRequestWrite t acc b) s fun d =>
           rd d K.x1000_COMPAT_REQUEST = v ∧ d.nv.bootCfg = setAt d₀.nv.bootCfg 2 v ∧ d.boot.compat = d₀.boot.compat) ∧
       (Accepted t acc K.x1800_SVN_COMMIT 1 b s →
         Makes (.svnCommit t acc b) s fun d =>
           d.boot.otp.svn = max d₀.boot.otp.svn (min d₀.boot.fwSvn 63) ∧ rd d K.x1800_OTP_SVN = d.boot.otp.svn ∧
           d.boot.otp.slots = d₀.boot.otp.slots ∧ d.boot.otp.policy = d₀.boot.otp.policy) ∧
       (Accepted t acc K.x1802_EPOCH_ADVANCE 1 b s →
         Makes (.epochAdvance t acc b) s fun d => d.ev.epoch = (d₀.ev.epoch + 1) % 2 ^ 32 ∧ d.ev.chains = d₀.ev.chains) ∧
       (Accepted t acc K.x1C10_LOG_CLEAR 1 b s →
         Makes (.logClear t acc b) s fun d =>
           d.nv.faults = [] ∧ d.oldFaults = [] ∧ d.evClearedAt = d₀.evSeq ∧
           Entries [(K.x1C10_MAX_INTERRUPT_US, 0), (K.x1C10_INTERRUPTIONS, 0), (K.x1C10_ESCALATIONS, 0)] d₀ d)) ∧
  (∀ (t : Ps) (acc : Access) (v : Nat) (b : List Byte) (sig : SigCheck) (s : State),
       let d₀ := arrive t s.dev
       let slot := leAt b 4 1
       let o := d₀.boot.otp
       Accepted t acc K.x1800_OWNER_TOKEN v b s → tokenOk (sig.vendorKeyKnown && sig.vendorSigs) b (atWrite t acc K.x1800_OWNER_TOKEN s) = true →
       let free := bitAt o.slots slot = false ∧ bitAt o.slots (slot + 4) = false
       let enrolled (d : Dev) : Prop :=
         d.boot.otp.slots = setBitAt o.slots slot true ∧ tabFind d.boot.otp.keys slot = some (slice 40 32 b) ∧
           d.ev.epoch = (d₀.ev.epoch + 1) % 2 ^ 32
       (leAt b 5 1 = 1 → free → Makes (.ownerEnrol t acc b sig) s fun d => enrolled d ∧ d.boot.otp.policy = o.policy) ∧
       (leAt b 5 1 = 2 → free → Makes (.ownerEnrolEnforce t acc b sig) s fun d => enrolled d ∧ d.boot.otp.policy = 1) ∧
       (leAt b 5 1 = 3 → Makes (.ownerRevoke t acc b sig) s fun d =>
         d.boot.otp.slots = setBitAt o.slots (slot + 4) true ∧ tabFind d.boot.otp.keys slot = none ∧
           d.ev.epoch = (d₀.ev.epoch + 1) % 2 ^ 32) ∧
       (leAt b 5 1 = 4 → Makes (.enterRma t acc b sig) s fun d =>
         d.boot.otp.lifecycle = 3 ∧ rd d K.x1800_LIFECYCLE = 3 ∧ d.boot.otp.slots = o.slots ∧ d.ev.epoch = d₀.ev.epoch))

/-- The passwords of a user partition: SET_PASSWORD takes a mode and a password under a fresh SALT or removes both, UNLOCK by the right
password lets its requester in and clears FAILURES, LOCK ends that, ERASE_AND_CLEAR empties the body and removes the password (R740 to
R743). A back-off that has ended lets attempts in again (R741). -/
def Obligations.UserPartitions : Prop :=
  (∀ (t : Ps) (acc : Access) (u : Fin 4) (v : Nat) (b : List Byte) (s : State),
       let d₀ := arrive t s.dev
       let q := reqId acc.req
       let x := user d₀ u
       (Accepted t acc (K.up_SET_PASSWORD u) v b s → leAt b 0 1 = 0 →
         Makes (.setPassword t acc u b) s fun d =>
           rd d (K.up_PROTECT_MODE u) = 0 ∧ (user d u).salt = [] ∧ (user d u).hash = [] ∧ (user d u).unlocked = x.unlocked) ∧
       (Accepted t acc (K.up_SET_PASSWORD u) v b s → 1 ≤ leAt b 0 1 → leAt b 0 1 ≤ 3 → 8 ≤ leAt b 1 1 → leAt b 1 1 ≤ 32 →
         (b.drop (2 + leAt b 1 1)).all (· == 0) = true →
         let salt := natLE 16 (Config.salt d₀.free).toNat
         Makes (.setPassword t acc u b) s fun d =>
           rd d (K.up_PROTECT_MODE u) = leAt b 0 1 ∧ (user d u).salt = salt ∧
           (user d u).hash = sha256 (salt ++ slice 2 (leAt b 1 1) b)) ∧
       (Accepted t acc (K.up_UNLOCK u) v b s → x.backoffEnd = none → leAt b 0 1 ≤ 32 → x.hash ≠ [] →
         sha256 (x.salt ++ slice 1 (leAt b 0 1) b) = x.hash →
         Makes (.unlock t acc u b) s fun d =>
           rd d (K.up_FAILURES u) = 0 ∧ (user d u).unlocked = q :: x.unlocked.filter (· != q) ∧ (user d u).backoffLen = 0) ∧
       (Accepted t acc (K.up_LOCK u) 1 b s →
         Makes (.lock t acc u b) s fun d => (user d u).unlocked = x.unlocked.filter (· != q) ∧ Entries [] d₀ d) ∧
       (Accepted t acc (K.up_ERASE_AND_CLEAR u) 1 b s →
         Makes (.eraseAndClear t acc u b) s fun d =>
           rdB d (K.up_BODY u) = [] ∧ rd d (K.up_PROTECT_MODE u) = 0 ∧ rd d (K.up_FAILURES u) = 0 ∧ user d u = {})) ∧
  (∀ (t : Ps) (u : Fin 4) (s : State) (e : Ps),
       let d₀ := arrive t s.dev
       alive d₀ = true → (user d₀ u).backoffEnd = some e → e ≤ d₀.now →
       Makes (.backoffExpiry t u) s fun d =>
         (user d u).backoffEnd = none ∧ (user d u).backoffLen = 0 ∧ (user d u).unlocked = (user d₀ u).unlocked ∧
           rd d (K.up_FAILURES u) = rd d₀ (K.up_FAILURES u))

/-! ## Commits and long-operation slots -/

/-- OP_START on a slot whose requester may write it queues a known operation and clears what the last run left; COMMIT_REQUEST queues a
commit of the writer's basting; an unknown code fails at once (R109, R129, R132, R139). OP_DISPATCH: a queued operation enters RUNNING,
with a journal entry, or ends at once where its chapter's check fails (R132, R697). A boot ledger reset that the physical function asks
for and an attestation report that its requester may have do run. -/
def Obligations.SlotsRun : Prop :=
  (∀ (t : Ps) (acc : Access) (slot : Fin 64) (b : List Byte) (s : State),
       let d₀ := arrive t s.dev
       let q := reqId acc.req
       let op := rd d₀ (K.slot_OPCODE slot)
       let owner := if slotState d₀ slot = 0 ∧ rd d₀ (K.slot_OWNER slot) = 0xFFFF then q else rd d₀ (K.slot_OWNER slot)
       (Accepted t acc (K.slot_CONTROL slot) 1 [1] s → op ≠ 1 → knownOps.contains op = true →
         Makes (.opStart t acc slot) s fun d =>
           slotState d slot = 1 ∧ slotCount d slot = 0 ∧ rd d (K.slot_ABORT_RESULT slot) = 0 ∧ rd d (K.slot_OWNER slot) = owner ∧
           (∀ i, i < 240 → rd d (K.slot_RESULT slot i) = 0) ∧ rd d (K.slot_OPCODE slot) = op) ∧
       (Accepted t acc (K.slot_CONTROL slot) 1 [1] s → knownOps.contains op = false →
         Makes (.opStart t acc slot) s fun d => slotState d slot = 4) ∧
       (Accepted t acc K.x5000_COMMIT_REQUEST slot.val b s → owner = q → (basting d₀ q).items ≠ [] →
         Makes (.commitRequest t acc b) s fun d =>
           slotState d slot = 1 ∧ rd d (K.slot_OPCODE slot) = 1 ∧ rd d (K.slot_OWNER slot) = q ∧
           d.ctl.commits = d₀.ctl.commits ++ [{ slot := slot.val, req := q, granted := d₀.ctl.granted + 1 }] ∧
           basting d q = basting d₀ q)) ∧
  (∀ (t : Ps) (slot : Fin 64) (s : State),
       let d₀ := arrive t s.dev
       alive d₀ = true → slotState d₀ slot = 1 →
       d₀.jr.entries.length < 32768 →
       let op := rd d₀ (K.slot_OPCODE slot)
       let runs (d : Dev) : Prop :=
         slotState d slot = 2 ∧ (slotRun d slot).op = op ∧ d.jr.entries.length = d₀.jr.entries.length + 1
       (op = 0x80 → rd d₀ (K.slot_OWNER slot) = 0 → Makes (.opDispatch t slot) s runs) ∧
       (op = 0x60 → mayAttest d₀ (rd d₀ (K.slot_OWNER slot)) = true → Makes (.opDispatch t slot) s runs) ∧
       (op = 0x20 → arg d₀ slot 6 ≤ 255 → Makes (.opDispatch t slot) s runs) ∧
       (op = 0x20 → 255 < arg d₀ slot 6 → Makes (.opDispatch t slot) s fun d => slotState d slot = 4 ∧ arg d slot 0xF = 1))

/-- OP_ABORT: on a slot that neither waits nor runs it reads 0x03 in [slot:05]; a queued operation stops at once; a running one is asked
to stop at its next safe point (R135, R136, R137). OP_RELEASE makes an owned slot IDLE and unowned (R131). The slot timeouts of R131: a
claimed slot not started for 10 s becomes unowned, one not released for 10 s after its end returns to IDLE, unowned, with COUNT 0. -/
def Obligations.SlotsEnd : Prop :=
  (∀ (t : Ps) (acc : Access) (slot : Fin 64) (s : State),
       let d₀ := arrive t s.dev
       (Accepted t acc (K.slot_CONTROL slot) 2 [2] s → slotState d₀ slot ≠ 1 → slotState d₀ slot ≠ 2 →
         Makes (.opAbort t acc slot) s fun d => rd d (K.slot_ABORT_RESULT slot) = 3 ∧ slotState d slot = slotState d₀ slot) ∧
       (Accepted t acc (K.slot_CONTROL slot) 2 [2] s → slotState d₀ slot = 1 → rd d₀ (K.slot_OPCODE slot) ≠ 1 →
         Makes (.opAbort t acc slot) s fun d => slotState d slot = 5 ∧ rd d (K.slot_ABORT_RESULT slot) = 1) ∧
       (Accepted t acc (K.slot_CONTROL slot) 2 [2] s → slotState d₀ slot = 2 → rd d₀ (K.slot_OPCODE slot) ≠ 1 →
         (slotRun d₀ slot).op ≠ 0x20 → (slotRun d₀ slot).op ≠ 0x70 →
         Makes (.opAbort t acc slot) s fun d => (slotRun d slot).abortAsked = true ∧ Entries [] d₀ d) ∧
       (∀ c, Accepted t acc (K.slot_CONTROL slot) 2 [2] s → slotState d₀ slot = 1 ∨ slotState d₀ slot = 2 →
         rd d₀ (K.slot_OPCODE slot) = 1 → commitIn d₀ slot = some c → c.phase ≠ 2 → c.arming = none →
         Makes (.opAbort t acc slot) s fun d =>
           slotState d slot = 5 ∧ rd d (K.slot_ABORT_RESULT slot) = 1 ∧ arg d slot 7 = 5 ∧
           d.ctl.commits = d₀.ctl.commits.filter fun x => x.slot != slot.val) ∧
       (Accepted t acc (K.slot_CONTROL slot) 3 [3] s → rd d₀ (K.slot_OWNER slot) ≠ 0xFFFF →
         Makes (.opRelease t acc slot) s fun d =>
           slotState d slot = 0 ∧ slotCount d slot = 0 ∧ rd d (K.slot_OWNER slot) = 0xFFFF)) ∧
  (∀ (t : Ps) (slot : Fin 64) (s : State),
       let d₀ := arrive t s.dev
       alive d₀ = true →
       (slotState d₀ slot = 0 → rd d₀ (K.slot_OWNER slot) ≠ 0xFFFF → (slotRun d₀ slot).claimedAt + sec 10 ≤ d₀.now →
         Makes (.slotClaimTimeout t slot) s fun d =>
           Entries [(K.slot_OWNER slot, 0xFFFF)] d₀ d ∧ SameRest d₀ d) ∧
       (3 ≤ slotState d₀ slot → (slotRun d₀ slot).endedAt + sec 10 ≤ d₀.now →
         Makes (.slotResultTimeout t slot) s fun d =>
           slotState d slot = 0 ∧ slotCount d slot = 0 ∧ rd d (K.slot_OWNER slot) = 0xFFFF ∧
           ∀ j, j ≠ K.slot_OWNER slot → j ≠ K.slot_STATUS slot → rd d j = rd d₀ j))

/-- COMMIT_VALIDATE_START: the oldest granted commit, with none validating before it, takes the next sequence number and snapshots its
requester's basting, which is then empty (R110, R111). COMMIT_VALIDATION_END: a commit that fails a check is REJECTED, applies nothing and
gives its snapshot back; one asked to validate only reads DONE and gives it back too (R112, R114, R115). -/
def Obligations.CommitPhases : Prop :=
  (∀ (t : Ps) (slot : Fin 64) (s : State) (c : Commit),
       let d₀ := arrive t s.dev
       alive d₀ = true → commitIn d₀ slot = some c → c.phase = 0 →
       d₀.ctl.commits.any (fun x => x.phase == 1 || (x.phase == 0 && decide (x.granted < c.granted))) = false →
       d₀.jr.entries.length < 32768 → (basting d₀ c.req).items ≠ [] →
       Makes (.commitValidateStart t slot) s fun d =>
         (∃ c', commitIn d slot = some c' ∧ c'.phase = 1 ∧ c'.seq = d₀.ctl.seqNext ∧ c'.snap = (basting d₀ c.req).items ∧
           c'.req = c.req) ∧
         basting d c.req = {} ∧ d.ctl.seqNext = d₀.ctl.seqNext + 1 ∧ rd d K.x5000_LAST_COMMIT_SEQ = d₀.ctl.seqNext ∧
         slotState d slot = 2 ∧ arg d slot 7 = 1 ∧ arg d slot 0xA = d₀.ctl.seqNext) ∧
  (∀ (t : Ps) (slot : Fin 64) (s : State) (c : Commit),
       let d₀ := arrive t s.dev
       alive d₀ = true → commitIn d₀ slot = some c → c.phase = 1 →
       c.arming = none → c.overflow = false → c.slot = slot.val →
       let v := validate d₀ c.req c.snap
       let ended (st : Nat) (d : Dev) : Prop :=
         slotState d slot = st ∧ arg d slot 7 = st ∧ d.ctl.commits = d₀.ctl.commits.filter (fun x => x.slot != slot.val) ∧
           d.body = d₀.body ∧ ∀ k, stagedValue d c.req k = (stagedValue d₀ c.req k).or ((c.snap.find? fun x => x.key == k).map (·.val))
       Makes (.commitValidationEnd t slot) s fun d => (v.fails ≠ [] → ended 4 d) ∧ (v.fails = [] → c.validateOnly = true → ended 3 d))

/-! ## The budget governor, deferrable work and the long operations -/

/-- GOVERNOR_TOKEN_TICK issues the tokens of one millisecond, held to the bucket; POWER_ESTIMATE_UPDATE sets the eight estimates;
GPIO_IN_SAMPLE takes the levels at the balls, of a driving pin its own; PFAIL_GLITCH counts a pulse too short to accept: nothing else of
the block's entries changes (R47, R182, R183, R680, R841). DEFERRABLE_WORK_DISPATCH pays for one unit of a kind that waits, is not shed
and finds its tokens, of host DMA to the queue whose turn it is; a kind that has its 1/64 leaves what earlier kinds ask for and the others
are owed; without the tokens it stops the kind once and counts the stop, but for motion refinement (R185, R186, R609). -/
def Obligations.GovernorFigures : Prop :=
  (∀ (t : Ps) (s : State),
       let d₀ := arrive t s.dev
       alive d₀ = true →
       (d₀.ctl.tokensAt + ms 1 ≤ d₀.now →
         let n := tokensPerMs d₀
         Makes (.governorTokenTick t) s fun d =>
           Entries [(K.x5107_TOKENS_PER_MS, n),
             (K.x5107_TOKENS_HELD, min (rd d₀ K.x5107_TOKENS_HELD + n) (n * rd d₀ K.x5101_BUCKET_MS))] d₀ d ∧
           d.ctl.tokensAt = d₀.now) ∧
       (∀ e : PowerEstimate, d₀.ctl.estimateAt + ms 10 ≤ d₀.now → WellFormed (.powerEstimateUpdate t e) = true →
         Makes (.powerEstimateUpdate t e) s fun d =>
           Entries [(K.x1620_P_LANES, e.lanes), (K.x1620_P_MEMORY, e.memory), (K.x1620_P_COMPOSITORS, e.compositors),
             (K.x1620_P_CONVERSION, e.conversion), (K.x1620_P_INPUTS, e.inputs), (K.x1620_P_PCIE, e.pcie), (K.x1620_P_CONTROL, e.control),
             (K.x1620_P_TOTAL, e.lanes + e.memory + e.compositors + e.conversion + e.inputs + e.pcie + e.control + e.leakage)] d₀ d) ∧
       (∀ l : BitVec 32, Makes (.gpioInSample t l) s fun d =>
         Entries [(K.x1020_GPIO_IN, rd d K.x1020_GPIO_IN)] d₀ d ∧ SameRest d₀ d ∧
         ∀ n, n < 32 → bitAt (rd d K.x1020_GPIO_IN) n = if pinDrives d₀ n then pinLevel d₀ n else bitAt l.toNat n) ∧
       (Makes (.pfailGlitch t) s fun d =>
         Entries [(K.x1640_PFAIL_GLITCHES, min (rd d₀ K.x1640_PFAIL_GLITCHES + 1) 0xFFFFFFFF)] d₀ d ∧ SameRest d₀ d)) ∧
  (∀ (t : Ps) (k : WorkKind) (s : State),
       let d₀ := arrive t s.dev
       alive d₀ = true → workWaits d₀ (workRow k) = true →
       let row := workRow k
       let held := rd d₀ K.x5107_TOKENS_HELD
       (workShed d₀ row = false → workCost row ≤ held →
         (shareMet d₀ row = true → workCost row + max (earlierCost d₀ row) (owedOthers d₀ row) ≤ held) → d₀.ctl.paid.length = 6 →
         Makes (.deferrableWorkDispatch t k) s fun d =>
           Entries [(K.x5107_TOKENS_HELD, held - workCost row)] d₀ d ∧ d.ctl.stopped = setAt d₀.ctl.stopped row false ∧
           d.ctl.shareUsed = setAt d₀.ctl.shareUsed row (d₀.ctl.shareUsed.getD row 0 + workCost row) ∧
           (row ≠ 1 → d.ctl.paid.getD row 0 = d₀.ctl.paid.getD row 0 + 1) ∧
           ∀ f q, row = 1 → nextHostQueue d₀ = some (f, q) →
             tabGet 0 d.ctl.hostPaid q = tabGet 0 d₀.ctl.hostPaid q + 1 ∧ d.ctl.paid = d₀.ctl.paid) ∧
       (workShed d₀ row = false → workCost row ≤ held → shareMet d₀ row = true →
         held < workCost row + max (earlierCost d₀ row) (owedOthers d₀ row) → Makes (.deferrableWorkDispatch t k) s fun d => d = d₀) ∧
       (held < workCost row → d₀.ctl.stopped.getD row false = false → row ≠ 0 →
         Makes (.deferrableWorkDispatch t k) s fun d =>
           Entries [(K.x5107_PREEMPT_COUNT (row - 1), min (rd d₀ (K.x5107_PREEMPT_COUNT (row - 1)) + 1) 0xFFFFFFFF)] d₀ d ∧
           d.ctl.paid = d₀.ctl.paid))

/-- One unit of paid work: MOTION_REFINEMENT_TILE refines a tile of a converter that interpolates, EYE_SCAN adds one grid point to the
scan's map, also the point in progress when an abort was asked (R232, R235, R358). One page of MEMORY_SCRUB and MEMORY_TEST: a page that
is not in use, or that the test may not have, is skipped and counted in [slot:0A] (R578, R579, R580). -/
def Obligations.SmallWork : Prop :=
  (∀ (t : Ps) (s : State),
       let d₀ := arrive t s.dev
       alive d₀ = true →
       (∀ (f : Fin 32) (tile : Nat), rd d₀ (K.frc_FRC_MODE f) = 2 → rd d₀ (K.frc_ATTACH f) ≠ 0xFFFF →
         workShed d₀ 0 = false →
         tile < (tilesOf (rd d₀ (K.frc_WORK_SIZE f) / 65536) (rd d₀ (K.frc_WORK_SIZE f) % 65536)).1 *
           (tilesOf (rd d₀ (K.frc_WORK_SIZE f) / 65536) (rd d₀ (K.frc_WORK_SIZE f) % 65536)).2 →
         (conv d₀ f).refined.contains tile = false → 16 ≤ d₀.ctl.paid.getD 0 0 →
         Makes (.motionRefinementTile t f tile) s fun d =>
           (conv d f).refined = tile :: (conv d₀ f).refined ∧ d.ctl.paid.getD 0 0 = d₀.ctl.paid.getD 0 0 - 16 ∧ Entries [] d₀ d) ∧
       (∀ (slot : Fin 64) (errors : Nat), running d₀ slot 0x50 = true → eyeReady d₀ (arg d₀ slot 6) = true →
         (slotRun d₀ slot).abortAsked = false → 1 ≤ d₀.ctl.paid.getD 5 0 →
         Makes (.eyeScan t slot errors) s fun d =>
           let p := arg d₀ slot 6
           (∃ w, w % 2 ^ 40 = min errors 0xFFFFFFFFFF ∧ rdB d (K.rx_EYE_MAP p) = rdB d₀ (K.rx_EYE_MAP p) ++ natLE 8 w) ∧
           (slotRun d slot).pos = (slotRun d₀ slot).pos + 1 ∧ d.ctl.paid.getD 5 0 = d₀.ctl.paid.getD 5 0 - 1) ∧
       (∀ (slot : Fin 64) (errors : Nat), running d₀ slot 0x50 = true → eyeReady d₀ (arg d₀ slot 6) = true →
         (slotRun d₀ slot).abortAsked = true → 1 ≤ d₀.ctl.paid.getD 5 0 →
         Makes (.eyeScan t slot errors) s fun d => slotState d slot = 5 ∧ rd d (K.slot_ABORT_RESULT slot) = 1 ∧
           (rdB d (K.rx_EYE_MAP (arg d₀ slot 6))).length = (rdB d₀ (K.rx_EYE_MAP (arg d₀ slot 6))).length + 8)) ∧
  (∀ (t : Ps) (slot : Fin 64) (s : State),
       let d₀ := arrive t s.dev
       alive d₀ = true → (slotRun d₀ slot).abortAsked = false →
       let n := arg d₀ slot 9 + arg d₀ slot 0xA
       let p := arg d₀ slot 6 + n
       (∀ reads, running d₀ slot 0x40 = true → (pte d₀ p).v = false → n + 1 ≠ arg d₀ slot 7 →
         Makes (.memoryScrub t slot reads) s fun d =>
           arg d slot 0xA = arg d₀ slot 0xA + 1 ∧ arg d slot 9 = arg d₀ slot 9 ∧ slotState d slot = 2 ∧ slotCount d slot = slotCount d₀ slot) ∧
       (∀ failed, running d₀ slot 0x41 = true → testable d₀ p = false → n + 1 ≠ arg d₀ slot 7 →
         Makes (.memoryTest t slot failed) s fun d =>
           arg d slot 0xA = arg d₀ slot 0xA + 1 ∧ arg d slot 9 = arg d₀ slot 9 ∧ slotState d slot = 2) ∧
       (∀ reads, running d₀ slot 0x40 = true → (pte d₀ p).v = false → n + 1 = arg d₀ slot 7 →
         Makes (.memoryScrub t slot reads) s fun d => slotState d slot = 3 ∧ arg d slot 0xF = 0))

/-- The operations that end in one event read DONE with result 0 and leave their product: an attestation report for the requester, a
ledger entry that resets steps, a verified image in its slot, to be tried at the next start (R785, R786, R797, R798).
COEFFICIENT_SET_LOAD: a host error, a body that is not valid and a store that does not take it end the load with their codes and leave the
set; a good body goes to the persist path (R332, R333). -/
def Obligations.OperationsFinish : Prop :=
  (∀ (t : Ps) (slot : Fin 64) (s : State),
       let d₀ := arrive t s.dev
       alive d₀ = true → (slotRun d₀ slot).abortAsked = false →
       let done (d : Dev) : Prop := slotState d slot = 3 ∧ arg d slot 0xF = 0
       let failed (c : Nat) (d : Dev) : Prop := slotState d slot = 4 ∧ arg d slot 0xF = c
       (running d₀ slot 0x60 = true → Makes (.attestationReport t slot) s fun d => done d ∧
         tabFind d.ctl.report (rd d₀ (K.slot_OWNER slot)) = some (umousa ([6, 7, 8, 9].flatMap fun a => natLE 8 (arg d₀ slot a)) d₀).1) ∧
       (running d₀ slot 0x80 = true → Makes (.bootLedgerReset t slot) s fun d => done d ∧
         d.nv.ledger = d₀.nv.ledger ++ [{ reset := true, mask := arg d₀ slot 6 % 2 ^ 32, startSeq := startSeqNow d₀ }]) ∧
       (∀ (b : List Byte) (sig : SigCheck) (x : FwSlot), running d₀ slot 0x10 = true →
         imageSlot sig b (arg d₀ slot 7) = some x → d₀.boot.fuseFail = false → fwAllowed d₀ x = true →
         Makes (.firmwareVerifyStage t slot (.ok b) sig true) s fun d => done d ∧
           tabFind d.nv.fw (arg d₀ slot 8) = some x ∧ d.nv.bootCfg = setAt d₀.nv.bootCfg 1 (arg d₀ slot 8)) ∧
       (∀ sig fl, running d₀ slot 0x10 = true → Makes (.firmwareVerifyStage t slot .error sig fl) s (failed 3)) ∧
       (∀ (b : List Byte) (sig : SigCheck) fl, running d₀ slot 0x10 = true → imageSlot sig b (arg d₀ slot 7) = none →
         Makes (.firmwareVerifyStage t slot (.ok b) sig fl) s fun d => failed 2 d ∧ d.nv.fw = d₀.nv.fw)) ∧
  (∀ (t : Ps) (slot : Fin 64) (s : State),
       let d₀ := arrive t s.dev
       alive d₀ = true → running d₀ slot 0x70 = true →
       (slotRun d₀ slot).aux = [] → (slotRun d₀ slot).pos = 0 → (slotRun d₀ slot).abortAsked = false →
       let n := arg d₀ slot 6
       let failed (c : Nat) (d : Dev) : Prop :=
         slotState d slot = 4 ∧ arg d slot 0xF = c ∧ rdB d (K.cs_SET_BODY n) = rdB d₀ (K.cs_SET_BODY n) ∧ d.nv = d₀.nv
       (∀ nv, Makes (.coefficientSetLoad t slot .error nv) s (failed 3)) ∧
       (∀ b nv, setBodyOk b = false → Makes (.coefficientSetLoad t slot (.ok b) nv) s (failed 2)) ∧
       (∀ b, setBodyOk b = true → Makes (.coefficientSetLoad t slot (.ok b) false) s (failed 5)) ∧
       (∀ b, setBodyOk b = true → d₀.nv.volatileOnly = false → Makes (.coefficientSetLoad t slot (.ok b) true) s fun d =>
         d.nv.nextSeq = d₀.nv.nextSeq + 1 ∧ d.nv.nextId = d₀.nv.nextId + 1))

/-! ## Faults and recoveries -/

/-- BLOCK_WATCHDOG_EXPIRY, CELL_RETRY_END without an outcome, REGION_TIMEOUT_EXPIRY and CHIP_TIMEOUT_EXPIRY complete: each starts the
recovery of its level, below its restart limit and with none above in progress: it is noted with its instant and cause, the block reads
RESTARTING, and an event of code 0x0010, 0x0011 or 0x0012 is raised (R799, R800, R803). -/
def Obligations.RecoveriesStart : Prop :=
  ∀ (t : Ps) (s : State),
    let d₀ := arrive t s.dev
    alive d₀ = true →
    let free (b : Nat) : Prop := rd d₀ (0x1012 * 256 + b) ≠ 3 ∧ recov d₀ b = none ∧ limitReached d₀ b 4 (sec 60) = false ∧
      ∀ r, regionOfBlock b = some r → recov d₀ (0x100 + r) = none
    let started (u cause : Nat) (d : Dev) : Prop :=
      (∃ x, recov d u = some x ∧ x.startedAt = d₀.now ∧ x.committed = false ∧ x.cause = cause) ∧
        newestEvent d (0x10 + unitLevel u) (unitEntry u) 0 [0, BitVec.ofNat 8 cause]
    (∀ b : Fin 39, b.val ≠ 0 → free b.val → Makes (.blockWatchdogExpiry t b) s fun d =>
      started b 1 d ∧ rd d (0x1012 * 256 + b) = 1) ∧
    (∀ b : Fin 39, b.val ≠ 0 → free b.val → Makes (.cellRetryEnd t (.block b) .noOutcome) s fun d =>
      started b 2 d ∧ rd d (0x1012 * 256 + b) = 1 ∧ rd d K.x1C10_ESCALATIONS = min (rd d₀ K.x1C10_ESCALATIONS + 1) 0xFFFFFFFF) ∧
    (∀ r : Fin 4, rd d₀ (K.x1011_REGION_STATE r) ≠ 4 → recov d₀ (0x100 + r) = none →
      limitReached d₀ (0x100 + r) 3 (sec 600) = false → Makes (.regionTimeoutExpiry t r) s (started (0x100 + r) 1)) ∧
    (recov d₀ 0x200 = none → limitReached d₀ 0x200 2 (sec 3600) = false →
      (∀ r, Makes (.chipTimeoutExpiry t (.region r)) s (started 0x200 1)) ∧
      (∀ m, Makes (.chipTimeoutExpiry t (.memoryBlock m)) s (started 0x200 6)) ∧
      Makes (.chipTimeoutExpiry t .controlComplex) s (started 0x200 7))

/-- RECOVERY_COMMIT_POINT, RECOVERY_END and CELL_RETRY_END complete: a recovery commits once its time has passed; with success after that
point it is over and the block, region or dictionary reads as in operation; good data from a retry before that point cancels a block
restart (R802, R14). RECOVERY_BUDGET_SPENT completes: a block restart that spends its budget is a fault of its region: the escalation is
counted and the region's isolation starts with cause 0x02 (R799, R803, R821). -/
def Obligations.RecoveriesEnd : Prop :=
  (∀ (t : Ps) (s : State) (x : Recov),
       let d₀ := arrive t s.dev
       alive d₀ = true →
       (∀ u, recov d₀ (unitNum u) = some x → x.committed = false → x.startedAt + commitAfter (unitNum u) ≤ d₀.now →
         Makes (.recoveryCommitPoint t u) s fun d => recov d (unitNum u) = some { x with committed := true }) ∧
       (∀ b : Fin 39, recov d₀ b = some x → x.committed = true → rd d₀ (0x1012 * 256 + b) ≠ 3 →
         Makes (.recoveryEnd t (.block b) true) s fun d => recov d b = none ∧ rd d (0x1012 * 256 + b) = 0) ∧
       (∀ r : Fin 4, recov d₀ (0x100 + r) = some x → x.committed = true → rd d₀ (K.x1011_REGION_STATE r) ≠ 4 →
         Makes (.recoveryEnd t (.region r) true) s fun d => recov d (0x100 + r) = none ∧ rd d (K.x1011_REGION_STATE r) = 0) ∧
       (∀ b : Fin 39, b.val ≠ 0 → recov d₀ b = some x → x.committed = false → rd d₀ (0x1012 * 256 + b) ≠ 3 →
         Makes (.cellRetryEnd t (.block b) .goodData) s fun d => recov d b = none ∧ rd d (0x1012 * 256 + b) = 0) ∧
       (∀ b : Fin 39, b.val ≠ 0 → Makes (.cellRetryEnd t (.block b) .completedFailure) s fun d => d = d₀)) ∧
  (∀ (t : Ps) (b : Fin 39) (r : Nat) (x : Recov) (s : State),
       let d₀ := arrive t s.dev
       alive d₀ = true → recov d₀ b = some x →
       x.startedAt + us 250 ≤ d₀.now → regionOfBlock b = some r → rd d₀ (K.x1011_REGION_STATE r) ≠ 4 →
       recov d₀ (0x100 + r) = none → limitReached d₀ (0x100 + r) 3 (sec 600) = false →
       Makes (.recoveryBudgetSpent t (.block b)) s fun d =>
         recov d b = none ∧ (∃ y, recov d (0x100 + r) = some y ∧ y.cause = 2 ∧ y.startedAt = d₀.now) ∧
         rd d K.x1C10_ESCALATIONS = min (rd d₀ K.x1C10_ESCALATIONS + 1) 0xFFFFFFFF ∧
         newestEvent d 0x11 (K.x1011_REGION_STATE r) 0 [0, 2])

/-- JOURNAL_REPLAY_RUN ends with an event of code 0x0013 whose DETAIL is its cause; with nothing to replay it counts the run, notes its
time and cause, and replays no operation (R700, R703). -/
def Obligations.ReplayRuns : Prop :=
  ∀ (t : Ps) (cause : Fin 6) (scope : Option (Fin 4)) (lost : List Nat) (s : State),
    let d₀ := arrive t s.dev
    alive d₀ = true → 1 ≤ cause.val →
    (Makes (.journalReplayRun t cause scope lost) s fun d =>
      ∃ n, newestEvent d 0x13 K.x1C30_REPLAY_RUNS n [BitVec.ofNat 8 cause]) ∧
    (scope = none → d₀.jr.entries = [] → Makes (.journalReplayRun t cause scope lost) s fun d =>
      rd d K.x1C30_REPLAY_RUNS = min (rd d₀ K.x1C30_REPLAY_RUNS + 1) 0xFFFFFFFF ∧
      rd d K.x1C30_LAST_REPLAY_CAUSE = cause.val ∧ rd d K.x1C30_LAST_REPLAY_STC = stcNs d₀ ∧
      newestEvent d 0x13 K.x1C30_REPLAY_RUNS 0 [BitVec.ofNat 8 cause] ∧ d.jr = d₀.jr)

/-! ## Clocks, references and time -/

/-- Loss and lock of the PLLs: a block other than the root and the reference that loses lock reads RELOCKING and counts it; its lock is
confirmed from SEARCHING or RELOCKING; a memory PHY returns to operation when its PLL is locked and 40 us have passed (R636, R637, R641).
The root clock: loss of XTAL_IN is counted and the root, LOCKED before, holds its last control value, with the STC in HELD_ROOT and an
event; so it does when its own lock is lost; the return of XTAL_IN is noted (R646, R647, R648). -/
def Obligations.ClocksLost : Prop :=
  (∀ (t : Ps) (s : State),
       let d₀ := arrive t s.dev
       alive d₀ = true →
       (∀ p : PllBlock, p.val ≠ 0 → p.val ≠ 4 → rd d₀ (K.x1401_PLL_STATE p) = 2 → Makes (.pllLossOfLock t p) s fun d =>
         rd d (K.x1401_PLL_STATE p) = 3 ∧
         rd d (K.x1402_PLL_RELOCKS p) = min (rd d₀ (K.x1402_PLL_RELOCKS p) + 1) 0xFFFFFFFF ∧
         (p.val = 1 ∨ p.val = 2 → rd d (K.x1012_MB_STATE (p - 1)) = 1) ∧ (p.val = 3 → rd d K.x3C00_LINK_STATE = 0)) ∧
       (∀ (p : Fin 77) (band : Fin 64), p.val ≠ 0 → p.val ≠ 4 → p.val < 13 →
         rd d₀ (K.x1401_PLL_STATE p) = 1 ∨ rd d₀ (K.x1401_PLL_STATE p) = 3 →
         Makes (.pllLockConfirmed t p band) s fun d => EntriesE [(K.x1401_PLL_STATE p, 2)] d₀ d) ∧
       (∀ m : Fin 2, rd d₀ (K.x1012_MB_STATE m) = 1 → rd d₀ (K.x1401_PLL_STATE (1 + m)) = 2 →
         tabGet 0 d₀.clk.relockAt (1 + m) + us 40 ≤ d₀.now →
         Makes (.phyRecalibrateEnd t m) s fun d => EntriesE [(K.x1012_MB_STATE m, 0)] d₀ d)) ∧
  (∀ (t : Ps) (s : State),
       let d₀ := arrive t s.dev
       alive d₀ = true →
       let held (d : Dev) : Prop := rd d K.x1400_ROOT_STATE = 4 ∧ rd d K.x1460_STC_STATE = 3 ∧ rd d (K.x1401_PLL_STATE 0) = 4 ∧
         newestEvent d 3 K.x1400_ROOT_STATE 4 []
       (rd d₀ K.x1400_XTAL_STATE = 0 → rd d₀ K.x1400_ROOT_STATE = 2 →
         (Makes (.xtalLoss t) s fun d => held d ∧ rd d K.x1400_XTAL_STATE = 1 ∧
           rd d K.x1400_XTAL_LOSSES = min (rd d₀ K.x1400_XTAL_LOSSES + 1) 0xFFFFFFFF) ∧
         (Makes (.rootLossOfLock t) s fun d => held d ∧ rd d K.x1400_XTAL_STATE = 0)) ∧
       (rd d₀ K.x1400_XTAL_STATE = 1 → Makes (.xtalReturn t) s fun d =>
         Entries [(K.x1400_XTAL_STATE, 0)] d₀ d ∧ d.clk.xtalBackAt = some (d₀.now)) ∧
       (∀ band, rd d₀ K.x1400_ROOT_STATE = 4 → rd d₀ K.x1400_XTAL_STATE = 0 →
         Makes (.pllLockConfirmed t 0 band) s fun d => rd d K.x1400_ROOT_STATE = 2 ∧ rd d (K.x1401_PLL_STATE 0) = 2))

/-- The genlock reference: REF_CLK that appears at an accepted frequency is searched; one that goes is ABSENT, one whose lock is lost is
SEARCHING; a change of frequency is a new reference (R650, R652, R653, R654). A pulse of a LOCKED reference one period of REF_FRAME_RATE
against REF_CLK after the last is accepted and stamped; a first pulse while QUALIFYING is taken and qualification starts anew; a
QUALIFYING reference that has qualified for QUALIFY_MS, its pulses still coming, reads LOCKED with its offset; so does an input that a
generator follows, which then aligns (R651, R652, R653, R655). -/
def Obligations.GenlockReference : Prop :=
  (∀ (t : Ps) (s : State),
       let d₀ := arrive t s.dev
       alive d₀ = true →
       (∀ c : Fin 7, rd d₀ K.x1410_REF_STATE = 0 → refAccepts d₀ c = true → Makes (.refClkPresent t c) s fun d =>
         rd d K.x1410_REF_STATE = 1 ∧ rd d (K.x1401_PLL_STATE 4) = 1 ∧ d.clk.clkFound = c.val ∧ d.clk.lastPulse = none) ∧
       (rd d₀ K.x1410_REF_STATE ≠ 0 →
         (Makes (.refClkLoss t false) s fun d => rd d K.x1410_REF_STATE = 0 ∧ rd d K.x1410_REF_CLK_FOUND = 0 ∧ d.clk.lastPulse = none) ∧
         (Makes (.refClkLoss t true) s fun d => rd d K.x1410_REF_STATE = 1 ∧ rd d (K.x1401_PLL_STATE 4) = 3 ∧ d.clk.lastPulse = none) ∧
         (∀ c : Fin 7, refAccepts d₀ c = true → Makes (.refClkChange t c) s fun d =>
           rd d K.x1410_REF_STATE = 1 ∧ rd d (K.x1401_PLL_STATE 4) = 3 ∧ d.clk.clkFound = c.val) ∧
         (∀ c : Fin 7, refAccepts d₀ c = false → Makes (.refClkChange t c) s fun d =>
           rd d K.x1410_REF_STATE = 0 ∧ rd d K.x1410_REF_CLK_FOUND = 0))) ∧
  (∀ (t : Ps) (s : State),
       let d₀ := arrive t s.dev
       alive d₀ = true →
       let p := refPeriod d₀
       let now := d₀.now
       (∀ l, rd d₀ K.x1410_REF_FRAME_RATE ≠ 0 → rd d₀ K.x1410_REF_STATE = 3 → d₀.clk.lastPulse = some l → now = l + p → 0 < p → d₀.clk.extra = false →
         Makes (.refFramePulse t) s fun d =>
           Entries [(K.x1410_LAST_PULSE_STC, stcNs d₀)] d₀ d ∧ d.clk.lastPulse = some now) ∧
       (rd d₀ K.x1410_REF_FRAME_RATE ≠ 0 → rd d₀ K.x1410_REF_STATE = 2 → d₀.clk.lastPulse = none →
         Makes (.refFramePulse t) s fun d =>
           Entries [(K.x1410_LAST_PULSE_STC, stcNs d₀)] d₀ d ∧ d.clk.lastPulse = some now ∧ d.clk.qualifySince = now) ∧
       (∀ ppb, rd d₀ K.x1410_REF_STATE = 2 → d₀.clk.qualifySince + ms (rd d₀ K.x1410_QUALIFY_MS) ≤ now → refPulsing d₀ = true →
         Makes (.refQualified t none ppb) s fun d =>
           rd d K.x1410_REF_STATE = 3 ∧ rd d K.x1410_REF_OFFSET_PPB = satTc 32 ppb) ∧
       (∀ (g : Fin 8) (ppb : Int), let src := rd d₀ (K.tg_LOCK_SOURCE g)
         0x100 ≤ src → rd d₀ (K.ip_INPUT_STATE (src - 0x100)) = 5 →
         fmtRate (rd d₀ (K.ip_DETECTED_FORMAT (src - 0x100))) = fmtRate (tgFormat d₀ g) →
         (inp d₀ (src - 0x100)).refSince + ms (rd d₀ K.x1410_QUALIFY_MS) ≤ now → ppb.natAbs ≤ 50000 → (tg d₀ g).inLocked = false →
         Makes (.refQualified t (some g) ppb) s fun d => (tg d g).inLocked = true ∧ rd d (K.tg_TG_STATE g) = 1))

/-- The ends of slews, the age of an anchor and a PTM dialogue each set what their rules name and no other entry (R482, R661, R671, R674,
R675). -/
def Obligations.TimeEntries : Prop :=
  ∀ (t : Ps) (s : State),
    let d₀ := arrive t s.dev
    alive d₀ = true →
    (∀ g : Fin 8, rd d₀ (K.tg_TG_STATE g) = 1 → (tg d₀ g).realign = none → (tg d₀ g).extraLines = 0 →
      (tgRun d₀ g - tgOffset d₀ g - (tg d₀ g).freqPpb).natAbs ≤ 10 → Makes (.tgSlewComplete t g) s fun d =>
        EntriesE [(K.tg_TG_STATE g, 2), (K.tgl_PHASE_ERROR_NS g, 0)] d₀ d ∧ (tg d g).err = 0 ∧ tgRun d g = (tg d₀ g).freqPpb ∧
        (tg d g).lockedSince = some d₀.now) ∧
    (rd d₀ K.x1460_STC_STATE = 2 → slewRateAt d₀ d₀.now = d₀.clk.slewTo → Makes (.stcSlewEnd t) s fun d =>
      Entries [(K.x1460_STC_STATE, 1), (K.x1460_STC_RATE_PPB, tc 32 d₀.clk.slewTo)] d₀ d ∧ SameRest d₀ d) ∧
    (rd d₀ K.x1468_ANCHOR_STATE = 1 →
      leAt (rdB d₀ K.x1468_ANCHOR) 0 8 + rd d₀ K.x1468_ANCHOR_MAX_AGE_S * 1000000000 < stcNs d₀ →
      Makes (.anchorStale t) s fun d => Entries [(K.x1468_ANCHOR_STATE, 2)] d₀ d ∧ SameRest d₀ d) ∧
    (∀ m, rd d₀ K.x3C00_LINK_STATE = 1 → d₀.clk.ptmAt ≤ d₀.now → Makes (.ptmDialogue t m) s fun d =>
      rdB d K.x1468_PTM_PAIR = natLE 8 (stcNs d₀) ++ natLE 8 m ∧ Entries [] d₀ d ∧
      d.clk.ptmAt = d₀.now + ms (rd d₀ K.x1468_PTM_INTERVAL_MS)) ∧
    (∀ acc b v, Accepted t acc K.x1468_ANCHOR v b s → Makes (.timeAnchorWrite t acc b) s fun d =>
      rdB d K.x1468_ANCHOR = b.take 16 ∧
      Entries [(K.x1468_ANCHOR_STATE, 1), (K.x1468_ANCHOR_REQUESTER, reqId acc.req),
        (K.x1468_ANCHOR_COUNT, min (rd d₀ K.x1468_ANCHOR_COUNT + 1) 0xFFFFFFFF)] d₀ d)

/-! ## Serial lanes and tie bundles -/

/-- The detectors of a receiver outside the near-end loops: a raw change starts its debounce time, LOL not clearing under LOS nor while
the candidate's PLL is not LOCKED; when that time has passed the debounced flag follows; a debounced loss sends ALIGN, LOCKED and MISWIRED
to SEARCH (R195, R198, R201, R202). The search of a receiver: raw LOL clear for 10 us within 100 us of the candidate, on a LOCKED PLL,
leads to ALIGN, 100 us without it to the next candidate, as does the end of the ALIGN window; a restart goes to SEARCH (R195, R198).
Timing references of an SDI receiver: the third in its place locks it and counts the lock, the eighth missing or misplaced in a row sends
LOCKED to ALIGN at the same rate; a line whose CRC fails is counted in LOCKED at 1.485 Gb/s and above and nothing else changes (R198,
R203). -/
def Obligations.ReceiverStates : Prop :=
  (∀ (t : Ps) (p : Fin 128) (s : State),
       let d₀ := arrive t s.dev
       alive d₀ = true →
       let now := d₀.now
       let lost (d : Dev) : Prop := 2 ≤ rd d₀ (K.rx_RX_STATE p) → rd d₀ (K.rx_RX_STATE p) ≠ 4 → rd d (K.rx_RX_STATE p) = 1
       (∀ b, looped d₀ p = false → sig d₀ p 2 = !b → Makes (.rawDetectorChange t p false b) s fun d =>
         sig d p 2 = b ∧ sig d p 0 = sig d₀ p 0 ∧ sig d p 1 = sig d₀ p 1 ∧
         (rx d p).losDue = now + us (rd d₀ (if b then K.rx_LOS_ASSERT_US p else K.rx_LOS_CLEAR_US p))) ∧
       (∀ b, looped d₀ p = false → sig d₀ p 3 = !b →
         b = true ∨ (sig d₀ p 2 = false ∧ pllLocked d₀ p (famOf (rd d₀ (K.rx_RX_RATE p))) = true) →
         Makes (.rawDetectorChange t p true b) s fun d =>
         sig d p 3 = b ∧ sig d p 1 = sig d₀ p 1 ∧
         (rx d p).lolDue = now + us (rd d₀ (if b then K.rx_LOL_ASSERT_US p else K.rx_LOL_CLEAR_US p))) ∧
       (sig d₀ p 2 = true → sig d₀ p 0 = false → (rx d₀ p).losDue ≤ now → rd d₀ (K.rx_RX_STATE p) ≤ 5 →
         Makes (.losDebounceAssert t p) s fun d => sig d p 0 = true ∧ lost d) ∧
       (sig d₀ p 2 = false → sig d₀ p 0 = true → (rx d₀ p).losDue ≤ now →
         Makes (.losDebounceClear t p) s fun d => sig d p 0 = false ∧ rd d (K.rx_RX_STATE p) = rd d₀ (K.rx_RX_STATE p)) ∧
       (sig d₀ p 3 = true → sig d₀ p 1 = false → (rx d₀ p).lolDue ≤ now → rd d₀ (K.rx_RX_STATE p) ≤ 5 →
         Makes (.lolDebounceAssert t p) s fun d => sig d p 1 = true ∧ lost d) ∧
       (sig d₀ p 3 = false → sig d₀ p 1 = true → (rx d₀ p).lolDue ≤ now →
         Makes (.lolDebounceClear t p) s fun d => sig d p 1 = false ∧ rd d (K.rx_RX_STATE p) = rd d₀ (K.rx_RX_STATE p))) ∧
  (∀ (t : Ps) (p : Fin 128) (s : State),
       let d₀ := arrive t s.dev
       alive d₀ = true →
       let now := d₀.now
       let r := rx d₀ p
       (rd d₀ (K.rx_RX_STATE p) = 1 → sig d₀ p 0 = false → sig d₀ p 3 = false →
         pllLocked d₀ p (famOf (rd d₀ (K.rx_RX_RATE p))) = true → max r.lolClearAt r.candAt + us 10 ≤ now →
         now ≤ r.candAt + us 100 → Makes (.cdrLockQualified t p) s fun d =>
           rd d (K.rx_RX_STATE p) = 2 ∧ (rx d p).alignAt = now ∧ rd d (K.rx_RX_RATE p) = rd d₀ (K.rx_RX_RATE p)) ∧
       (rd d₀ (K.rx_RX_STATE p) = 1 → sig d₀ p 0 = false → r.candAt + us 100 ≤ now → Makes (.candidateTimeout t p) s fun d =>
         rd d (K.rx_RX_STATE p) = 1 ∧ (rx d p).candAt = now) ∧
       (rd d₀ (K.rx_RX_STATE p) = 2 → r.alignAt + us (if rd d₀ (K.rx_RX_RATE p) = 0x20 then 50 else 500) ≤ now →
         Makes (.alignWindowExpiry t p) s fun d => rd d (K.rx_RX_STATE p) = 1 ∧ (rx d p).candAt = now) ∧
       (∀ acc b, Accepted t acc (K.rx_RX_RESTART p) 1 b s → rd d₀ (K.rx_RX_STATE p) ≠ 0 → rd d₀ (K.rx_RX_STATE p) ≠ 4 →
         Makes (.rxRestart t acc p b) s fun d => rd d (K.rx_RX_STATE p) = 1 ∧ (rx d p).candAt = now)) ∧
  (∀ (t : Ps) (p : Fin 128) (s : State),
       let d₀ := arrive t s.dev
       alive d₀ = true → (tieOf d₀ p) = none →
       (rd d₀ (K.rx_RX_STATE p) = 2 → 2 ≤ (rx d₀ p).good → Makes (.sdiTrsReceived t p true) s fun d =>
         rd d (K.rx_RX_STATE p) = 3 ∧ rd d (K.rx_LOCK_COUNT p) = min (rd d₀ (K.rx_LOCK_COUNT p) + 1) 0xFFFFFFFF) ∧
       (rd d₀ (K.rx_RX_STATE p) = 3 → 7 ≤ (rx d₀ p).miss → Makes (.sdiTrsReceived t p false) s fun d =>
         rd d (K.rx_RX_STATE p) = 2 ∧ rd d (K.rx_RX_RATE p) = rd d₀ (K.rx_RX_RATE p) ∧
         rd d (K.rx_DROP_COUNT p) = min (rd d₀ (K.rx_DROP_COUNT p) + 1) 0xFFFFFFFF) ∧
       (∀ line, rd d₀ (K.rx_RX_STATE p) = 3 → rd d₀ (K.rx_RX_RATE p) ≠ 1 → rd d₀ (K.rx_RX_RATE p) ≠ 0x20 →
         Makes (.sdiLineReceived t p line false) s fun d =>
           Entries [(K.rx_CRC_ERRORS p, min (rd d₀ (K.rx_CRC_ERRORS p) + 1) 0xFFFFFFFF)] d₀ d ∧ SameRest d₀ d) ∧
       (∀ line, Makes (.sdiLineReceived t p line true) s fun d => d = d₀))

/-- Test writes: RX_TEST and PRBS_CHECK that are not zero send a receiver that is not DISABLED to TEST; TX_TEST is taken; INJECT_ERROR
inverts the bit of the pattern on its way, and does nothing without a pattern; a checker that sees 64 bits of its pattern is synchronised
and counts from zero, and one with 1,024 errors in 65,536 bits loses that with its counts (R198, R206, R224, R229). -/
def Obligations.LaneTests : Prop :=
  ∀ (t : Ps) (acc : Access) (p : Fin 128) (v : Nat) (b : List Byte) (s : State),
    let d₀ := arrive t s.dev
    (Accepted t acc (K.rx_RX_TEST p) v b s → v ≠ 0 → rd d₀ (K.rx_RX_STATE p) ≠ 0 → Makes (.rxTestWrite t acc p b) s fun d =>
      rd d (K.rx_RX_TEST p) = v ∧ rd d (K.rx_RX_STATE p) = 4) ∧
    (Accepted t acc (K.rx_PRBS_CHECK p) v b s → v ≠ 0 → rd d₀ (K.rx_RX_STATE p) ≠ 0 → Makes (.prbsCheckWrite t acc p b) s fun d =>
      rd d (K.rx_PRBS_CHECK p) = v ∧ rd d (K.rx_RX_STATE p) = 4 ∧ rd d (K.rx_PRBS_STATUS p) = 0 ∧ rd d (K.rx_PRBS_ERRORS p) = 0 ∧
      rd d (K.rx_PRBS_BITS p) = 0) ∧
    (Accepted t acc (K.tx_TX_TEST p) v b s → Makes (.txTestWrite t acc p b) s fun d => rd d (K.tx_TX_TEST p) = v) ∧
    (Accepted t acc (K.tx_INJECT_ERROR p) 1 b s → rd d₀ (K.tx_TX_STATE p) = 3 → rd d₀ (K.tx_TX_TEST p) = 1 ∨ rd d₀ (K.tx_TX_TEST p) = 2 →
      Makes (.injectError t acc p b) s fun d => Entries [] d₀ d ∧
        (tx d p).inverted = (tx d₀ p).inverted ++ [bitsIn (txRate d₀ p) (d₀.now - (tx d₀ p).testAt)]) ∧
    (Accepted t acc (K.tx_INJECT_ERROR p) 1 b s → rd d₀ (K.tx_TX_STATE p) ≠ 3 →
      Makes (.injectError t acc p b) s fun d => d = atWrite t acc (K.tx_INJECT_ERROR p) s) ∧
    (∀ bits, alive d₀ = true → rd d₀ (K.rx_RX_STATE p) = 4 → rd d₀ (K.rx_PRBS_CHECK p) ≠ 0 → rd d₀ (K.rx_PRBS_STATUS p) = 0 →
      prbsAgrees (rd d₀ (K.rx_PRBS_CHECK p)) bits = true → Makes (.prbsSyncGained t { port := p, bits := bits }) s fun d =>
        Entries [(K.rx_PRBS_STATUS p, 1), (K.rx_PRBS_ERRORS p, 0), (K.rx_PRBS_BITS p, 0)] d₀ d ∧ (rx d p).prbsAt = d₀.now) ∧
    (∀ errors recent, alive d₀ = true → rd d₀ (K.rx_PRBS_STATUS p) = 1 → 1024 ≤ recent →
      Makes (.prbsSyncLost t p errors recent) s fun d => rd d (K.rx_PRBS_STATUS p) = 0 ∧
        rd d (K.rx_PRBS_BITS p) = prbsBitsNow d₀ p ∧ rd d (K.rx_PRBS_ERRORS p) = errors % 2 ^ 64)

/-- The sequence of R207 after a quad PLL loses lock: RELOCKING and counted, LOCKED on its band, its transmitters realigned, test signals
with that resumed, and each other one resumed at an EAV with its duration, an event and the interruption counted; a tie transmitter at a
block boundary once the PLL is LOCKED (R207, R209, R855). Tie bundles: the blocks of an enabled bundle count toward its lanes: the third
expected header in a row locks a lane, the third missing one sends a LOCKED lane to ALIGN; LANES_UP is the set of lanes up and MAX_SKEW_NS
the spread of their arrivals; those of a disabled one do nothing to it; a lost lane that is LOCKED, deskewed and has delivered 1,024 good
blocks joins again (R198, R243 to R248, R255). -/
def Obligations.LanesRelock : Prop :=
  (∀ (t : Ps) (s : State),
       let d₀ := arrive t s.dev
       alive d₀ = true →
       (∀ (q : Fin 32) (f : Bool), let i := if f then 1 else 0
         rd d₀ (kPllState q i) = 2 → Makes (.quadPllLossOfLock t q f) s fun d =>
           rd d (kPllState q i) = 3 ∧ rd d (kPllRelocks q i) = min (rd d₀ (kPllRelocks q i) + 1) 0xFFFFFFFF ∧
           (if f then (quad d q).fracAt else (quad d q).intAt) = some (d₀.now)) ∧
       (∀ (p : Fin 77) (band : Fin 64), let q := (p.val - 13) / 2
         let i := (p.val - 13) % 2
         13 ≤ p.val → rd d₀ (kPllState q i) = 1 ∨ rd d₀ (kPllState q i) = 3 → Makes (.pllLockConfirmed t p band) s fun d =>
           rd d (kPllState q i) = 2 ∧ rd d (kPllBand q i) = band.val) ∧
       (∀ (q : Fin 32) (f : Bool), rd d₀ (kPllState q (if f then 1 else 0)) = 2 → Makes (.txInterpolatorRealign t q f) s fun d =>
         (if f then (quad d q).fracAt else (quad d q).intAt) = none ∧
         ∀ p : Fin 128, p.val / 4 = q.val → (tx d₀ p).sqFamily = (if f then 1 else 0) → tieOf d₀ p = none →
           (tx d₀ p).squelchAt ≠ none → ((tx d₀ p).wasTest = false → (tx d p).realigned = true) ∧
             ((tx d₀ p).wasTest = true → txFamily d₀ p = (if f then 1 else 0) → (tx d p).squelchAt = none)) ∧
       (∀ (p : Fin 128) (t₀ : Ps), (tx d₀ p).squelchAt = some t₀ → tieOf d₀ p ≠ none → txPllLocked d₀ p = true →
         Makes (.txResume t p) s fun d => (tx d p).squelchAt = none ∧ rd d (K.tx_LAST_SQUELCH_US p) = usSince d₀ t₀) ∧
       (∀ (p : Fin 128) (t₀ : Ps), (tx d₀ p).squelchAt = some t₀ → (tx d₀ p).realigned = true → tieOf d₀ p = none → txPllLocked d₀ p = true →
         Makes (.txResume t p) s fun d =>
         (tx d p).squelchAt = none ∧ rd d (K.tx_LAST_SQUELCH_US p) = usSince d₀ t₀ ∧
         rd d (K.quad_LAST_RELOCK_US (p / 4)) = usSince d₀ t₀ ∧
         rd d K.x1C10_INTERRUPTIONS = min (rd d₀ K.x1C10_INTERRUPTIONS + 1) 0xFFFFFFFF ∧
         newestEvent d 0x15 (K.tx_TX_STATE p) (usSince d₀ t₀) (natLE 2 p))) ∧
  (∀ (t : Ps) (b : Fin 16) (blocks : List (Option (List Byte))) (skew : List Nat) (s : State),
       let d₀ := arrive t s.dev
       alive d₀ = true → blocks.length = 5 → skew.length = 5 →
       let st (d : Dev) (k : Nat) : Nat := rd d (K.rx_RX_STATE (8 * b + k))
       (on d₀ (K.tb_TIE_ENABLE b) = true → Makes (.tieBlockReceived t b blocks skew) s fun d =>
         let l := ((List.range 5).filter fun k =>
           st d k == 3 && !((tie d b).deskewed.getD k false && (tie d b).lost.getD k false)).map fun k => skew.getD k 0
         (tie d b).skew = skew ∧ rd d (K.tb_MAX_SKEW_NS b) = min 0xFFFF (l.foldl max 0 - l.foldl min (l.headD 0)) ∧
         rd d (K.tb_LANES_UP b) = bitsNat (lanesUp d b) ∧
         (∀ k : Fin 5, st d₀ k = 3 → 2 ≤ (rx d₀ (8 * b + k)).miss → (blocks.getD k none).bind tieParse = none → st d k = 2) ∧
         ∀ (k : Fin 5) x, st d₀ k = 2 → 2 ≤ (rx d₀ (8 * b + k)).good → (blocks.getD k none).bind tieParse = some x →
           tieExpected d₀ b k x = true → st d k = 3) ∧
       (on d₀ (K.tb_TIE_ENABLE b) = false → Makes (.tieBlockReceived t b blocks skew) s fun d => tie d b = tie d₀ b ∧ d.lanes = d₀.lanes) ∧
       (∀ k : Fin 5, (tie d₀ b).lost.length = 5 → (tie d₀ b).lost.getD k false = true → (tie d₀ b).deskewed.getD k false = true →
         1024 ≤ (tie d₀ b).good.getD k 0 → st d₀ k = 3 → Makes (.tieLaneRejoin t b k) s fun d => (tie d b).lost.getD k false = false ∧
           ∀ j : Fin 5, j ≠ k → (tie d b).lost.getD j false = (tie d₀ b).lost.getD j false))

/-! ## Video: inputs, seams, compositions, evidence -/

/-- The frame store of an input: the frame that waits is published in order and counted with its stamp; a boundary begins the next frame,
its number one on, or, after a cut, begins it without ending one; loss of the signal leaves no frame in progress and reads NO_SIGNAL
(R256, R262, R270, R274, R277). -/
def Obligations.InputFrames : Prop :=
  ∀ (t : Ps) (p : Fin 128) (s : State),
    let d₀ := arrive t s.dev
    alive d₀ = true →
    let x := store d₀ p
    let now := d₀.now
    (∀ f, x.pending = some f → Makes (.framePublish t p) s fun d =>
      (store d p).frames = x.frames ++ [{ f with ord := x.pubs + 1 }] ∧ (store d p).pending = none ∧ (store d p).pubs = x.pubs + 1 ∧
      rd d (K.ip_FRAMES_PUBLISHED p) = (rd d₀ (K.ip_FRAMES_PUBLISHED p) + 1) % 2 ^ 64 ∧ rd d (K.ip_LAST_FRAME_STC p) = f.stamp ∧
      rd d (K.ip_DAMAGED_FRAMES p) = (if f.damaged = [] then rd d₀ (K.ip_DAMAGED_FRAMES p)
        else min (rd d₀ (K.ip_DAMAGED_FRAMES p) + 1) 0xFFFFFFFF)) ∧
    (∀ f, rxFrameOk f = true → on d₀ (K.ip_IP_ENABLE p) = true → signalPresent d₀ p = true →
      blockDown d₀ (blockOfPort p) = false → d₀.ctl.commits = [] → audioOn d₀ = false →
      Makes (.inputFrameReceived t p f) s fun d =>
        if (inp d₀ p).cut then (store d p).prog = some (x.nextNum, now, f.periodPs) ∧ (inp d p).cut = false ∧ Entries [] d₀ d
        else
          let n := match x.prog with
            | some (n, _, _) => n
            | none => x.nextNum
          (store d p).prog = some (n + 1, now, f.periodPs) ∧ (store d p).nextNum = n + 1 ∧ (inp d p).lastBoundary = now) ∧
    (∀ part, part.all rxFrameOk = true → on d₀ (K.ip_IP_ENABLE p) = true → signalPresent d₀ p = false →
      2 ≤ (if (inp d₀ p).lostFrom = 0 then rd d₀ (K.ip_INPUT_STATE p) else (inp d₀ p).lostFrom) → d₀.ctl.commits = [] → audioOn d₀ = false →
      Makes (.inputSignalLoss t p part) s fun d =>
        rd d (K.ip_INPUT_STATE p) = 1 ∧ (store d p).prog = none ∧ (store d p).pending = none ∧ (inp d p).run = 0)

/-- A seam of a generator that nothing uses is counted and stamped and changes no other entry; on any generator it runs what falls at the
seam in the order of the chapters. A low-latency route whose generator has read LOCKED for 1 s takes its offset again (R173, R281, R282).
COMPOSITION_COMPLETE ends the composition that runs: a composed frame with the stamp of its seam, or the last one again with every tile
substituted (in the ring at once: the model's reading, log entry 16). REGION_RELEASE releases the regions of its mask whose action is in
force and leaves the others (R369, R442). -/
def Obligations.SeamsAndCompositions : Prop :=
  (∀ (t : Ps) (g : Fin 8) (s : State),
       let d₀ := arrive t s.dev
       alive d₀ = true →
       (Makes (.tgSeam t g) s fun d => d = tgSeam g d₀) ∧
       ((∀ n, n < 72 → compTg d₀ n ≠ g) → (∀ p, p < 128 → outTg d₀ p ≠ g) → convsOf d₀ g = [] → d₀.video.sets = [] →
         d₀.video.stores = [] → d₀.ctl.commits = [] → d₀.ctl.unsettled.contains g.val = false → (tg d₀ g).realign = none →
         audioOn d₀ = false → Makes (.tgSeam t g) s fun d =>
           Entries [(K.tg_SEAM_COUNT g, (rd d₀ (K.tg_SEAM_COUNT g) + 1) % 2 ^ 64), (K.tg_LAST_SEAM_STC g, stcNs d₀)] d₀ d ∧
           (tg d g).lastSeam = d₀.now) ∧
       (∀ p : Fin 128, rd d₀ (K.route_ROUTE_MODE p) = 1 →
         (tg d₀ (routeTg d₀ p)).lockedSince.any (fun a => decide (a + sec 1 ≤ d₀.now)) = true →
         Makes (.llRouteRestore t p) s fun d => (route d p).ll = true ∧ Entries [] d₀ d)) ∧
  (∀ (t : Ps) (n : Fin 72) (s : State),
       let d₀ := arrive t s.dev
       (∀ j, alive d₀ = true → (comp d₀ n).job = some j → Makes (.compositionComplete t n) s fun d =>
         (comp d n).job = none ∧
         (n.val < 64 → j.rep = false → ∃ f, (comp d n).done = some f ∧ f.stamp = j.stamp) ∧
         (n.val < 64 → j.rep = true → (comp d n).done = (comp d₀ n).lastOut.map fun f =>
           { f with map := f.map.map fun _ => 3, stamp := j.stamp, startAt := j.leaves })) ∧
       (∀ acc v b, Accepted t acc (K.sr_RELEASE n) v b s → Makes (.regionRelease t acc n b) s fun d =>
         Entries [] d₀ d ∧ ∀ i, regionRun d n i = if bitAt v i then (regionRun d₀ n i).release else regionRun d₀ n i))

/-- Sealing: a boundary is entered for its chain, and an enabled chain with room forms one manifest that closes there; the manifest whose
signatures are made is kept with its number and counted; operation 0x0020 that no chain owes a signature reads DONE (R465, R466, R474).
EVIDENCE_EXPORT: an export whose queue is not enabled fails with 4, one with no sealed record left reads DONE, and a record whose units
fit the paid bytes and the buffer is exported whole, with its number in [slot:0A] and [ec:06] (R467, R471, R472). -/
def Obligations.EvidenceSealing : Prop :=
  (∀ (t : Ps) (s : State),
       let d₀ := arrive t s.dev
       alive d₀ = true →
       (∀ (e : Fin 8) (b : Nat), lastBoundaryAt d₀ e = some b → (chain d₀ e).boundary < b →
         Makes (.sealBoundary t e) s fun d =>
           (chain d e).boundary = b ∧
           ((chain d₀ e).enabled = false → (chain d e).sealing = (chain d₀ e).sealing) ∧
           ((chain d₀ e).enabled = true → (chain d₀ e).reserved = true → ∃ m,
             (chain d e).sealing = (chain d₀ e).sealing ++ [m] ∧ m.boundary = b ∧ m.slot = none)) ∧
       (∀ (e : Fin 8) m rest, (chain d₀ e).sealing = m :: rest → Makes (.manifestSigned t e) s fun d =>
         (chain d e).sealing = rest ∧ rd d (K.ec_MANIFEST_SEQ e) = m.seq ∧
         (∃ bytes, (chain d e).manifests = (chain d₀ e).manifests ++ [{ seq := m.seq, bytes := bytes }]) ∧
         rd d K.x1830_MANIFESTS_SIGNED = (rd d₀ K.x1830_MANIFESTS_SIGNED + 1) % 2 ^ 64) ∧
       (∀ slot : Fin 64, running d₀ slot 0x20 = true → (slotRun d₀ slot).abortAsked = false → (slotRun d₀ slot).pos = 0 →
         sealsOwed d₀ slot = 0 → (∀ e, e < 8 → bitAt (arg d₀ slot 6) e = true → (chain d₀ e).enabled = false) →
         Makes (.evidenceSeal t slot) s fun d => slotState d slot = 3 ∧ arg d slot 0xF = 0 ∧ d.ev = d₀.ev)) ∧
  (∀ (t : Ps) (slot : Fin 64) (pois : Bool) (s : State),
       let d₀ := arrive t s.dev
       alive d₀ = true → running d₀ slot 0x21 = true →
       let e := arg d₀ slot 6
       let q := arg d₀ slot 7
       let x := slotRun d₀ slot
       (x.abortAsked = true → (queue d₀ q).descs = [] → Makes (.evidenceExport t slot pois) s fun d =>
         slotState d slot = 5 ∧ rd d (K.slot_ABORT_RESULT slot) = 1) ∧
       (x.abortAsked = false → (queue d₀ q).descs = [] → (queue d₀ q).st ≠ 1 → Makes (.evidenceExport t slot pois) s fun d =>
         slotState d slot = 4 ∧ arg d slot 0xF = 4) ∧
       (x.abortAsked = false → (queue d₀ q).descs = [] → (queue d₀ q).st = 1 → nextExport (chain d₀ e) = none →
         Makes (.evidenceExport t slot pois) s fun d => slotState d slot = 3 ∧ arg d slot 0xF = 0) ∧
       (∀ r b, e < 8 → x.abortAsked = false → (queue d₀ q).st = 1 → nextExport (chain d₀ e) = some r → x.pos = 0 →
         evBuffer (queue d₀ q) = some b →
         let stream := (recordUnits (chain d₀ e) r pois (x.aux.getD 3 0 == 1)).flatten
         b.moved + stream.length < dLength b.bytes → stream.length ≤ d₀.ctl.paid.getD 2 0 * 4096 →
         Makes (.evidenceExport t slot pois) s fun d =>
           rd d (K.ec_EXPORTED_SEQ e) = r.seq ∧ arg d slot 0xA = r.seq ∧ (slotRun d slot).pos = 0 ∧
           slotState d slot = if x.aux.getD 1 0 + 1 = x.aux.getD 0 1 then 3 else 2))

/-! ## Audio -/

/-- Embedded audio: a packet of a present group, whose signal is there, places its four samples at their instant, and repeats and counts
them under an ECC error; a group without a packet for 2 ms, or without its signal, is lost and counted; an embedder off the audio clock's
generator slips one sample and counts it (R496, R497, R498, R505, R506). Synchronism of an AES3 receiver that delivers at its plane rate:
lost, its converter converts, or without one it is muted; after 1 s of synchronism the converter is bypassed and the muted source returns
(R493, R494). -/
def Obligations.AudioInputs : Prop :=
  (∀ (t : Ps) (p : Fin 128) (s : State),
       let d₀ := arrive t s.dev
       alive d₀ = true → audioOn d₀ = true →
       let now := d₀.now
       (∀ x : AudioPacket, x.samples.length = 4 → x.invalid.length = 4 → x.locked48 = true → audioSignal d₀ p = true →
         isMember d₀ p = false → carriesGroup d₀ p x.group = true →
         let y := aunit d₀ (groupUnit p x.group)
         y.present = true → y.muted = false → y.conv = false → y.cross = none → y.fade = none →
         (∀ c, c < 4 → tabGet [] d₀.aud.feed (groupCode p x.group + c) = []) → x.eccOk = true →
         Makes (.embeddedAudioPacket t p x) s fun d => Entries [] d₀ d ∧ (aunit d (groupUnit p x.group)).lastAt = now ∧
           ∀ c, c < 4 → tabGet [] d.aud.feed (groupCode p x.group + c) =
             [{ k := instNear 0 x.sampleTime, v := x.samples.getD c 0, ok := !(x.invalid.getD c false) }]) ∧
       (∀ x : AudioPacket, x.samples.length = 4 → x.invalid.length = 4 → x.locked48 = true → audioSignal d₀ p = true →
         isMember d₀ p = false → carriesGroup d₀ p x.group = true → (aunit d₀ (groupUnit p x.group)).present = true → x.eccOk = false →
         Makes (.embeddedAudioPacket t p x) s fun d =>
           Entries [(K.ea_ECC_ERRORS p, min (rd d₀ (K.ea_ECC_ERRORS p) + 4) 0xFFFFFFFF)] d₀ d) ∧
       (∀ g : Fin 8, let y := aunit d₀ (groupUnit p g)
         y.present = true → y.lastAt + ms 2 ≤ now ∨ audioSignal d₀ p = false → Makes (.embeddedGroupTimeout t p g) s fun d =>
           (aunit d (groupUnit p g)).present = false ∧ bitAt (rd d (K.ea_GROUPS_PRESENT p)) g = false ∧
           rd d (K.ea_GROUP_LOSSES p) = min (rd d₀ (K.ea_GROUP_LOSSES p) + 1) 0xFFFFFFFF) ∧
       (∀ omits, routeTg d₀ p ≠ rd d₀ K.x3400_AUDIO_TG → rd d₀ (K.eo_ACTIVE_MASK p) ≠ 0 → Makes (.embedderSlip t p omits) s fun d =>
         Entries [(K.eo_SLIPS p, min (rd d₀ (K.eo_SLIPS p) + 1) 0xFFFFFFFF)] d₀ d ∧
         (embed d p).shift = (embed d₀ p).shift + (if omits then 1 else -1) ∧ (embed d p).shiftWas = (embed d₀ p).shift)) ∧
  (∀ (t : Ps) (a : Fin 16) (code : Fin 65536) (s : State),
       let d₀ := arrive t s.dev
       alive d₀ = true → audioOn d₀ = true →
       code.val = 0x1000 + 2 * a → rd d₀ (K.ar_AR_STATE a) = 3 ∨ rd d₀ (K.ar_AR_STATE a) = 4 →
       let u := 0x1000 + a.val
       let y := aunit d₀ u
       let inTime := rd d₀ (K.ar_RATE_HZ a) = planeRate (rd d₀ (K.ar_PLANE a)) ∧ y.asyncAt + sec 1 ≤ d₀.now
       (on d₀ (K.ar_SRC_RESERVE a) = true → y.conv = false → y.muted = false → Makes (.sourceSyncLost t code) s fun d =>
         Entries [(K.ar_SRC_STATE a, 2), (K.ar_AR_STATE a, 3)] d₀ d ∧ (aunit d u).conv = true) ∧
       (on d₀ (K.ar_SRC_RESERVE a) = false → y.muted = false → Makes (.sourceSyncLost t code) s fun d =>
         Entries [(K.ar_SRC_STATE a, 0), (K.ar_AR_STATE a, 4)] d₀ d ∧ (aunit d u).muted = true) ∧
       (on d₀ (K.ar_SRC_RESERVE a) = true → y.conv = true → y.muted = false → inTime → Makes (.srcBypassQualified t code) s fun d =>
         Entries [(K.ar_SRC_STATE a, 1), (K.ar_AR_STATE a, 3)] d₀ d ∧ (aunit d u).conv = false) ∧
       (y.muted = true → y.conv = false → inTime → Makes (.mutedSourceReturn t code) s fun d =>
         rd d (K.ar_AR_STATE a) = 3 ∧ (aunit d u).muted = false ∧ (aunit d u).fade = some (nowInst d₀ (rd d₀ (K.ar_PLANE a)))))

/-- AES3 units: the first frame starts acquisition; an acquired rate is reported, delivered through the converter or muted; a loss counts,
reads no rate and searches again; a transmitter that is enabled begins with a muted block at its settings and counts each block it has
sent (R511 to R516, R519 to R521). Streams and the audio clock: a capture block without a buffer is discarded and counted once as a gap,
and the next block begins where it ended; a playback stream whose samples run out within 2 ms reads its gap; a slew that has reached its
generator reads LOCKED to it (R482, R529, R532). -/
def Obligations.AudioUnits : Prop :=
  (∀ (t : Ps) (a : Fin 16) (s : State),
       let d₀ := arrive t s.dev
       alive d₀ = true → audioOn d₀ = true → d₀.ctl.commits = [] →
       let st := rd d₀ (K.ar_AR_STATE a)
       (∀ f, WellFormed (.aes3FrameReceived t a f) = true → st = 1 → Makes (.aes3FrameReceived t a f) s fun d =>
         Entries [(K.ar_AR_STATE a, 2)] d₀ d ∧ d.aud = d₀.aud) ∧
       (∀ f, WellFormed (.aes3FrameReceived t a f) = true → 3 ≤ st → f.good = false → Makes (.aes3FrameReceived t a f) s fun d =>
         rd d (K.ar_CONCEALED_FRAMES a) = min (rd d₀ (K.ar_CONCEALED_FRAMES a) + 1) 0xFFFFFFFF ∧
         rd d (K.ar_PARITY_ERRORS a) = rd d₀ (K.ar_PARITY_ERRORS a) ∧ rd d (K.ar_INVALID_SAMPLES a) = rd d₀ (K.ar_INVALID_SAMPLES a)) ∧
       (∀ hz, st = 2 → hz ∈ aesRates → Makes (.aes3Acquired t a hz) s fun d =>
         rd d (K.ar_RATE_HZ a) = hz ∧ (aunit d (0x1000 + a)).present = true ∧
         rd d (K.ar_AR_STATE a) = (if on d₀ (K.ar_SRC_RESERVE a) then 3 else 4) ∧
         rd d (K.ar_SRC_STATE a) = if on d₀ (K.ar_SRC_RESERVE a) then 2 else 0) ∧
       (∀ kind, st = 3 ∨ st = 4 → Makes (.aes3Loss t a kind) s fun d =>
         rd d (K.ar_AR_STATE a) = (if kind = .clockStopped then 1 else 2) ∧ rd d (K.ar_RATE_HZ a) = 0 ∧
         rd d (K.ar_LOSSES a) = min (rd d₀ (K.ar_LOSSES a) + 1) 0xFFFFFFFF ∧ aunit d (0x1000 + a) = {}) ∧
       ((aesTx d₀ a).phase = 0 → on d₀ (K.at_AT_ENABLE a) = true → Makes (.aes3TxBlockBoundary t a) s fun d =>
         rd d (K.at_AT_STATE a) = 1 ∧ (aesTx d a).phase = 1 ∧ (aesTx d a).rate = rd d₀ (K.at_AT_RATE a) ∧
         rd d (K.at_BLOCKS_SENT a) = rd d₀ (K.at_BLOCKS_SENT a)) ∧
       ((aesTx d₀ a).phase = 3 → Makes (.aes3TxBlockBoundary t a) s fun d =>
         rd d (K.at_AT_STATE a) = 3 ∧ (aesTx d a).phase = 4 ∧ rd d (K.at_BLOCKS_SENT a) = (rd d₀ (K.at_BLOCKS_SENT a) + 1) % 2 ^ 64)) ∧
  (∀ (t : Ps) (s : State),
       let d₀ := arrive t s.dev
       alive d₀ = true → audioOn d₀ = true →
       (∀ (n : Fin 64) (e : Nat), rd d₀ (K.cap_CAP_STATE n) ≠ 0 → capEnd d₀ n = some e → (capSt d₀ n).next ≠ 0 →
         e + dMin (capSt d₀ n).plane ≤ instNear (capSt d₀ n).plane (stcNs d₀) → on d₀ (K.cap_CAP_ENABLE n) = true →
         rd d₀ (K.cap_PLANE n) = (capSt d₀ n).plane → captureBufferOf d₀ (rd d₀ (K.cap_QUEUE n)) = none →
         Makes (.captureBlockForm t n) s fun d =>
           rd d (K.cap_CAP_STATE n) = 2 ∧ (capSt d n).lost = true ∧ (capSt d n).next = e ∧ (capSt d n).seq = (capSt d₀ n).seq + 1 ∧
           rd d (K.cap_DISCONTINUITIES n) = (if (capSt d₀ n).lost then rd d₀ (K.cap_DISCONTINUITIES n)
             else min (rd d₀ (K.cap_DISCONTINUITIES n) + 1) 0xFFFFFFFF)) ∧
       (∀ (n : Fin 32) (u : Nat), rd d₀ (K.pb_PB_STATE n) = 2 → (playSt d₀ n).until_ = some u →
         u < instNear (rd d₀ (K.pb_PLANE n)) (stcNs d₀) + 2 * fadeLen (rd d₀ (K.pb_PLANE n)) →
         Makes (.playbackGap t n) s fun d => Entries [(K.pb_PB_STATE n, 3)] d₀ d ∧ playSt d n = playSt d₀ n) ∧
       (rd d₀ K.x3400_AUDIO_CLOCK_STATE = 2 → audioPpb d₀ = d₀.aud.ppbTo → Makes (.audioClockSlewEnd t) s fun d =>
         Entries [(K.x3400_AUDIO_CLOCK_STATE, if rd d₀ K.x3400_AUDIO_TG < 8 then 1 else 0)] d₀ d ∧ SameRest d₀ d))

/-! ## Frame memory, windows and queues -/

/-- Frame memory: an access that meets no fault and no poison changes no entry; one that is not allowed is recorded with its page, domain,
unit, cause and kind; a freed page returns when no reader holds a frame on it; a page query is remembered for its requester (R544, R556,
R563, R584, R585). Scrub and retirement: patrol's next page, clean, is counted; the end of a retirement's copy moves the page's bytes to
its spare, where its logical page now lies, and changes no other byte (R548, R551, R575). -/
def Obligations.FrameMemory : Prop :=
  (∀ (t : Ps) (s : State),
       let d₀ := arrive t s.dev
       alive d₀ = true →
       (∀ m : MemAccess, faultCause d₀ m = 0 → m.write = true → let g := (pte d₀ m.lpn).ppn * 1024 + m.granule.val
         rd d₀ (K.x1012_MB_STATE (stackOf d₀ g)) ≠ 1 → d₀.fm.poison.contains g = false → Makes (.memoryRead t m) s fun d => d = d₀) ∧
       (∀ m : MemAccess, faultCause d₀ m ≠ 0 → (∀ x, d₀.fm.faultCycle = some x → x.1 ≠ ctlCycle d₀) → Makes (.memoryRead t m) s fun d =>
         rd d K.x3806_FAULT_COUNT = min (rd d₀ K.x3806_FAULT_COUNT + 1) 0xFFFFFFFF ∧ rd d K.x3806_LAST_PAGE = m.lpn.val ∧
         rd d K.x3806_LAST_DOMAIN = m.domain.val ∧ rd d K.x3806_LAST_UNIT = m.unit.kind.val * 2 ^ 24 + m.unit.number.val ∧
         rd d K.x3806_LAST_CAUSE = faultCause d₀ m ∧ rd d K.x3806_LAST_KIND = (if m.write then 1 else 0) ∧
         rd d K.x3806_LAST_STC = stcNs d₀) ∧
       (∀ (lpn : Fin 524288) id n, tabFind d₀.fm.freeing lpn = some (id, n) → (pte d₀ lpn).v = true →
         (∀ p ∈ d₀.video.holds, ∀ h ∈ p.2, h.1 ≠ id ∨ n ≤ h.2) →
         (∀ p ∈ d₀.host.queues, ∀ x ∈ p.2.descs, ∀ h, x.hold = some h → h.1 ≠ id ∨ n ≤ h.2) →
         Makes (.pageFree t lpn) s fun d => (pte d lpn).v = false ∧ (pte d lpn).gen = ((pte d₀ lpn).gen + 1) % 2 ^ 32 ∧
           d.fm.freeLpn = d₀.fm.freeLpn ++ [lpn.val]) ∧
       (∀ acc v b, Accepted t acc K.x3808_QUERY v b s → Makes (.pageTableQuery t acc b) s fun d =>
         Entries [] d₀ d ∧ d.fm = d₀.fm ∧ queryPage d (reqId acc.req) = queryLpn d₀ (reqId acc.req) v)) ∧
  (∀ (t : Ps) (p : Fin 524288) (s : State),
       let d₀ := arrive t s.dev
       alive d₀ = true →
       (on d₀ K.x3810_PATROL_ENABLE = true → p.val < rd d₀ K.x3800_PAGES_TOTAL →
         patrolNext d₀ ((retiredList d₀).length + d₀.fm.copies.length) d₀.fm.patrolPos = p.val →
         p.val + 1 < rd d₀ K.x3800_PAGES_TOTAL → retiredList d₀ = [] → d₀.fm.suspects = [] → 1 ≤ d₀.ctl.paid.getD 4 0 →
         Makes (.patrolScrubPage t p []) s fun d =>
           rd d K.x3810_PASS_PAGES = rd d₀ K.x3810_PASS_PAGES + 1 ∧ rd d K.x3810_SUSPECT_ENTRIES = 0 ∧
           d.fm.patrolPos = p.val + 1 ∧ d.ctl.paid.getD 4 0 = d₀.ctl.paid.getD 4 0 - 1) ∧
       (∀ c, tabFind d₀.fm.copies p = some c → c.lpn < 524288 → c.spare ≠ p.val → memWf s.mem = true →
         ∃ d m, exec (.pageRetirementCopyEnd t p) s = .next { s with dev := d, mem := m } ∧
           (pte d c.lpn).ppn = c.spare ∧ (pte d c.lpn).gen = ((pte d₀ c.lpn).gen + 1) % 2 ^ 32 ∧ tabFind d.fm.copies p = none ∧
           (∀ o, o < 65536 → memGet m (c.spare * 65536 + o) = memGet s.mem (p * 65536 + o)) ∧
           ∀ a, a / 65536 ≠ p.val → a / 65536 ≠ c.spare → memGet m a = memGet s.mem a))

/-- A function's window: a read is answered with the bytes of the mapped page, a write stores its bytes there and no others, an access to
a page that is not mapped is an Unsupported Request recorded with cause 0x01, and a window that grows maps a page of zeros (R559, R570 to
R573). A HOST_TO_WINDOW, however it ends, changes no byte outside the span of the window that its descriptor names from the byte it starts
at. -/
def Obligations.HostWindows : Prop :=
  (∀ (t : Ps) (f : Fin 64) (o : Nat) (s : State),
       let d₀ := arrive t s.dev
       alive d₀ = true →
       let up := rd d₀ (K.fn_FN_STATE f) = 1 ∧ rd d₀ K.x3C00_LINK_STATE ≠ 0 ∧ o < 2 ^ 35
       (∀ n a, up → 1 ≤ n → o % 4096 + n ≤ 4096 → windowAddr d₀ f o = some a →
         (granulesOf a n).any (isPoisoned d₀ ((window d₀ f).getD (o / 65536) 0)) = false →
         Makes (.bar4Read t f o n) s fun d => d = toHost (.readData f (memRead s.mem a n) false) d₀) ∧
       (∀ n, up → 1 ≤ n → o % 4096 + n ≤ 4096 → windowAddr d₀ f o = none → Makes (.bar4Read t f o n) s fun d =>
         rd d K.x3806_FAULT_COUNT = min (rd d₀ K.x3806_FAULT_COUNT + 1) 0xFFFFFFFF ∧ d.host.out.head? = some (.unsupported f.val)) ∧
       (∀ b a, up → 1 ≤ b.length → o % 4096 + b.length ≤ 4096 → windowAddr d₀ f o = some a → memWf s.mem = true →
         ∃ d m, exec (.bar4Write t f o b) s = .next { s with dev := d, mem := m } ∧
           (∀ i, i < b.length → memGet m (a + i) = b.getD i 0) ∧ (∀ x, x < a ∨ a + b.length ≤ x → memGet m x = memGet s.mem x) ∧
           ∀ j, j ≠ K.x3800_POISON_STATE → rd d j = rd d₀ j) ∧
       ((window d₀ f).length < rd d₀ (K.dom_WINDOW_PAGES f) → freshPpns d₀ 1 ≠ [] → memWf s.mem = true →
         ∃ d m, exec (.windowGrowPage t f) s = .next { s with dev := d, mem := m } ∧
           (window d f).length = (window d₀ f).length + 1 ∧ (window d f).take (window d₀ f).length = window d₀ f ∧
           rd d (K.dom_WINDOW_READY f) = (window d₀ f).length + 1 ∧
           let new (i : Nat) : Option Nat := windowAddr d f ((window d₀ f).length * 65536 + i)
           (∀ i, i < 65536 → ∃ a, new i = some a ∧ memGet m a = 0) ∧
           ∀ a, (∀ i, i < 65536 → new i ≠ some a) → memGet m a = memGet s.mem a)) ∧
  (∀ (t : Ps) (x : Desc) (h : HostRead) (s s' : State),
       let d₀ := arrive t s.dev
       exec (.hostToWindow t x h) s = .next s' →
       let i := (startInfo d₀ x.queue x.ring).getD {}
       let n := dLength x.bytes - i.from_
       ∀ a, (∀ p ∈ windowSpan d₀ ((qFn d₀ x.queue).getD 0) (n / 65536 + 2) (leAt x.bytes 32 8 + i.from_) n, a < p.2.1 ∨ p.2.1 + p.2.2 ≤ a) →
         memGet s'.mem a = memGet s.mem a)

/-- A descriptor that starts: one whose opcode its queue's type does not take finishes with BAD_DESCRIPTOR, a NOP with OK, one of a
draining queue with CANCELLED; a fence notes what was placed before it, and a buffer waits (R613, R617, R623, R627). -/
def Obligations.DescriptorsStart : Prop :=
  ∀ (t : Ps) (x : Desc) (c : Instr) (s : State),
    let d₀ := arrive t s.dev
    alive d₀ = true → x.bytes.length = 64 →
    (c = .nop t x ∨ c = .fenceLocal t x ∨ c = .fenceHost t x ∨ c = .fencePersist t x ∨ c = .captureBuffer t x ∨ c = .eventBuffer t x ∨
      c = .evidenceBuffer t x) → WellFormed c = true →
    let starts := Fresh x d₀
    let buffer := dOpcode x.bytes = 0x0301 ∨ dOpcode x.bytes = 0x0501 ∨ dOpcode x.bytes = 0x0601
    (starts → opcodeFor (queue d₀ x.queue) (dOpcode x.bytes) = false → Makes c s (Finished x 5 0 0 0)) ∧
    (starts → dOpcode x.bytes = 1 → headerOk x.bytes = true → Makes c s (Finished x 0 0 0 0)) ∧
    (starts → isFence x.bytes = true → Makes c s fun d => InPlace x d fun y =>
      y.status = none ∧ y.need = some d₀.nv.nextId ∧ y.result = d₀.ctl.granted) ∧
    (starts → buffer → opcodeFor (queue d₀ x.queue) (dOpcode x.bytes) = true → headerOk x.bytes = true →
      (dOpcode x.bytes = 0x0501 → dLength x.bytes % 64 = 0 ∧ 64 ≤ dLength x.bytes) →
      Makes c s fun d => InPlace x d fun y => y.status = none ∧ y.moved = 0) ∧
    (startInfo d₀ x.queue x.ring = some { cancelled := true } →
      (∀ y ∈ (queue d₀ x.queue).descs, y.ring ≠ x.ring.val) → Makes c s (Finished x 1 0 0 0))

/-- Transfers that may start and have share or paid units for their traffic: EXPORT_FRAME writes the lines of the newest frame of its
store, WINDOW_TO_HOST the bytes of the window, HOST_TO_WINDOW stores the host's bytes there, IMPORT_PLANE puts a part into the open plane
frame, PLAYBACK_BLOCK publishes its samples; each finishes with OK and its byte count (R609, R614, R615, R616, R531). -/
def Obligations.Transfers : Prop :=
  ∀ (t : Ps) (x : Desc) (s : State),
    let d₀ := arrive t s.dev
    alive d₀ = true → Fresh x d₀ →
    opcodeFor (queue d₀ x.queue) (dOpcode x.bytes) = true → x.bytes.length = 64 → headerOk x.bytes = true →
    let c := queue d₀ x.queue
    let b := x.bytes
    let fn := (qFn d₀ x.queue).getD 0
    let n := dLength b
    let may := shareCredit d₀ x.queue + paidBytes d₀ x.queue
    (∀ f, dOpcode b = 0x0101 → (b.drop 28).all (· == 0) = true → (store d₀ (exportStore c.target)).frames.getLast? = some f →
      let h := (frameSize f).2
      let pk := storePacking d₀ (exportStore c.target)
      let l := exportPlaced b f pk h (lineBytes (frameSize f).1 pk)
      0 < h → placedLength l ≤ may → (((l.getLast?).map fun x => x.1 + x.2.length - dAddr b).getD 0) ≤ n →
      Makes (.exportFrame t x false .ok) s fun d =>
        Finished x 0 (placedLength l) f.format f.stamp d ∧ ∀ p ∈ l, p.2 ≠ [] → HostTxn.write fn p.1 (relaxedOk d₀ fn) p.2 ∈ d.host.out) ∧
    (dOpcode b = 0x0102 → windowDescOk b = true →
      let span := windowSpan d₀ fn (n / 65536 + 2) (leAt b 32 8) n
      n ≤ may → spanLength span = n → spanPoison d₀ 0 span = none → Makes (.windowToHost t x .ok) s fun d =>
        Finished x 0 n 0 0 d ∧
        d.host.out = .write fn (dAddr b) (relaxedOk d₀ fn) (span.flatMap fun p => memRead s.mem p.2.1 p.2.2) :: d₀.host.out) ∧
    (∀ data a, dOpcode b = 0x0202 → n ≤ may → windowDescOk b = true → windowAddr d₀ fn (leAt b 32 8) = some a →
      leAt b 32 8 % 65536 + n ≤ 65536 → ∃ d, exec (.hostToWindow t x (.ok data)) s =
        .next { s with dev := d, mem := memWrite a (padTo n data) s.mem } ∧ Finished x 0 n 0 0 d) ∧
    (∀ data p f, dOpcode b = 0x0201 → n ≤ may → c.plane = some p → p.open_ = some f → leAt b 28 1 = 0 → planePartOk b f.data.length = true →
      Makes (.importPlane t x (.ok data)) s fun d => Finished x 0 n 0 0 d ∧
        (queue d x.queue).plane = some { p with open_ := some { f with
          data := overlay f.data (leAt b 32 4) (padTo n data), got := f.got + n } }) ∧
    (∀ data k, dOpcode b = 0x0401 → (data.take n).length ≤ may → (b.drop 28).all (· == 0) = true → playStreamOf d₀ x.queue = some k → audioBlockOk (data.take n) = true →
      leAt (data.take n) 14 1 = rd d₀ (K.pb_CHANNELS k) → bitAt (leAt (data.take n) 20 4) 1 = (rd d₀ (K.pb_PLANE k) == 1) →
      stcNs d₀ ≤ leAt (data.take n) 0 8 → tabGet [] d₀.aud.feed (playCode k 0) = [] →
      Makes (.playbackBlock t x (.ok data)) s fun d => Finished x 0 (data.take n).length 0 0 d ∧
        rd d (K.pb_PB_STATE k) = 2 ∧ rd d (K.pb_PB_BLOCKS k) = (rd d₀ (K.pb_PB_BLOCKS k) + 1) % 2 ^ 64)

/-- Completions: the oldest that may be written is written at CQ_TAIL in its 32 bytes and CQ_TAIL moves on; the oldest written retires and
SQ_HEAD follows; the end of a holdoff sends the message owed; an event buffer in use completes 1 ms after its first record (R617 to R621,
R632). -/
def Obligations.Completions : Prop :=
  ∀ (t : Ps) (q : Fin 65536) (s : State),
    let d₀ := arrive t s.dev
    alive d₀ = true →
    let c := queue d₀ q
    let fn := (qFn d₀ q).getD 0
    let now := d₀.now
    (∀ x, c.st ≠ 0 → rd d₀ K.x3C00_LINK_STATE ≠ 0 → rd d₀ (K.fn_FN_STATE fn) ≠ 2 → pickCompletion d₀ q [] c.descs = some x →
      cqFree c ≠ 0 → dIrq x.bytes = false → Makes (.completionWrite t q) s fun d =>
        d.host.out = .write fn (c.cqBase + c.cqTail * 32) false (completionBytes c { x with status := some (x.status.getD 0) }) :: d₀.host.out ∧
        (queue d q).cqTail = (c.cqTail + 1) % 2 ^ c.cqLog2 ∧
        (queue d q).phase = (if (c.cqTail + 1) % 2 ^ c.cqLog2 = 0 then !c.phase else c.phase) ∧
        ∀ q', q' ≠ q.val → queue d q' = queue d₀ q') ∧
    (∀ x, c.descs.find? (·.written) = some x → Makes (.descriptorRetire t q) s fun d =>
      (queue d q).descs = c.descs.filter (fun y => y.ring != x.ring) ∧
      (queue d q).head = sqHead { c with descs := c.descs.filter fun y => y.ring != x.ring } ∧ Entries [] d₀ d) ∧
    (∀ u, c.irqUntil = some u → u ≤ now → c.irqOwed = true → c.vector ≠ 0xFFFF → rd d₀ (K.fn_FN_STATE fn) ≠ 2 →
      Makes (.irqHoldoffExpiry t q) s fun d => d.host.out = .msix fn c.vector false :: d₀.host.out ∧ (queue d q).irqOwed = false ∧
        (queue d q).irqUntil = if c.holdoff = 0 then none else some (now + us c.holdoff)) ∧
    (∀ u, c.irqUntil = some u → u ≤ now → c.irqOwed = false → Makes (.irqHoldoffExpiry t q) s fun d =>
      d.host.out = d₀.host.out ∧ queue d q = { c with irqUntil := none }) ∧
    (∀ b, c.bufFirst = some b → b + ms 1 ≤ now → Makes (.eventBufferTimeout t q) s fun d =>
      (queue d q).bufFirst = none ∧ Entries [] d₀ d ∧
      ∀ x l, c.descs = x :: l → x.status = none → dOpcode x.bytes = 0x0501 → x.moved ≠ 0 →
        (queue d q).descs = { x with status := some 0 } :: l)

/-- Doorbells and queue control: a doorbell moves SQ_TAIL and CQ_HEAD of a RUNNING or PAUSED queue of its function, one that breaks a rule
is discarded and counted with its reason; enable starts a DISABLED queue at index 0, disable drains it, a drained queue reads DISABLED,
and RESUME takes a PAUSED queue on (R606, R610, R611, R626, R627). -/
def Obligations.QueueControl : Prop :=
  ∀ (t : Ps) (acc : Access) (s : State),
    let d₀ := arrive t s.dev
    alive d₀ = true →
    let q := qsel d₀ (reqId acc.req)
    let c := queue d₀ q
    (∀ (f : Fin 64) (n : Fin 65536) (b : List Byte), rd d₀ (K.fn_FN_STATE f) ≠ 0 → qFn d₀ n = some f.val → b.length = 8 →
      let c := queue d₀ n
      let tl := fld (leNat b) 0 16
      let hd := fld (leNat b) 32 16
      c.st = 1 ∨ c.st = 2 → bitAt (leNat b) 31 = true → bitAt (leNat b) 63 = true → tl < 2 ^ c.sqLog2 → hd < 2 ^ c.cqLog2 →
      Makes (.doorbellWrite t f (8 * n) b) s fun d =>
        queue d n = { c with tail := tl, cqHead := hd, shareAt := if queueWorks c then c.shareAt else d₀.now } ∧ Entries [] d₀ d) ∧
    (∀ (f : Fin 64) (o : Nat) (b : List Byte), o < 524288 →
      let n := o / 8
      let reason := if ¬((b.length = 8 ∧ o % 8 = 0) ∨ (b.length = 4 ∧ o % 4 = 0)) then 4 else if rd d₀ (K.fn_FN_STATE f) = 0 then 2
        else if qFn d₀ n ≠ some f.val then 1 else if (queue d₀ n).st = 0 ∨ (queue d₀ n).st = 3 then 2 else 0
      reason ≠ 0 → Makes (.doorbellWrite t f o b) s fun d =>
        Entries [(K.x3C00_DOORBELL_DISCARDS, min (rd d₀ K.x3C00_DOORBELL_DISCARDS + 1) 0xFFFFFFFF),
          (K.x3C00_LAST_DISCARD, reason * 2 ^ 24 + f.val * 2 ^ 16 + n)] d₀ d ∧ d.host = d₀.host) ∧
    (Accepted t acc K.x3C01_Q_ENABLE 1 [1] s → c.st = 0 → Makes (.queueEnable t acc) s fun d =>
      (queue d q).st = 1 ∧ (queue d q).enable = 1 ∧ (queue d q).head = 0 ∧ (queue d q).tail = 0 ∧ (queue d q).cqTail = 0 ∧
      (queue d q).cqHead = 0 ∧ (queue d q).phase = true ∧ (queue d q).descs = [] ∧ (queue d q).sqBase = c.sqBase) ∧
    (Accepted t acc K.x3C01_Q_ENABLE 0 [0] s → c.st = 1 ∨ c.st = 2 → Makes (.queueDisable t acc) s fun d =>
      (queue d q).st = 3 ∧ (queue d q).enable = 0 ∧ ∀ y ∈ (queue d q).descs, y.status ≠ none) ∧
    (Accepted t acc K.x3C01_RESUME 1 [1] s → c.st = 2 → Makes (.resumeSkip t acc) s fun d =>
      queue d q = { c with st := 1, pause := 0, retryFrom := none, shareAt := d₀.now } ∧ Entries [] d₀ d) ∧
    (∀ y, Accepted t acc K.x3C01_RESUME 2 [2] s → c.st = 2 → c.descs.find? (fun x => x.ring == c.pause % 65536) = some y →
      Makes (.resumeRetry t acc) s fun d =>
        queue d q = { c with st := 1, pause := 0, retryFrom := some (c.pause % 65536, y.moved), shareAt := d₀.now } ∧ Entries [] d₀ d) ∧
    (∀ n : Fin 65536, drained (queue d₀ n) = true → Makes (.queueDrainComplete t n) s fun d =>
      (queue d n).st = 0 ∧ (queue d n).descs = [] ∧ (queue d n).typ = (queue d₀ n).typ)

/-- Functions: FLR and clear of Bus Master Enable send a function to DRAINING and discard its basting, hot reset and clear of VF Enable
send all or the virtual functions there; a drained one reads ENABLED, or ABSENT after VF Enable was cleared; VF Enable brings absent
functions up (R593, R597, R598, R599). The link, PERST# and DOE: a link that goes down is counted and pauses its RUNNING queues with cause
LINK_DOWN; one that comes up is reported with its width and speed; DOE discovery and attestation requests are answered; PERST# under
HOST_ONLY takes the compatibility mode that was asked for (R2, R588, R591, R592, R767, R769, R792). -/
def Obligations.FunctionsAndLink : Prop :=
  (∀ (t : Ps) (f : Fin 64) (s : State),
       let d₀ := arrive t s.dev
       alive d₀ = true →
       let st := rd d₀ (K.fn_FN_STATE f)
       let drains (d : Dev) : Prop := rd d (K.fn_FN_STATE f) = 2 ∧ basting d f = {}
       (st ≠ 0 → Makes (.functionLevelReset t f) s fun d => drains d ∧
         rd d (K.fn_FLR_COUNT f) = min (rd d₀ (K.fn_FLR_COUNT f) + 1) 0xFFFFFFFF ∧ ∀ u : Fin 4, (user d u).unlocked.contains f.val = false) ∧
       (st ≠ 0 → Makes (.busMasterDisable t f) s fun d => drains d ∧ rd d (K.fn_FLR_COUNT f) = rd d₀ (K.fn_FLR_COUNT f)) ∧
       (st ≠ 0 → Makes (.hotReset t) s fun d => rd d (K.fn_FN_STATE f) = 2) ∧
       (st ≠ 0 → f.val ≠ 0 → Makes (.vfDisable t) s fun d => rd d (K.fn_FN_STATE f) = 2 ∧ rd d K.x3C00_NUM_VFS = 0) ∧
       (st = 2 → (slotsOf d₀ f).any (slotBusy d₀) = false → Makes (.functionDrainComplete t f) s fun d =>
         rd d (K.fn_FN_STATE f) = if tabGet 0 d₀.host.draining f = 3 then 0 else 1) ∧
       (∀ n : Fin 64, rd d₀ K.x3C00_NUM_VFS = 0 → st = 0 → 1 ≤ f.val → f.val ≤ n.val → Makes (.vfEnable t n) s fun d =>
         rd d K.x3C00_NUM_VFS = n.val ∧ rd d (K.fn_FN_STATE f) = 1)) ∧
  (∀ (t : Ps) (s : State),
       let d₀ := arrive t s.dev
       (alive d₀ = true → rd d₀ K.x3C00_LINK_STATE ≠ 0 → Makes (.linkDown t) s fun d =>
         rd d K.x3C00_LINK_STATE = 0 ∧ rd d K.x3C00_LINK_DOWNS = min (rd d₀ K.x3C00_LINK_DOWNS + 1) 0xFFFFFFFF ∧
         ∀ q, (queue d₀ q).st = 1 → (queue d q).st = 2 ∧ (queue d q).pause = 0x0A000000 + sqHead (queue d₀ q)) ∧
       (∀ w v, alive d₀ = true → WellFormed (.linkUp t w v) = true → booted d₀ = true → reduced d₀ 4 = false →
         d₀.boot.started = true → Makes (.linkUp t w v) s fun d =>
           rd d K.x3C00_LINK_STATE = 1 ∧ rd d K.x3C00_LINK_WIDTH = w ∧ rd d K.x3C00_LINK_SPEED = v) ∧
       (∀ i, alive d₀ = true → Makes (.doeDiscovery t i) s fun d => Entries [] d₀ d ∧
         ∃ b, b.length = 4 ∧ d.host.out = .doe b :: d₀.host.out) ∧
       (∀ nonce, alive d₀ = true → nonce.length = 32 → Makes (.doeUmousaRequest t nonce) s fun d =>
         d.host.out.head? = some (.doe (padTo 3632 (umousa nonce d₀).1))) ∧
       (d₀.boot.scope ≠ 0 → d₀.boot.perst = false → alive d₀ = true → Makes (.perstAssert t) s fun d =>
         d.boot.perst = true ∧ (rd d₀ (K.fn_FN_STATE 0) ≠ 0 → rd d (K.fn_FN_STATE 0) = 2)) ∧
       (d₀.boot.scope = 0 → d₀.boot.perst = false → Makes (.perstAssert t) s fun d => d.boot.perst = true ∧ d.boot.scope = 0) ∧
       (d₀.boot.scope ≠ 0 → d₀.boot.perst = true → Makes (.perstDeassert t) s fun d =>
         d.boot.perst = false ∧ d.boot.compat = d₀.nv.bootCfg.getD 2 0 ∧ rd d K.x1000_COMPAT_ACTIVE = d₀.nv.bootCfg.getD 2 0 ∧
         rd d K.x1000_PCIE_DEVICE_ID = if d₀.nv.bootCfg.getD 2 0 = 1 then 0x0064 else 0x0128))

/-! ## Power, the persist path and the flash -/

/-- Power failure: an accepted PFAIL_N starts the flush of a mounted store and takes the link down; the flush that ends asserts PSAFE and
notes its figures; power that returns after PSAFE restarts with cause 0x05 and default entries; a comparator at T_ABS stops the clocks at
once; a rail below its limit is counted and flushes; RESET_N low for 100 ns or more resets (R689, R693, R694, R696, R765, R768, R830,
R831). -/
def Obligations.PowerFails : Prop :=
  ∀ (t : Ps) (s : State),
    let d₀ := arrive t s.dev
    let p := d₀.power
    let now := d₀.now
    let mounted := rd d₀ K.x1A00_NV_STATE = 2
    (p.psafe = false → p.stopped = false → p.flush = none → mounted → Makes (.pfailAccept t) s fun d =>
      d.power.flush = some (now, occupancy d₀ + 8192, 0) ∧ rd d K.x3C00_LINK_STATE = 0 ∧ d.nv.restartCause = 2 ∧ alive d = false) ∧
    (p.psafe = false → p.stopped = false → p.flush = none → ¬mounted → Makes (.pfailAccept t) s fun d => d.power.psafe = true) ∧
    (∀ t₀ bytes, p.flush = some (t₀, bytes, 0) → p.resetOwed = none → Makes (.flushDrainComplete t) s fun d =>
      d.power.psafe = true ∧ d.power.flush = none ∧ d.nv.restartCause = 1 ∧
      Entries [(K.x1640_FLUSH_COUNT, min (rd d₀ K.x1640_FLUSH_COUNT + 1) 0xFFFFFFFF),
        (K.x1640_LAST_FLUSH_US, min ((now - t₀) / 1000000) 0xFFFFFFFF), (K.x1640_LAST_FLUSH_BYTES, bytes)] d₀ d) ∧
    (p.psafe = true → d₀.boot.resetN = false → rd d₀ K.x1C40_BOOT_STEP ≠ 0xFE → Makes (.powerReturnRestart t) s fun d =>
      d.power.psafe = false ∧ d.boot.nextCause = some 5 ∧ d.boot.started = false ∧
      rd d K.x1640_RESTART_CAUSE = (if d₀.nv.restartCause = 2 then 2 else 3) ∧
      ∀ k, k ≠ K.x1640_RESTART_CAUSE → k ≠ K.x1602_LAST_STOP_CAUSE → k ≠ K.x1C40_RESTARTS → rd d k = dflt k) ∧
    (p.stopped = false → Makes (.tAbsTrip t) s fun d => d.power.stopped = true ∧ d.power.thermTrip = true ∧ d.power.psafe = false ∧
      d.nv.restartCause = 2 ∧ d.nv.lastStop = 2 ∧ d.nv.buf = d₀.nv.buf ∧ Entries [] d₀ d) ∧
    (∀ r : Fin 11, alive d₀ = true → d₀.boot.started = true → rd d₀ K.x1C40_BOOT_STEP ≠ 1 → mounted →
      Makes (.railUndervoltage t r) s fun d => rd d K.x1610_LAST_RAIL = r.val + 1 ∧
        rd d K.x1610_RAIL_FAULTS = min (rd d₀ K.x1610_RAIL_FAULTS + 1) 0xFFFFFFFF ∧ d.power.flush ≠ none ∧ rd d K.x3C00_LINK_STATE = 0) ∧
    (∀ low, 100000 ≤ low → p.psafe = false → p.stopped = false → p.flush = none → mounted → Makes (.resetNAssert t low) s fun d =>
      d.power.flush = some (now, occupancy d₀ + 8192, 2) ∧ rd d K.x3C00_LINK_STATE = 0) ∧
    (∀ low, 100000 ≤ low → p.psafe = true ∨ p.stopped = true → Makes (.resetNAssert t low) s fun d =>
      d.boot.resetN = true ∧ d.boot.started = false) ∧
    (∀ low, low < 100000 → Makes (.resetNAssert t low) s fun d => d = d₀)

/-- The persist path: the window follows a smaller reserve at once, the lowest of ten hold-up samples is the bulk voltage, a waiting write
is taken when the buffer has room, the oldest item is programmed and its second copy owed, then made; failed programs and erases are
counted and listed (R681 to R685, R719, R722, R724). -/
def Obligations.PersistPath : Prop :=
  ∀ (t : Ps) (s : State),
    let d₀ := arrive t s.dev
    alive d₀ = true →
    let now := d₀.now
    let nv := d₀.nv
    (∀ code : Fin 4096, d₀.power.sampleAt + us 100 ≤ now → Makes (.holdupSample t code) s fun d =>
      let l := (code.val * 1000 * rd d₀ K.x1640_HOLDUP_DIVIDER :: d₀.power.vb).take 10
      Entries [(K.x1640_VBULK_MV, min (l.foldl min (l.headD 0) / 2 ^ 28) 0xFFFFFFFF)] d₀ d ∧ d.power.vb = l) ∧
    (d₀.power.reserveAt + ms 1 ≤ now → d₀.ctl.commits = [] → (∀ slot : Fin 64, running d₀ slot 0x70 = false) →
      let w := windowFor (reserve d₀).1 (reserve d₀).2
      w ≤ rd d₀ K.x1640_WINDOW_KIB → Makes (.reserveUpdate t) s fun d =>
        rd d K.x1640_WINDOW_KIB = w ∧ rd d K.x1640_RESERVE_MJ = (reserve d₀).1 / (reserve d₀).2 ∧
        rd d K.x5107_K_E = if w = 248 then 1024 else 512) ∧
    (∀ x, d₀.ctl.commits = [] → firstWaiting nv.buf = some x → bufferTakes d₀ (isTables x.recd.key) x.cost = true →
      (∀ slot : Fin 64, running d₀ slot 0x70 = false) → Makes (.persistWriteAdmit t) s fun d =>
        d.nv.buf = nv.buf.map (fun y => if y.id = x.id then { y with inBuf := true } else y) ∧
        ∀ j, j ≠ K.x1640_PB_STATE → isLost j = false → rd d j = rd d₀ j) ∧
    (∀ x r, d₀.ctl.commits = [] → nv.buf = x :: r → x.inBuf = true → x.slotRing = none →
      (∀ slot : Fin 64, running d₀ slot 0x70 = false) → Makes (.persistDrainRecord t) s fun d =>
        d.nv.buf = r ∧ d.nv.toCopy = nv.toCopy ++ (parts x.recd).map fun p => (isTables x.recd.key, p)) ∧
    (∀ b x r, nv.toCopy = (b, x) :: r → Makes (.ringBCopy t b) s fun d => d.nv.toCopy = r ∧ Entries [] d₀ d) ∧
    (∀ x r, nv.buf = x :: r → Makes (.flashProgramFail t) s fun d =>
      rd d K.x1A00_PROGRAM_FAILS = min (rd d₀ K.x1A00_PROGRAM_FAILS + 1) 0xFFFFFFFF) ∧
    (∀ (r : Fin 4) p l, (ring d₀ r).pend = p :: l →
      (Makes (.sectorEraseComplete t r) s fun d => (ring d r).pend = l ∧ tabGet 0 (ring d r).erases p = tabGet 0 (ring d₀ r).erases p + 1) ∧
      (Makes (.flashEraseFail t r) s fun d => (ring d r).pend = l ∧ (ring d r).bad = (ring d₀ r).bad ++ [p])) ∧
    (∀ (r : Fin 4) x y l, erasedAhead d₀ r < (compactBelow r).2 → (ring d₀ r).used = x :: y :: l →
      (ring d₀ r).bad.contains x.place = false → Makes (.autoCompaction t r) s fun d =>
        (ring d r).pend = (ring d₀ r).pend ++ [x.place] ∧ Entries [] d₀ d) ∧
    (∀ slot : Fin 64, running d₀ slot 0x30 = true → (slotRun d₀ slot).abortAsked = false →
      (∀ r ∈ opRings d₀ slot, arg d₀ slot 7 ≤ erasedAhead d₀ r) → Makes (.nvCompaction t slot) s fun d =>
        slotState d slot = 3 ∧ arg d slot 0xF = 0 ∧ d.nv = d₀.nv)

/-! ## Thermal management and start-up -/

/-- Thermal management: a sample reports the sensors, the level and k_T; enforcement starts when the grace time ends, goes one step on
after 100 ms at SLOW or above, and lifts one step after 100 ms below it (R183, R747, R754, R755, R758, R761, R766). -/
def Obligations.ThermalManagement : Prop :=
  ∀ (t : Ps) (s : State),
    let d₀ := arrive t s.dev
    alive d₀ = true →
    let n := rd d₀ K.x1602_SHED_STEP
    let stepped (v : Nat) (d : Dev) : Prop := EntriesE [(K.x1602_SHED_STEP, v)] d₀ d ∧ d.therm.stepAt = d₀.now
    (∀ r : List (Option Int), WellFormed (.thermalSample t r) = true → sampleDue d₀ = true →
      let e := (List.range 5).map fun i => enteredNext d₀ (runsNext d₀ r i) i
      let level := levelOf e (regionBlind r)
      level ≠ 4 → Makes (.thermalSample t r) s fun d =>
        rd d K.x1602_THERMAL_LEVEL = level ∧ rd d K.x5107_K_T = kTOf d₀ r level * 1024 / 160 ∧ d.therm.entered = e ∧
        (∀ j, j < 36 → rd d (K.x1601_DIE_T j) = match r.getD j none with
          | some v => satTc 16 v
          | none => 0x8000) ∧
        (level = 3 → rd d K.x1602_SHED_STEP = 4)) ∧
    (on d₀ K.x1602_THROTTLE_FLAG = true → 2 ≤ rd d₀ K.x1602_THERMAL_LEVEL → d₀.therm.graceEnd ≤ d₀.now → n = 0 →
      Makes (.graceExpiry t) s (stepped 1)) ∧
    (2 ≤ rd d₀ K.x1602_THERMAL_LEVEL → 1 ≤ n → n ≤ 2 → d₀.therm.stepAt + ms 100 ≤ d₀.now →
      Makes (.shedStepAdvance t) s (stepped (n + 1))) ∧
    (rd d₀ K.x1602_THERMAL_LEVEL < 2 → 1 ≤ n → d₀.therm.stepAt + ms 100 ≤ d₀.now →
      Makes (.shedStepLift t) s (stepped (n - 1)))

/-- When S24 completes, DICT_STATE reads READY_REDUCED while [1C40:03] is non-zero, and READY otherwise (R777). -/
def Obligations.ReadyAfterS24 : Prop :=
  ∀ (t : Ps) (f : BootFindings) (s : State),
    let d₀ := arrive t s.dev
    alive d₀ = true → d₀.boot.started = true → d₀.boot.held = false →
    rd d₀ K.x1C40_BOOT_STEP = 24 → d₀.now ≤ d₀.boot.stepAt + ms 1000 →
    Makes (.bootStepEnd t .pass f) s fun d =>
      (rd d K.x1C40_REDUCED ≠ 0 → rd d K.x1001_DICT_STATE = 3) ∧ (rd d K.x1C40_REDUCED = 0 → rd d K.x1001_DICT_STATE = 2)

/-- Start-up: BOOT_START opens a ledger entry with its cause; a step that passes by its primary method is recorded and the next one
begins; S24 ends the start with READY, or READY_REDUCED when something was reduced; S01 and S02 that fail are held and tried again after
10 ms; a step past its limit costs its capability where the start goes on; RECOVERY is left by a restart (R770, R771, R775, R777, R778,
R781, R782). -/
def Obligations.StartUp : Prop :=
  ∀ (t : Ps) (s : State),
    let d₀ := arrive t s.dev
    let now := d₀.now
    let n := rd d₀ K.x1C40_BOOT_STEP
    (∀ (cause : Fin 7) (node : Fin 128), 1 ≤ cause.val → d₀.boot.started = false → d₀.power.flush = none → d₀.power.stopped = false →
      d₀.power.psafe = false → d₀.boot.perst = false → d₀.boot.nextCause = none → Makes (.bootStart t cause node) s fun d =>
        d.boot.started = true ∧ d.boot.resetN = false ∧ d.boot.t0 = now ∧ rd d K.x1C40_START_CAUSE = cause.val ∧
        rd d K.x1C40_START_SEQ = startSeqNow d₀ + 1 ∧ d.boot.scope = d₀.nv.bootCfg.getD 3 0 ∧
        (cause.val = 1 → d.boot.nodeId = node.val ∧ d.boot.compat = d₀.nv.bootCfg.getD 2 0)) ∧
    (alive d₀ = true → d₀.boot.started = true → d₀.boot.held = false →
      (∀ f e, n ∈ [1, 3, 10, 12, 14, 17, 19, 20, 21] → d₀.nv.ledger.getLast? = some e → e.reset = false → e.outcome.length = 24 →
        planned d₀ n = 0 → planned d₀ (n + 1) ≤ 1 → n ≠ 3 ∨ d₀.boot.perst = false →
        ((stepLimit n).any fun l => decide (d₀.boot.stepAt + ms l < now)) = false →
        Makes (.bootStepEnd t .pass f) s fun d =>
          rd d K.x1C40_BOOT_STEP = n + 1 ∧ (thisEntry d).outcome.getD (n - 1) none = some 1 ∧ d.boot.stepAt = now) ∧
      (∀ f, n = 24 → planned d₀ 24 = 0 → d₀.boot.stepAt + ms 1000 ≥ now → d₀.boot.restored = [] →
        Makes (.bootStepEnd t .pass f) s fun d =>
          rd d K.x1C40_BOOT_STEP = 0x19 ∧ rd d K.x1001_DICT_STATE = (if rd d₀ K.x1C40_REDUCED = 0 then 2 else 3) ∧
          rd d K.x1C40_BOOT_MS = (now - d₀.boot.t0) / 1000000000) ∧
      (∀ f, n = 1 ∨ n = 2 → Makes (.bootStepEnd t .fail f) s fun d =>
        d.boot.held = true ∧ d.boot.stepAt = now ∧ rd d K.x1C40_BOOT_STEP = n ∧ d.nv = d₀.nv) ∧
      (∀ l b, 1 ≤ n → n ≤ 24 → stepLimit n = some l → d₀.boot.stepAt + ms l ≤ now → stepKind n ≠ 0 → stepOnFail n = 2 →
        stepBit n = some b → Makes (.bootStepTimeout t) s fun d => bitAt (rd d K.x1C40_REDUCED) b = true)) ∧
    (alive d₀ = true → d₀.boot.held = true → d₀.boot.stepAt + ms 10 ≤ now →
      (Makes (.bootHoldRetry t false) s fun d => d.boot.held = true ∧ d.boot.stepAt = now ∧ rd d K.x1C40_BOOT_STEP = n) ∧
      (n = 1 → planned d₀ 2 ≤ 1 → Makes (.bootHoldRetry t true) s fun d => d.boot.held = false ∧ rd d K.x1C40_BOOT_STEP = 2)) ∧
    (alive d₀ = true → n = 0xFE → rd d₀ K.x1A00_NV_STATE ≠ 2 →
      (∀ x, d₀.boot.opDone = some x → x + ms 100 ≤ now → Makes (.recoveryExit t) s fun d =>
        d.boot.nextCause = some 6 ∧ d.boot.started = false ∧ rd d K.x1C40_BOOT_STEP = 1) ∧
      (d₀.boot.fuseFail = true → d₀.boot.stepAt + sec 1 ≤ now →
        (Makes (.fuseReread t true) s fun d => d.boot.nextCause = some 6 ∧ rd d K.x1C40_BOOT_STEP = 1) ∧
        (Makes (.fuseReread t false) s fun d => d.boot.stepAt = now ∧ rd d K.x1C40_BOOT_STEP = 0xFE)))

/-- A step of kind FIXED that fails in three consecutive tries puts the device in RECOVERY, where no dictionary stands (R774). -/
def Obligations.ThreeFailsRecover : Prop :=
  ∀ (t : Ps) (f : BootFindings) (n : Nat) (s : State),
    let d₀ := arrive t s.dev
    alive d₀ = true → d₀.boot.started = true → d₀.boot.held = false →
    rd d₀ K.x1C40_BOOT_STEP = n → 1 ≤ n → n ≤ 24 → stepKind n = 0 → stepOnFail n ≠ 0 →
    thirdFail (record n 3 d₀) n = true → Makes (.bootStepEnd t .fail f) s fun d =>
      rd d K.x1C40_BOOT_STEP = 0xFE ∧ rd d K.x1001_DICT_STATE = 0

/-- When the level rises from NORMAL, the request sets THROTTLE_FLAG, publishes the ceilings and raises an event; while the level is not
NORMAL it stays; when the level returns to NORMAL, the flag is cleared, both ceilings read 0xFFFF_FFFF and an event is raised (R756). -/
def Obligations.ThermalRequest : Prop :=
  ∀ (t : Ps) (r : List (Option Int)) (s : State),
    let d₀ := arrive t s.dev
    alive d₀ = true → WellFormed (.thermalSample t r) = true →
    sampleDue d₀ = true →
    let level := levelOf ((List.range 5).map fun i => enteredNext d₀ (runsNext d₀ r i) i) (regionBlind r)
    let was := rd d₀ K.x1602_THERMAL_LEVEL
    let up (k : Nat) : Nat := min (rd d₀ k + rd d₀ K.x1600_REQUEST_HEADROOM_MBPS) 0xFFFFFFFF
    let told (d : Dev) : Prop := ∃ e ∈ d.evLog, d₀.evSeq < e.seq ∧ e.code = 3 ∧ e.entry = K.x1602_THROTTLE_FLAG
    Makes (.thermalSample t r) s fun d =>
      (was = 0 → level ≠ 0 → rd d K.x1602_THROTTLE_FLAG = 1 ∧ told d) ∧
      (level ≠ 0 → rd d K.x1602_CEILING_D2H_MBPS = up K.x5102_HOST_SHARE_D2H_MBPS ∧
        rd d K.x1602_CEILING_H2D_MBPS = up K.x5102_HOST_SHARE_H2D_MBPS) ∧
      (was ≠ 0 → level ≠ 0 → rd d K.x1602_THROTTLE_FLAG = rd d₀ K.x1602_THROTTLE_FLAG) ∧
      (was ≠ 0 → level = 0 → rd d K.x1602_THROTTLE_FLAG = 0 ∧ rd d K.x1602_CEILING_D2H_MBPS = 0xFFFFFFFF ∧
        rd d K.x1602_CEILING_H2D_MBPS = 0xFFFFFFFF ∧ told d) ∧
      (was = 0 → level = 0 → rd d K.x1602_THROTTLE_FLAG = rd d₀ K.x1602_THROTTLE_FLAG)

/-! ## Mailbox and DDP -/

/-- Mailbox commands of a queue of type 7 that may start, have their traffic paid and find the target of their entry free: GET and
GET_STAGED write the value to host memory, GET_INFO the metadata word and the length, and SET stages its data; each completes: it finishes
with OK and its byte count (R78, R79, R80, R81). -/
def Obligations.MailboxCommands : Prop :=
  ∀ (t : Ps) (m : MailboxCmd) (r : Row) (s : State),
    let d₀ := arrive t s.dev
    let x (op : Nat) : Desc := { queue := m.queue, ring := m.ring, bytes := mailboxBytes op m }
    let fn := (qFn d₀ m.queue).getD 0
    let k := mailboxKey m
    let n := m.length.toNat
    let starts (op : Nat) : Prop := alive d₀ = true ∧ Fresh (x op) d₀ ∧ mailboxTraffic op m ≤ paidBytes d₀ m.queue ∧
      (queue d₀ m.queue).typ = 7 ∧ mailboxFields m = true ∧ mailboxOk (op == 2) m = true ∧ m.fin = .ok ∧ m.offset = 0 ∧
      entryRow d₀ k = some r ∧ r.ty ≠ .domain ∧ PortFree 0 (targetOf m.index) d₀
    let sent (op moved : Nat) (v : List Byte) (d : Dev) : Prop := Finished (x op) 0 moved 0 0 d ∧
      (v ≠ [] → d.host.out.head? = some (.write fn m.buffer.toNat (relaxedOk d₀ fn) v))
    (starts 1 → readRefusal d₀ false fn k r = none → n = r.size → Makes (.mailboxGet t m) s fun d =>
      ∃ e, (∀ j, isLost j = false → j ≠ K.x1C30_JOURNAL_MAX_USED → j ≠ K.x1C30_JOURNAL_WAITS → rd e j = rd d₀ j) ∧ e.body = d₀.body ∧
        e.now = d₀.now ∧ let v := (readValue false fn k r e).1
        sent 1 v.length v d) ∧
    (starts 1 → readRefusal d₀ false fn k r = none → n = r.size → r.ty.isBody = false → m.index = 0x1000 →
      Makes (.mailboxGet t m) s (sent 1 n (natLE n (rd d₀ k)))) ∧
    (∀ v, starts 4 → readRefusal d₀ true fn k r = none → n = r.size → r.acc = .rws → stagedValue d₀ fn k = some v → v.length = n →
      Makes (.mailboxGetStaged t m) s (sent 4 n v)) ∧
    (starts 3 → mayRead d₀ fn k = true → n = 16 → Makes (.mailboxGetInfo t m) s
      (sent 3 16 (natLE 8 (metaWord d₀ fn k r) ++ natLE 8 r.size))) ∧
    (starts 2 → n = r.size → r.acc = .rws →
      refusal d₀ { path := .mailbox, req := fn, k := k, start := if inlined m = true ∧ 32 < n then 1 else 0, bytes := m.data.take n } r = none →
      stageRoom d₀ fn k (m.data.take n).length = true →
      Makes (.mailboxSet t m) s fun d => Finished (x 2) 0 n 0 0 d ∧ stagedValue d fn k = some ((m.data.take n).take r.size) ∧
        d.body = d₀.body) ∧
    (starts 1 → readRefusal d₀ false fn k r = none → n ≠ r.size → Makes (.mailboxGet t m) s fun d => Finished (x 1) 9 0 4 0 d)

/-- Expedited DDP requests to the node, with fewer than 32 waiting and a true length, whose target is free: a response with the request's
header, a status and data joins the transmit queue: the value of a READ, the metadata of a READ_INFO, the status of a WRITE, TYPE_LENGTH
for an unknown command; a request whose target is taken waits (R88, R90 to R94). -/
def Obligations.DdpExpedited : Prop :=
  ∀ (t : Ps) (f : CanFrame) (s : State),
    let d₀ := arrive t s.dev
    let b := f.bytes
    let k := ddpKey b
    let tgt := targetOf (leAt b 4 2)
    let sent (c : Nat) : Prop := alive d₀ = true ∧ canLengthOk b.length = true ∧ fByte b 0 = c ∧ ddpTakes d₀ f = true ∧
      ddpLengthOk b = true
    let takes (c : Nat) : Prop := sent c ∧ expeditedHeld d₀ < 32 ∧ PortFree 1 tgt d₀
    let answers (status : Nat) (data : List Byte) (d : Dev) : Prop := ∃ g : CanFrame,
      d.ctl.ddp.txWait = d₀.ctl.ddp.txWait ++ [g] ∧ g.ident.val = 0x180 + rd d₀ K.x1110_NODE_ID ∧
      g.bytes.take (8 + data.length) = natLE 1 (fByte b 0 + 0x80) ++ slice 1 5 b ++ natLE 1 status ++ natLE 1 data.length ++ data
    (∀ r, takes 1 → entryRow d₀ k = some r → readRefusal d₀ (bitAt (fByte b 6) 0) (ddpReq b) k r = none →
      let v := (readValue (bitAt (fByte b 6) 0) (ddpReq b) k r (portTaken 1 tgt d₀)).1
      v.length ≤ 56 → Makes (.ddpRead t f) s fun d => answers 0 v d ∧ Entries [] d₀ d) ∧
    (∀ r c, takes 2 → entryRow d₀ k = some r → refusal d₀ { path := .ddp, req := ddpReq b, k := k, start := 0, bytes := ddpData b } r = some c →
      Makes (.ddpWrite t f) s fun d => answers c [] d ∧
        rd d K.x1C21_REFUSE_COUNT = min (rd d₀ K.x1C21_REFUSE_COUNT + 1) 0xFFFFFFFF ∧ d.ctl.basting = d₀.ctl.basting) ∧
    (∀ r, takes 2 → entryRow d₀ k = some r → r.acc = .rws → r.ty ≠ .domain →
      refusal d₀ { path := .ddp, req := ddpReq b, k := k, start := 0, bytes := ddpData b } r = none →
      stageRoom d₀ (ddpReq b) k ((ddpData b).take r.size).length = true → Makes (.ddpWrite t f) s fun d =>
        answers 0 [] d ∧ stagedValue d (ddpReq b) k = some ((ddpData b).take r.size) ∧ Entries [] d₀ d) ∧
    (∀ r, takes 3 → entryRow d₀ k = some r → Makes (.ddpReadInfo t f) s fun d => answers 0 (infoBytes d₀ (ddpReq b) k r) d ∧ Entries [] d₀ d) ∧
    (∀ c, sent c → ddpCommands.contains c = false → Makes (.ddpBadCommand t f) s fun d => answers 4 [] d ∧
      rd d K.x1C21_REFUSE_COUNT = min (rd d₀ K.x1C21_REFUSE_COUNT + 1) 0xFFFFFFFF) ∧
    (∀ c, sent (fByte b 0) → expeditedHeld d₀ < 32 → tabFind d₀.ctl.ports tgt = some (ctlCycle d₀) →
      (fByte b 0 = 1 ∧ c = .ddpRead t f ∨ fByte b 0 = 2 ∧ c = .ddpWrite t f ∨ fByte b 0 = 3 ∧ c = .ddpReadInfo t f) →
      Makes c s fun d => d.ctl.held = d₀.ctl.held ++ [{ target := tgt, master := 1, since := ctlCycle d₀, req := .ddp b }] ∧
        d.ctl.ddp = d₀.ctl.ddp ∧ Entries [] d₀ d)

/-- While 32 expedited requests wait, a further one is answered with BUSY and is not executed: beside the record of the refusal no entry,
no staged value and no other part of the block changes (R93). -/
def Obligations.ExpeditedBusy : Prop :=
  ∀ (t : Ps) (f : CanFrame) (c : Instr) (s : State),
    let d₀ := arrive t s.dev
    let b := f.bytes
    alive d₀ = true → ddpTakes d₀ f = true → WellFormed c = true → ddpLengthOk b = true →
    (c = .ddpRead t f ∨ c = .ddpWrite t f ∨ c = .ddpReadInfo t f) →
    32 ≤ expeditedHeld d₀ → Makes c s fun d => ∃ g : CanFrame,
      d.ctl.ddp.txWait = d₀.ctl.ddp.txWait ++ [g] ∧ d.ctl.held = d₀.ctl.held ∧
      g.bytes.take 8 = natLE 1 (fByte b 0 + 0x80) ++ slice 1 5 b ++ natLE 1 0xA ++ natLE 1 0 ∧
      (∀ j, j / 256 ≠ 0x1C21 → rd d j = rd d₀ j) ∧ d.body = d₀.body ∧ d.ctl.basting = d₀.ctl.basting ∧ d.nv = d₀.nv ∧
      d.host = d₀.host

/-- The device holds at most one segmented transfer per requester node and at most 8 in total: an init keeps that bound, and a further one
is answered with BUSY and opens nothing (R99). -/
def Obligations.SegmentsBounded : Prop :=
  ∀ (t : Ps) (f : CanFrame) (c : Instr) (s : State),
    let d₀ := arrive t s.dev
    let b := f.bytes
    alive d₀ = true → ddpTakes d₀ f = true → WellFormed c = true → ddpLengthOk b = true → PortFree 1 (targetOf (leAt b 4 2)) d₀ →
    (c = .segReadInit t f ∨ c = .segWriteInit t f) →
    (d₀.ctl.ddp.segs.length ≤ 8 → Makes c s fun d => d.ctl.ddp.segs.length ≤ 8 ∧
      ∀ nd, nd ≠ fByte b 1 → segOf d nd = segOf d₀ nd) ∧
    (segOf d₀ (fByte b 1) ≠ none ∨ 8 ≤ d₀.ctl.ddp.segs.length → Makes c s fun d => d.ctl.ddp.segs = d₀.ctl.ddp.segs ∧
      ∃ g : CanFrame, d.ctl.ddp.txWait = d₀.ctl.ddp.txWait ++ [g] ∧
        g.bytes.take 8 = natLE 1 (fByte b 0 + 0x80) ++ slice 1 5 b ++ natLE 1 0xA ++ natLE 1 0)

/-- SEG_READ_INIT, SEG_WRITE_INIT, SEG_DATA, SEG_ACK, SEG_ABORT and SEG_TRANSFER_TIMEOUT complete: an accepted init opens the transfer of
its node, the next segment of a write is taken, its last one stages the body and is acknowledged, one out of order is answered with
SEQUENCE, an acknowledgement of the whole body, an abort and 500 ms without a frame close it (R95 to R100). -/
def Obligations.DdpSegments : Prop :=
  ∀ (t : Ps) (f : CanFrame) (s : State),
    let d₀ := arrive t s.dev
    let b := f.bytes
    let k := ddpKey b
    let node := fByte b 1
    let free := PortFree 1 (targetOf (leAt b 4 2)) d₀
    let takes (c : Nat) : Prop := alive d₀ = true ∧ canLengthOk b.length = true ∧ fByte b 0 = c ∧ ddpTakes d₀ f = true ∧
      ddpLengthOk b = true
    let n := leAt b 3 3
    (∀ r, takes 0x10 → free → segBusy d₀ node = false → entryRow d₀ k = some r →
      readRefusal d₀ (bitAt (fByte b 6) 0) (ddpReq b) k r = none → initOk b = true →
      let v := (readValue (bitAt (fByte b 6) 0) (ddpReq b) k r (portTaken 1 (targetOf (leAt b 4 2)) d₀)).1
      initOffset b ≤ v.length → Makes (.segReadInit t f) s fun d => ∃ x, segOf d node = some x ∧ x.write = false ∧ x.tag = fByte b 2 ∧
        x.body = slice (initOffset b) (initLength b) v ∧ x.next = min 16 (segCount x.body.length) ∧ x.acked = 0 ∧
        d.ctl.ddp.txWait.length = d₀.ctl.ddp.txWait.length + 1 + x.next) ∧
    (∀ r, takes 0x11 → free → segBusy d₀ node = false → entryRow d₀ k = some r → segWriteRefusal d₀ b k r = none → Makes (.segWriteInit t f) s fun d =>
      segOf d node = some { write := true, tag := fByte b 2, key := k, offset := initOffset b, length := initLength b, body := [], next := 0
                            acked := 0, lastDone := false, lastAt := d₀.now } ∧
      d.ctl.ddp.txWait.length = d₀.ctl.ddp.txWait.length + 1 ∧ Entries [] d₀ d) ∧
    (∀ x, takes 0x12 → segOf d₀ node = some x → x.write = true → x.tag = fByte b 2 →
      let y := { x with body := x.body ++ ddpData b, next := x.next + 1, lastAt := d₀.now }
      (n = x.next → bitAt (fByte b 6) 0 = false → (ddpData b).length = 56 → y.body.length ≤ x.length →
        (x.next + 1) % 16 ≠ 0 → x.lastDone = false → Makes (.segData t f) s fun d => segOf d node = some y ∧ Entries [] d₀ d ∧
          d.ctl.ddp.txWait = d₀.ctl.ddp.txWait) ∧
      (n = x.next → bitAt (fByte b 6) 0 = true → y.body.length = x.length → x.lastDone = false →
        (∀ r, rowOf x.key = some r → r.ty ≠ .domain) → stageRoom d₀ (0x1000 + node) x.key y.body.length = true →
        PortFree 1 (targetOf (x.key / 256)) d₀ → Makes (.segData t f) s fun d => segOf d node = none ∧ Entries [] d₀ d ∧
          stagedValue d (0x1000 + node) x.key = some y.body ∧
          ∃ g, d.ctl.ddp.txWait = d₀.ctl.ddp.txWait ++ [g] ∧ fByte g.bytes 0 = 0x93 ∧ fByte g.bytes 6 = 0) ∧
      (n ≠ x.next → Makes (.segData t f) s fun d => segOf d node = some { x with lastAt := d₀.now } ∧
        ∃ g, d.ctl.ddp.txWait = d₀.ctl.ddp.txWait ++ [g] ∧ fByte g.bytes 0 = 0x93 ∧ fByte g.bytes 6 = 0xC)) ∧
    (∀ x, takes 0x13 → segOf d₀ node = some x → x.write = false → x.tag = fByte b 2 → (n + 1) % 2 ^ 24 ≤ x.next →
      (n + 1) % 2 ^ 24 = segCount x.body.length → Makes (.segAck t f) s fun d => segOf d node = none ∧ Entries [] d₀ d) ∧
    (∀ x, takes 0x14 → segOf d₀ node = some x → Makes (.segAbort t f) s fun d => segOf d node = none ∧
      Entries [] d₀ d ∧ d.ctl.ddp.txWait.length = d₀.ctl.ddp.txWait.length + 1) ∧
    (∀ (nd : Fin 256) x, alive d₀ = true → segOf d₀ nd = some x → x.lastAt + ms 500 ≤ d₀.now →
      Makes (.segTransferTimeout t nd) s fun d => segOf d nd = none ∧ Entries [] d₀ d ∧
        ∃ g, d.ctl.ddp.txWait = d₀.ctl.ddp.txWait ++ [g] ∧ fByte g.bytes 0 = 0x94 ∧ fByte g.bytes 6 = 0xB)

/-- DDP_RESPONSE_TRANSMIT, BUS_OFF, BUS_OFF_RECOVERY, DATA_RATE_APPLY and CAN_BUS_ERROR complete: a response leaves in order, errors set
the state of the bus, BUS_OFF closes every transfer with TIMEOUT and ends by its recovery sequence, DATA_RATE is taken when the bus is
idle (R84, R86, R92). -/
def Obligations.CanBus : Prop :=
  ∀ (t : Ps) (s : State),
    let d₀ := arrive t s.dev
    alive d₀ = true →
    let x := d₀.ctl.ddp
    (∀ g r, x.enabled = true → rd d₀ K.x1110_BUS_STATE ≠ 2 → x.txWait = g :: r → Makes (.ddpResponseTransmit t) s fun d =>
      d.ctl.ddp.txWait = r ∧ d.ctl.ddp.sent = g :: x.sent ∧ Entries [] d₀ d ∧
      ∀ nd y, segOf d₀ nd = some y → ∃ z, segOf d nd = some z ∧ { z with lastAt := y.lastAt } = y) ∧
    (x.enabled = true → (x.segs.map (·.1)).Nodup → Makes (.busOff t) s fun d => Entries [(K.x1110_BUS_STATE, 2)] d₀ d ∧
      d.ctl.ddp.segs = [] ∧ ∃ l : List CanFrame, d.ctl.ddp.txWait = x.txWait ++ l ∧ l.length = x.segs.length ∧
        ∀ g ∈ l, fByte g.bytes 0 = 0x94 ∧ fByte g.bytes 6 = 0xB) ∧
    (rd d₀ K.x1110_BUS_STATE = 2 → Makes (.busOffRecovery t) s fun d =>
      Entries [(K.x1110_TX_ERR_COUNT, 0), (K.x1110_RX_ERR_COUNT, 0), (K.x1110_BUS_STATE, 0)] d₀ d ∧ SameRest d₀ d) ∧
    (Makes (.dataRateApply t) s fun d => d.ctl.ddp = { x with rate := rd d₀ K.x1110_DATA_RATE } ∧ Entries [] d₀ d) ∧
    (∀ n, rd d₀ K.x1110_BUS_STATE ≠ 2 → Makes (.canBusError t (.transmit n)) s fun d =>
      Entries [(K.x1110_TX_ERR_COUNT, n),
        (K.x1110_BUS_STATE, if 127 < n.val ∨ 127 < rd d₀ K.x1110_RX_ERR_COUNT then 1 else 0)] d₀ d ∧ SameRest d₀ d) ∧
    (∀ n, rd d₀ K.x1110_BUS_STATE ≠ 2 → Makes (.canBusError t (.receive n)) s fun d =>
      Entries [(K.x1110_RX_ERR_COUNT, n),
        (K.x1110_BUS_STATE, if 127 < rd d₀ K.x1110_TX_ERR_COUNT ∨ 127 < n.val then 1 else 0)] d₀ d ∧ SameRest d₀ d)
end

