-- ==== Sys2Proof/Laws/Store.lean ====
section
/-! SUPPORT. Laws of sparse tables and of frame memory: what a write changes, what it leaves, and that every operation keeps the
canonical form. -/

namespace Sys2Proof.Machine

variable {α : Type}

/-! ## Tables -/

@[simp] theorem tabFind_nil (n : Nat) : tabFind ([] : Tab α) n = none := rfl

@[simp] theorem tabGet_nil (x : α) (n : Nat) : tabGet x [] n = x := rfl

@[simp] theorem tabFind_tabSet (n j : Nat) (v : α) (m : Tab α) :
    tabFind (tabSet n v m) j = if n = j then some v else tabFind m j := by
  induction m with
  | nil => simp [tabSet, tabFind]
  | cons p r ih =>
    obtain ⟨k, w⟩ := p
    rw [tabSet]
    split
    · next h => subst h; by_cases h : n = j <;> simp [tabFind, h]
    · split
      · simp [tabFind]
      · rw [tabFind, ih, tabFind]
        by_cases hk : k = j <;> by_cases hn : n = j <;> simp [hk, hn]
        omega

@[simp] theorem tabGet_tabSet (x : α) (n j : Nat) (v : α) (m : Tab α) :
    tabGet x (tabSet n v m) j = if n = j then v else tabGet x m j := by
  unfold tabGet; rw [tabFind_tabSet]; split <;> rfl

@[simp] theorem tabFind_tabDel (n j : Nat) (m : Tab α) :
    tabFind (tabDel n m) j = if n = j then none else tabFind m j := by
  induction m with
  | nil => simp [tabDel]
  | cons p r ih =>
    obtain ⟨k, w⟩ := p
    rw [tabDel]
    split
    · next h => subst h; rw [ih]; by_cases h : n = j <;> simp [tabFind, h]
    · next h => rw [tabFind, ih, tabFind]; by_cases hk : k = j <;> by_cases hn : n = j <;> simp [hk, hn]; omega

@[simp] theorem tabGet_tabDel (x : α) (n j : Nat) (m : Tab α) :
    tabGet x (tabDel n m) j = if n = j then x else tabGet x m j := by
  unfold tabGet; rw [tabFind_tabDel]; split <;> rfl

@[simp] theorem tabGet_tabMod (x : α) (n j : Nat) (f : α → α) (m : Tab α) :
    tabGet x (tabMod x n f m) j = if n = j then f (tabGet x m j) else tabGet x m j := by
  unfold tabMod; rw [tabGet_tabSet]; split
  · next h => rw [h]
  · rfl

/-! ## The canonical form -/

/-- Every key of the table is at least `n`. -/
def keysFrom (n : Nat) (m : Tab α) : Bool := m.all fun p => decide (n ≤ p.1)

theorem tabSorted_cons {k : Nat} {w : α} {r : Tab α} :
    tabSorted ((k, w) :: r) = true ↔ keysFrom (k + 1) r = true ∧ tabSorted r = true := by
  induction r generalizing k w with
  | nil => simp [tabSorted, keysFrom]
  | cons p r ih =>
    obtain ⟨j, v⟩ := p
    simp only [tabSorted, keysFrom, List.all_cons, Bool.and_eq_true, decide_eq_true_eq] at *
    constructor
    · rintro ⟨h, hs⟩
      have := (ih.mp hs).1
      refine ⟨⟨h, ?_⟩, hs⟩
      simp only [List.all_eq_true, decide_eq_true_eq] at *
      intro x hx
      have := this x hx
      omega
    · rintro ⟨⟨h, _⟩, hs⟩
      exact ⟨h, hs⟩

theorem keysFrom_tabSet {i n : Nat} {v : α} {m : Tab α} (h : i ≤ n) (hm : keysFrom i m = true) :
    keysFrom i (tabSet n v m) = true := by
  induction m with
  | nil => simp [tabSet, keysFrom, h]
  | cons p r ih =>
    obtain ⟨k, w⟩ := p
    simp only [keysFrom, List.all_cons, Bool.and_eq_true, decide_eq_true_eq] at hm ih ⊢
    rw [tabSet]
    split
    · simpa [h] using hm.2
    · split
      · simp only [List.all_cons, Bool.and_eq_true, decide_eq_true_eq]; exact ⟨h, hm⟩
      · simp only [List.all_cons, Bool.and_eq_true, decide_eq_true_eq]; exact ⟨hm.1, ih hm.2⟩

theorem tabSorted_tabSet {n : Nat} {v : α} {m : Tab α} (h : tabSorted m = true) : tabSorted (tabSet n v m) = true := by
  induction m with
  | nil => rfl
  | cons p r ih =>
    obtain ⟨k, w⟩ := p
    have h' := tabSorted_cons.mp h
    rw [tabSet]
    split
    · next e => subst e; exact tabSorted_cons.mpr h'
    · next e =>
      split
      · next l =>
        refine tabSorted_cons.mpr ⟨?_, h⟩
        have := h'.1
        simp only [keysFrom, List.all_cons, Bool.and_eq_true, decide_eq_true_eq, List.all_eq_true] at *
        exact ⟨l, fun x hx => by have := this x hx; omega⟩
      · exact tabSorted_cons.mpr ⟨keysFrom_tabSet (by omega) h'.1, ih h'.2⟩

theorem keysFrom_tabDel {i n : Nat} {m : Tab α} (hm : keysFrom i m = true) : keysFrom i (tabDel n m) = true := by
  induction m with
  | nil => rfl
  | cons p r ih =>
    obtain ⟨k, w⟩ := p
    simp only [keysFrom, List.all_cons, Bool.and_eq_true, decide_eq_true_eq] at hm ih ⊢
    rw [tabDel]
    split
    · exact ih hm.2
    · simp only [List.all_cons, Bool.and_eq_true, decide_eq_true_eq]; exact ⟨hm.1, ih hm.2⟩

theorem tabSorted_tabDel {n : Nat} {m : Tab α} (h : tabSorted m = true) : tabSorted (tabDel n m) = true := by
  induction m with
  | nil => rfl
  | cons p r ih =>
    obtain ⟨k, w⟩ := p
    have h' := tabSorted_cons.mp h
    rw [tabDel]
    split
    · exact ih h'.2
    · exact tabSorted_cons.mpr ⟨keysFrom_tabDel h'.1, ih h'.2⟩

/-! ## Frame memory -/

@[simp] theorem memGet_memSet (a j : Nat) (b : Byte) (m : Mem) : memGet (memSet a b m) j = if a = j then b else memGet m j := by
  unfold memGet memSet
  split
  · next h => simp [h]
  · simp

theorem memGet_memWrite (a j : Nat) (l : List Byte) (m : Mem) :
    memGet (memWrite a l m) j = if a ≤ j ∧ j < a + l.length then l.getD (j - a) 0 else memGet m j := by
  induction l generalizing a m with
  | nil => simp [memWrite, show ¬(a ≤ j ∧ j < a) by omega]
  | cons b r ih =>
    rw [memWrite, ih, memGet_memSet]
    by_cases h : a = j
    · subst h; rw [if_neg (by omega)]; simp
    · by_cases h' : a + 1 ≤ j ∧ j < a + 1 + r.length
      · rw [if_pos h', if_pos (by simp; omega)]
        have e : j - a = (j - (a + 1)) + 1 := by omega
        rw [e]; rfl
      · rw [if_neg h', if_neg h, if_neg (by simp; omega)]

/-- A byte outside the bytes written reads as before. -/
theorem memGet_memWrite_frame {a j : Nat} {l : List Byte} {m : Mem} (h : j < a ∨ a + l.length ≤ j) :
    memGet (memWrite a l m) j = memGet m j := by
  rw [memGet_memWrite, if_neg (by omega)]

theorem memGet_memClear (a n j : Nat) (m : Mem) : memGet (memClear a n m) j = if a ≤ j ∧ j < a + n then 0 else memGet m j := by
  unfold memGet tabGet
  induction m with
  | nil => simp [memClear]
  | cons p r ih =>
    obtain ⟨k, b⟩ := p
    rw [memClear]
    split
    · next h =>
      rw [ih, tabFind]
      by_cases hj : a ≤ j ∧ j < a + n
      · simp [hj]
      · rw [if_neg hj, if_neg hj, if_neg (by rintro rfl; exact hj h)]
    · next h =>
      rw [tabFind, tabFind]
      by_cases hk : k = j
      · subst hk; simp [h]
      · rw [if_neg hk, if_neg hk]; exact ih

/-- Reading what was just written gives it back. -/
theorem memRead_memWrite (a : Nat) (l : List Byte) (m : Mem) : memRead (memWrite a l m) a l.length = l := by
  have key : ∀ (n : Nat) (i : Nat) (m' : Mem), (∀ j, j < n → memGet m' (i + j) = l.getD (i + j - a) 0) → a ≤ i →
      i - a + n = l.length → memRead m' i n = l.drop (i - a) := by
    intro n
    induction n with
    | zero => intro i m' _ _ h; simp [memRead]; omega
    | succ n ih =>
      intro i m' h ha hl
      rw [memRead, ih (i + 1) m' (fun j hj => by have := h (j + 1) (by omega); rwa [show i + 1 + j = i + (j + 1) by omega]) (by omega) (by omega)]
      have h0 := h 0 (by omega)
      simp only [Nat.add_zero] at h0
      rw [h0, show i + 1 - a = i - a + 1 by omega]
      rw [List.drop_eq_getElem_cons (show i - a < l.length by omega)]
      simp [List.getD_eq_getElem?_getD, show i - a < l.length by omega]
  have := key l.length a (memWrite a l m) (fun j hj => by rw [memGet_memWrite, if_pos (by omega)]) (Nat.le_refl _) (by omega)
  simpa using this

theorem memWf_nil : memWf [] = true := rfl

theorem memWf_iff {m : Mem} : memWf m = true ↔ tabSorted m = true ∧ ∀ c ∈ m, c.2 ≠ 0 := by
  simp [memWf]

theorem mem_of_mem_tabDel {n : Nat} {m : Tab α} {c : Nat × α} (h : c ∈ tabDel n m) : c ∈ m := by
  induction m with
  | nil => simp [tabDel] at h
  | cons p r ih =>
    rw [tabDel] at h
    split at h
    · exact List.mem_cons_of_mem _ (ih h)
    · rcases List.mem_cons.mp h with h | h
      · exact h ▸ List.mem_cons_self
      · exact List.mem_cons_of_mem _ (ih h)

theorem mem_of_mem_tabSet {n : Nat} {v : α} {m : Tab α} {c : Nat × α} (h : c ∈ tabSet n v m) : c = (n, v) ∨ c ∈ m := by
  induction m with
  | nil => simpa [tabSet] using h
  | cons p r ih =>
    rw [tabSet] at h
    split at h
    · rcases List.mem_cons.mp h with h | h
      · exact .inl h
      · exact .inr (List.mem_cons_of_mem _ h)
    · split at h
      · rcases List.mem_cons.mp h with h | h
        · exact .inl h
        · exact .inr h
      · rcases List.mem_cons.mp h with h | h
        · exact .inr (h ▸ List.mem_cons_self)
        · rcases ih h with h | h
          · exact .inl h
          · exact .inr (List.mem_cons_of_mem _ h)

/-- A write of one byte keeps the canonical form. -/
theorem memWf_memSet {a : Nat} {b : Byte} {m : Mem} (h : memWf m = true) : memWf (memSet a b m) = true := by
  rw [memWf_iff] at *
  unfold memSet
  split
  · exact ⟨tabSorted_tabDel h.1, fun c hc => h.2 c (mem_of_mem_tabDel hc)⟩
  · next hb =>
    refine ⟨tabSorted_tabSet h.1, fun c hc => ?_⟩
    rcases mem_of_mem_tabSet hc with rfl | hc
    · exact hb
    · exact h.2 c hc

/-- A write of bytes keeps the canonical form. -/
theorem memWf_memWrite {a : Nat} {l : List Byte} {m : Mem} (h : memWf m = true) : memWf (memWrite a l m) = true := by
  induction l generalizing a m with
  | nil => exact h
  | cons b r ih => exact ih (memWf_memSet h)

/-- Clearing keeps the canonical form. -/
theorem memWf_memClear {a n : Nat} {m : Mem} (h : memWf m = true) : memWf (memClear a n m) = true := by
  have sub : ∀ m : Mem, ∀ c ∈ memClear a n m, c ∈ m := by
    intro m
    induction m with
    | nil => intro c hc; simp [memClear] at hc
    | cons p r ih =>
      intro c hc
      rw [memClear] at hc
      split at hc
      · exact List.mem_cons_of_mem _ (ih c hc)
      · rcases List.mem_cons.mp hc with h | h
        · exact h ▸ List.mem_cons_self
        · exact List.mem_cons_of_mem _ (ih c h)
  have srt : ∀ m : Mem, tabSorted m = true → tabSorted (memClear a n m) = true := by
    intro m
    induction m with
    | nil => intro _; rfl
    | cons p r ih =>
      intro h
      have h' := tabSorted_cons.mp h
      rw [memClear]
      split
      · exact ih h'.2
      · refine tabSorted_cons.mpr ⟨?_, ih h'.2⟩
        have := h'.1
        simp only [keysFrom, List.all_eq_true, decide_eq_true_eq] at *
        exact fun x hx => this x (sub r x hx)
  rw [memWf_iff] at *
  exact ⟨srt m h.1, fun c hc => h.2 c (sub m c hc)⟩

/-- A key below every key of the table is not listed. -/
theorem tabFind_of_keysFrom {i j : Nat} {m : Tab α} (h : keysFrom i m = true) (hj : j < i) : tabFind m j = none := by
  induction m with
  | nil => rfl
  | cons p r ih =>
    simp only [keysFrom, List.all_cons, Bool.and_eq_true, decide_eq_true_eq] at h ih
    rw [tabFind, if_neg (by omega)]
    exact ih h.2

end Sys2Proof.Machine
end

