-- ==== Sys2Proof/Laws/Access.lean ====
section
/-! SUPPORT. Laws of writes to the dictionary: when one is accepted, what it then runs, and that a command over one entry is that write. -/

namespace Sys2Proof.Machine

/-- `PortFree`, as a check that can be evaluated. -/
def portFreeB (m tgt : Nat) (d : Dev) : Bool :=
  reaches d m tgt && decide (tabFind d.ctl.ports tgt ≠ some (ctlCycle d)) && !(d.ctl.held.any fun h => h.master == m)

theorem portFree_iff {m tgt : Nat} {d : Dev} : PortFree m tgt d ↔ portFreeB m tgt d = true := by
  simp [PortFree, portFreeB, and_assoc]

/-- An access that meets a free port is granted at once. -/
theorem submit_of_free {m tgt : Nat} {d : Dev} (h : PortFree m tgt d) (r : BusReq) : submit m tgt r d = grant m tgt r d := by
  obtain ⟨h1, h2, h3⟩ := h
  simp [submit, h1, h2, h3]

/-- `Accepted`, as a check that can be evaluated. -/
def acceptsB (t : Ps) (acc : Access) (k v : Nat) (b : List Byte) (s : State) : Bool :=
  alive (arrive t s.dev) && accOk acc && portFreeB (masterOf acc) (targetOf (k / 256)) (arrive t s.dev) &&
    (metRow (atWrite t acc k s) acc.path (reqId acc.req) k v true).any fun r =>
      leNat (b.take r.size) == v &&
        (refusal (atWrite t acc k s) { path := acc.path, req := reqId acc.req, k := k, start := 0, bytes := b } r).isNone

theorem accepted_iff {t : Ps} {acc : Access} {k v : Nat} {b : List Byte} {s : State} :
    Accepted t acc k v b s ↔ acceptsB t acc k v b s = true := by
  unfold acceptsB Accepted
  cases metRow (atWrite t acc k s) acc.path (reqId acc.req) k v true <;>
    simp [and_assoc, Option.isNone_iff_eq_none, portFree_iff]

theorem accepted_of {t : Ps} {acc : Access} {k v : Nat} {b : List Byte} {s : State} (h : acceptsB t acc k v b s = true) :
    Accepted t acc k v b s := accepted_iff.2 h

/-- The row that an access meets is the row of its entry. -/
theorem entryRow_of_metRow {d : Dev} {p : Path} {q k v : Nat} {w : Bool} {r : Row} (h : metRow d p q k v w = some r) :
    entryRow d k = some r := by
  unfold metRow at h
  cases hr : entryRow d k with
  | none => simp [hr] at h
  | some x => simp [hr, Option.filter] at h; rw [h.2]

/-- An accepted write runs the effect of its entry, and records a refusal where that effect finds one. -/
theorem accepted_run {t : Ps} {acc : Access} {k v : Nat} {b : List Byte} {s : State} (h : Accepted t acc k v b s) (sig : Bool) :
    ∃ r, entryRow (arrive t s.dev) k = some r ∧ leNat (b.take r.size) = v ∧
      (writeBy acc k 0 b sig (atWrite t acc k s)).2 =
        let x := putEffect { path := acc.path, req := reqId acc.req, k := k, start := 0, bytes := b } r sig (atWrite t acc k s)
        if x.1 = 0 then x.2 else refuse (reqId acc.req) k x.1 x.2 := by
  obtain ⟨_, _, _, r, hm, hv, hr⟩ := h
  have hrow := entryRow_of_metRow hm
  refine ⟨r, hrow, hv, ?_⟩
  unfold writeBy
  simp only [hrow, Option.map_some, Option.getD_some, hv]
  rw [hm]
  simp only []
  unfold writeEntry
  rw [hr]
  simp only []
  split <;> simp_all

/-- A command over one entry, accepted, is the write of that entry at its instant. -/
theorem accepted_exec {t : Ps} {acc : Access} {k v : Nat} {b : List Byte} {s : State} (h : Accepted t acc k v b s) (sig : Bool) :
    actWrite t acc k 0 b sig s = .next { s with dev := (writeBy acc k 0 b sig (atWrite t acc k s)).2 } := by
  obtain ⟨ha, ho, hp, _⟩ := h
  simp [actWrite, wellFormed, ho, act, ha, putBus, submit_of_free hp, grant, busDo, atWrite]

end Sys2Proof.Machine
end

