-- ==== Sys2Proof/Laws/Bits.lean ====
section
/-! SUPPORT. Laws of bytes and bit fields: lengths, and what is read back from what was laid out. -/

namespace Sys2Proof.Machine

@[simp] theorem length_natLE (n v : Nat) : (natLE n v).length = n := by
  induction n generalizing v with
  | zero => rfl
  | succ n ih => simp [natLE, ih]

@[simp] theorem length_natBE (n v : Nat) : (natBE n v).length = n := by
  unfold natBE; simp

@[simp] theorem length_padTo (n : Nat) (l : List Byte) : (padTo n l).length = n := by
  unfold padTo; simp; omega

/-- A number of `n` bytes is read back from them. -/
theorem leNat_natLE (n v : Nat) : leNat (natLE n v) = v % 256 ^ n := by
  induction n generalizing v with
  | zero => simp [natLE, leNat, Nat.mod_one]
  | succ n ih =>
    have h : 256 ^ (n + 1) = 256 * 256 ^ n := by rw [Nat.pow_succ, Nat.mul_comm]
    rw [h, Nat.mod_mul]
    simp [natLE, leNat, ih]

theorem length_shaRound (v : List Nat) (x : Nat × Nat) (h : v.length = 8) : (shaRound v x).length = 8 := by
  unfold shaRound
  split
  · rfl
  · exact h

theorem length_foldl_shaRound (l : List (Nat × Nat)) (v : List Nat) (h : v.length = 8) : (l.foldl shaRound v).length = 8 := by
  induction l generalizing v with
  | nil => exact h
  | cons x r ih => exact ih _ (length_shaRound v x h)

theorem length_shaBlock (v w : List Nat) (h : v.length = 8) : (shaBlock v w).length = 8 := by
  simp [shaBlock, length_foldl_shaRound _ v h, h]

theorem length_shaBlocks (n : Nat) (l : List Byte) (v : List Nat) (h : v.length = 8) : (shaBlocks n l v).length = 8 := by
  induction n generalizing l v with
  | zero => exact h
  | succ n ih => exact ih _ _ (length_shaBlock v _ h)

/-- A digest has 32 bytes. -/
@[simp] theorem length_sha256 (m : List Byte) : (sha256 m).length = 32 := by
  have h (l : List Nat) : ((l.map (natBE 4)).flatten).length = 4 * l.length := by
    induction l with
    | nil => rfl
    | cons x r ih => simp [ih]; omega
  unfold sha256
  simp only []
  rw [h, length_shaBlocks _ _ _ rfl]

end Sys2Proof.Machine
end

