-- ==== Sys2Proof/Laws/Memory.lean ====
section
/-! SUPPORT. Laws of the operations over frame memory: each keeps the canonical form, and what each leaves as it was. -/

namespace Sys2Proof.Machine

/-! ## The canonical form -/

theorem memWf_foldl_memSet (l : List (Nat × Byte)) (g : Nat × Byte → Nat) {m : Mem} (h : memWf m = true) :
    memWf (l.foldl (fun m c => memSet (g c) c.2 m) m) = true := by
  induction l generalizing m with
  | nil => exact h
  | cons c r ih => exact ih (memWf_memSet h)

theorem memWf_memMovePage {a b : Nat} {m : Mem} (h : memWf m = true) : memWf (memMovePage a b m) = true :=
  memWf_foldl_memSet _ (fun c => c.1 - a * 65536 + b * 65536) (memWf_memClear (memWf_memClear h))

theorem memWf_copyEnd {ppn : Nat} {m : Mem} {d : Dev} (h : memWf m = true) : memWf (copyEnd ppn m d).1 = true := by
  unfold copyEnd
  split
  · exact h
  · exact memWf_memMovePage h

theorem memWf_growWindow {w : Nat} {m : Mem} {d : Dev} (h : memWf m = true) : memWf (growWindow w m d).1 = true := by
  unfold growWindow
  split
  · split
    · exact memWf_memClear h
    · exact h
  · exact h

theorem memWf_bar4Put {f off : Nat} {b : List Byte} {m : Mem} {d : Dev} (h : memWf m = true) : memWf (bar4Put f off b m d).1 = true := by
  unfold bar4Put
  split
  · exact h
  · split
    · exact h
    · exact memWf_memWrite h

theorem memWf_writeSpan {l : List (Nat × Nat × Nat)} {b : List Byte} {m : Mem} {d : Dev} (h : memWf m = true) :
    memWf (writeSpan l b m d).1 = true := by
  induction l generalizing b m d with
  | nil => exact h
  | cons x r ih => exact ih (memWf_memWrite h)

theorem memWf_hostToWindow {x : Desc} {host : HostRead} {i : StartInfo} {m : Mem} {d : Dev} (h : memWf m = true) :
    memWf (hostToWindow x host i m d).1 = true := by
  unfold hostToWindow
  dsimp only
  split
  · exact h
  · split
    · exact h
    · split
      · exact memWf_writeSpan h
      · split
        · exact memWf_writeSpan h
        · exact memWf_writeSpan h

theorem memWf_runDescrMem {q r : Nat} {b : List Byte} {f : StartInfo → Mem → Dev → Mem × Dev} {m : Mem} {d : Dev} (h : memWf m = true)
    (hf : ∀ i m d, memWf m = true → memWf (f i m d).1 = true) : memWf (runDescrMem q r b f m d).1 = true := by
  unfold runDescrMem
  split
  · exact h
  · dsimp only
    split
    · exact h
    · split
      · exact h
      · exact hf _ _ _ h

/-! ## Frames -/

/-- A growing window clears one page: every byte reads 0x00 or as before (R559). -/
theorem memGet_growWindow (w j : Nat) (m : Mem) (d : Dev) :
    memGet (growWindow w m d).1 j = 0 ∨ memGet (growWindow w m d).1 j = memGet m j := by
  unfold growWindow
  split
  · split
    · dsimp only
      rw [memGet_memClear]
      split
      · exact .inl rfl
      · exact .inr rfl
    · exact .inr rfl
  · exact .inr rfl

/-- A BAR4 write of a mapped page changes the bytes of the access alone (R570). -/
theorem memGet_bar4Put {f off j : Nat} {b : List Byte} {m : Mem} {d : Dev}
    (h : ∀ a, windowAddr d f off = some a → j < a ∨ a + b.length ≤ j) : memGet (bar4Put f off b m d).1 j = memGet m j := by
  unfold bar4Put
  split
  · rfl
  · split
    · rfl
    · next a e => exact memGet_memWrite_frame (h a e)

end Sys2Proof.Machine
end

