-- ==== Sys2Proof/Laws/State.lean ====
section
/-! SUPPORT. Laws of the small updates of the block: what each leaves as it was, and what an entry reads after a write. -/

namespace Sys2Proof.Machine

/-! ## What an update leaves -/

@[simp] theorem wr_fields (k v : Nat) (d : Dev) :
    (wr k v d).now = d.now ∧ (wr k v d).stcFp = d.stcFp ∧ (wr k v d).stcRun = d.stcRun ∧ (wr k v d).body = d.body ∧
    (wr k v d).evLog = d.evLog ∧ (wr k v d).evSeq = d.evSeq ∧ (wr k v d).evClearedAt = d.evClearedAt ∧
    (wr k v d).oldFaults = d.oldFaults ∧ (wr k v d).free = d.free ∧ (wr k v d).ctl = d.ctl ∧ (wr k v d).host = d.host ∧
    (wr k v d).nv = d.nv ∧ (wr k v d).user = d.user ∧ (wr k v d).jr = d.jr ∧ (wr k v d).power = d.power ∧ (wr k v d).boot = d.boot ∧
    (wr k v d).lanes = d.lanes ∧ (wr k v d).video = d.video ∧ (wr k v d).clk = d.clk ∧ (wr k v d).flt = d.flt ∧ (wr k v d).fm = d.fm ∧
    (wr k v d).therm = d.therm ∧ (wr k v d).ev = d.ev ∧ (wr k v d).aud = d.aud :=
  ⟨rfl, rfl, rfl, rfl, rfl, rfl, rfl, rfl, rfl, rfl, rfl, rfl, rfl, rfl, rfl, rfl, rfl, rfl, rfl, rfl, rfl, rfl, rfl, rfl⟩

@[simp] theorem wrB_fields (k : Nat) (v : List Byte) (d : Dev) :
    (wrB k v d).now = d.now ∧ (wrB k v d).stcFp = d.stcFp ∧ (wrB k v d).stcRun = d.stcRun ∧ (wrB k v d).od = d.od ∧
    (wrB k v d).evLog = d.evLog ∧ (wrB k v d).evSeq = d.evSeq ∧ (wrB k v d).evClearedAt = d.evClearedAt ∧
    (wrB k v d).oldFaults = d.oldFaults ∧ (wrB k v d).free = d.free ∧ (wrB k v d).ctl = d.ctl ∧ (wrB k v d).host = d.host ∧
    (wrB k v d).nv = d.nv ∧ (wrB k v d).user = d.user ∧ (wrB k v d).jr = d.jr ∧ (wrB k v d).power = d.power ∧ (wrB k v d).boot = d.boot ∧
    (wrB k v d).lanes = d.lanes ∧ (wrB k v d).video = d.video ∧ (wrB k v d).clk = d.clk ∧ (wrB k v d).flt = d.flt ∧
    (wrB k v d).fm = d.fm ∧ (wrB k v d).therm = d.therm ∧ (wrB k v d).ev = d.ev ∧ (wrB k v d).aud = d.aud :=
  ⟨rfl, rfl, rfl, rfl, rfl, rfl, rfl, rfl, rfl, rfl, rfl, rfl, rfl, rfl, rfl, rfl, rfl, rfl, rfl, rfl, rfl, rfl, rfl, rfl⟩

@[simp] theorem toHost_fields (x : HostTxn) (d : Dev) :
    (toHost x d).now = d.now ∧ (toHost x d).stcFp = d.stcFp ∧ (toHost x d).stcRun = d.stcRun ∧ (toHost x d).od = d.od ∧
    (toHost x d).body = d.body ∧ (toHost x d).evLog = d.evLog ∧ (toHost x d).evSeq = d.evSeq ∧ (toHost x d).evClearedAt = d.evClearedAt ∧
    (toHost x d).oldFaults = d.oldFaults ∧ (toHost x d).free = d.free ∧ (toHost x d).ctl = d.ctl ∧ (toHost x d).nv = d.nv ∧
    (toHost x d).user = d.user ∧ (toHost x d).jr = d.jr ∧ (toHost x d).power = d.power ∧ (toHost x d).boot = d.boot ∧
    (toHost x d).lanes = d.lanes ∧ (toHost x d).video = d.video ∧ (toHost x d).clk = d.clk ∧ (toHost x d).flt = d.flt ∧
    (toHost x d).fm = d.fm ∧ (toHost x d).therm = d.therm ∧ (toHost x d).ev = d.ev ∧ (toHost x d).aud = d.aud :=
  ⟨rfl, rfl, rfl, rfl, rfl, rfl, rfl, rfl, rfl, rfl, rfl, rfl, rfl, rfl, rfl, rfl, rfl, rfl, rfl, rfl, rfl, rfl, rfl, rfl⟩

@[simp] theorem modQ_fields (q : Nat) (f : Queue → Queue) (d : Dev) :
    (modQ q f d).now = d.now ∧ (modQ q f d).stcFp = d.stcFp ∧ (modQ q f d).stcRun = d.stcRun ∧ (modQ q f d).od = d.od ∧
    (modQ q f d).body = d.body ∧ (modQ q f d).evLog = d.evLog ∧ (modQ q f d).evSeq = d.evSeq ∧ (modQ q f d).evClearedAt = d.evClearedAt ∧
    (modQ q f d).oldFaults = d.oldFaults ∧ (modQ q f d).free = d.free ∧ (modQ q f d).ctl = d.ctl ∧ (modQ q f d).nv = d.nv ∧
    (modQ q f d).user = d.user ∧ (modQ q f d).jr = d.jr ∧ (modQ q f d).power = d.power ∧ (modQ q f d).boot = d.boot ∧
    (modQ q f d).lanes = d.lanes ∧ (modQ q f d).video = d.video ∧ (modQ q f d).clk = d.clk ∧ (modQ q f d).flt = d.flt ∧
    (modQ q f d).fm = d.fm ∧ (modQ q f d).therm = d.therm ∧ (modQ q f d).ev = d.ev ∧ (modQ q f d).aud = d.aud :=
  ⟨rfl, rfl, rfl, rfl, rfl, rfl, rfl, rfl, rfl, rfl, rfl, rfl, rfl, rfl, rfl, rfl, rfl, rfl, rfl, rfl, rfl, rfl, rfl, rfl⟩

@[simp] theorem modSlot_fields (s : Nat) (f : SlotRun → SlotRun) (d : Dev) :
    (modSlot s f d).now = d.now ∧ (modSlot s f d).stcFp = d.stcFp ∧ (modSlot s f d).stcRun = d.stcRun ∧ (modSlot s f d).od = d.od ∧
    (modSlot s f d).body = d.body ∧ (modSlot s f d).evLog = d.evLog ∧ (modSlot s f d).evSeq = d.evSeq ∧
    (modSlot s f d).evClearedAt = d.evClearedAt ∧ (modSlot s f d).oldFaults = d.oldFaults ∧ (modSlot s f d).free = d.free ∧
    (modSlot s f d).host = d.host ∧ (modSlot s f d).nv = d.nv ∧ (modSlot s f d).user = d.user ∧ (modSlot s f d).jr = d.jr ∧
    (modSlot s f d).power = d.power ∧ (modSlot s f d).boot = d.boot ∧ (modSlot s f d).lanes = d.lanes ∧ (modSlot s f d).video = d.video ∧
    (modSlot s f d).clk = d.clk ∧ (modSlot s f d).flt = d.flt ∧ (modSlot s f d).fm = d.fm ∧ (modSlot s f d).therm = d.therm ∧
    (modSlot s f d).ev = d.ev ∧ (modSlot s f d).aud = d.aud :=
  ⟨rfl, rfl, rfl, rfl, rfl, rfl, rfl, rfl, rfl, rfl, rfl, rfl, rfl, rfl, rfl, rfl, rfl, rfl, rfl, rfl, rfl, rfl, rfl, rfl⟩

@[simp] theorem jClose_fields (p : JEntry → Bool) (d : Dev) :
    (jClose p d).now = d.now ∧ (jClose p d).stcFp = d.stcFp ∧ (jClose p d).stcRun = d.stcRun ∧ (jClose p d).od = d.od ∧
    (jClose p d).body = d.body ∧ (jClose p d).evLog = d.evLog ∧ (jClose p d).evSeq = d.evSeq ∧ (jClose p d).evClearedAt = d.evClearedAt ∧
    (jClose p d).oldFaults = d.oldFaults ∧ (jClose p d).free = d.free ∧ (jClose p d).ctl = d.ctl ∧ (jClose p d).host = d.host ∧
    (jClose p d).nv = d.nv ∧ (jClose p d).user = d.user ∧ (jClose p d).power = d.power ∧ (jClose p d).boot = d.boot ∧
    (jClose p d).lanes = d.lanes ∧ (jClose p d).video = d.video ∧ (jClose p d).clk = d.clk ∧ (jClose p d).flt = d.flt ∧
    (jClose p d).fm = d.fm ∧ (jClose p d).therm = d.therm ∧ (jClose p d).ev = d.ev ∧ (jClose p d).aud = d.aud :=
  ⟨rfl, rfl, rfl, rfl, rfl, rfl, rfl, rfl, rfl, rfl, rfl, rfl, rfl, rfl, rfl, rfl, rfl, rfl, rfl, rfl, rfl, rfl, rfl, rfl⟩

@[simp] theorem jMod_fields (p : JEntry → Bool) (f : JEntry → JEntry) (d : Dev) :
    (jMod p f d).now = d.now ∧ (jMod p f d).stcFp = d.stcFp ∧ (jMod p f d).stcRun = d.stcRun ∧ (jMod p f d).od = d.od ∧
    (jMod p f d).body = d.body ∧ (jMod p f d).evLog = d.evLog ∧ (jMod p f d).evSeq = d.evSeq ∧ (jMod p f d).evClearedAt = d.evClearedAt ∧
    (jMod p f d).oldFaults = d.oldFaults ∧ (jMod p f d).free = d.free ∧ (jMod p f d).ctl = d.ctl ∧ (jMod p f d).host = d.host ∧
    (jMod p f d).nv = d.nv ∧ (jMod p f d).user = d.user ∧ (jMod p f d).power = d.power ∧ (jMod p f d).boot = d.boot ∧
    (jMod p f d).lanes = d.lanes ∧ (jMod p f d).video = d.video ∧ (jMod p f d).clk = d.clk ∧ (jMod p f d).flt = d.flt ∧
    (jMod p f d).fm = d.fm ∧ (jMod p f d).therm = d.therm ∧ (jMod p f d).ev = d.ev ∧ (jMod p f d).aud = d.aud :=
  ⟨rfl, rfl, rfl, rfl, rfl, rfl, rfl, rfl, rfl, rfl, rfl, rfl, rfl, rfl, rfl, rfl, rfl, rfl, rfl, rfl, rfl, rfl, rfl, rfl⟩

@[simp] theorem modNv_fields (f : Nv → Nv) (d : Dev) :
    (modNv f d).now = d.now ∧ (modNv f d).stcFp = d.stcFp ∧ (modNv f d).stcRun = d.stcRun ∧ (modNv f d).od = d.od ∧
    (modNv f d).body = d.body ∧ (modNv f d).evLog = d.evLog ∧ (modNv f d).evSeq = d.evSeq ∧ (modNv f d).evClearedAt = d.evClearedAt ∧
    (modNv f d).oldFaults = d.oldFaults ∧ (modNv f d).free = d.free ∧ (modNv f d).ctl = d.ctl ∧ (modNv f d).host = d.host ∧
    (modNv f d).user = d.user ∧ (modNv f d).jr = d.jr ∧ (modNv f d).power = d.power ∧ (modNv f d).boot = d.boot ∧
    (modNv f d).lanes = d.lanes ∧ (modNv f d).video = d.video ∧ (modNv f d).clk = d.clk ∧ (modNv f d).flt = d.flt ∧
    (modNv f d).fm = d.fm ∧ (modNv f d).therm = d.therm ∧ (modNv f d).ev = d.ev ∧ (modNv f d).aud = d.aud :=
  ⟨rfl, rfl, rfl, rfl, rfl, rfl, rfl, rfl, rfl, rfl, rfl, rfl, rfl, rfl, rfl, rfl, rfl, rfl, rfl, rfl, rfl, rfl, rfl, rfl⟩

@[simp] theorem modPower_fields (f : Power → Power) (d : Dev) :
    (modPower f d).now = d.now ∧ (modPower f d).stcFp = d.stcFp ∧ (modPower f d).stcRun = d.stcRun ∧ (modPower f d).od = d.od ∧
    (modPower f d).body = d.body ∧ (modPower f d).evLog = d.evLog ∧ (modPower f d).evSeq = d.evSeq ∧
    (modPower f d).evClearedAt = d.evClearedAt ∧ (modPower f d).oldFaults = d.oldFaults ∧ (modPower f d).free = d.free ∧
    (modPower f d).ctl = d.ctl ∧ (modPower f d).host = d.host ∧ (modPower f d).nv = d.nv ∧ (modPower f d).user = d.user ∧
    (modPower f d).jr = d.jr ∧ (modPower f d).boot = d.boot ∧ (modPower f d).lanes = d.lanes ∧ (modPower f d).video = d.video ∧
    (modPower f d).clk = d.clk ∧ (modPower f d).flt = d.flt ∧ (modPower f d).fm = d.fm ∧ (modPower f d).therm = d.therm ∧
    (modPower f d).ev = d.ev ∧ (modPower f d).aud = d.aud :=
  ⟨rfl, rfl, rfl, rfl, rfl, rfl, rfl, rfl, rfl, rfl, rfl, rfl, rfl, rfl, rfl, rfl, rfl, rfl, rfl, rfl, rfl, rfl, rfl, rfl⟩

@[simp] theorem modBoot_fields (f : Boot → Boot) (d : Dev) :
    (modBoot f d).now = d.now ∧ (modBoot f d).stcFp = d.stcFp ∧ (modBoot f d).stcRun = d.stcRun ∧ (modBoot f d).od = d.od ∧
    (modBoot f d).body = d.body ∧ (modBoot f d).evLog = d.evLog ∧ (modBoot f d).evSeq = d.evSeq ∧
    (modBoot f d).evClearedAt = d.evClearedAt ∧ (modBoot f d).oldFaults = d.oldFaults ∧ (modBoot f d).free = d.free ∧
    (modBoot f d).ctl = d.ctl ∧ (modBoot f d).host = d.host ∧ (modBoot f d).nv = d.nv ∧ (modBoot f d).user = d.user ∧
    (modBoot f d).jr = d.jr ∧ (modBoot f d).power = d.power ∧ (modBoot f d).lanes = d.lanes ∧ (modBoot f d).video = d.video ∧
    (modBoot f d).clk = d.clk ∧ (modBoot f d).flt = d.flt ∧ (modBoot f d).fm = d.fm ∧ (modBoot f d).therm = d.therm ∧
    (modBoot f d).ev = d.ev ∧ (modBoot f d).aud = d.aud :=
  ⟨rfl, rfl, rfl, rfl, rfl, rfl, rfl, rfl, rfl, rfl, rfl, rfl, rfl, rfl, rfl, rfl, rfl, rfl, rfl, rfl, rfl, rfl, rfl, rfl⟩

@[simp] theorem modUser_fields (u : Nat) (f : UserPart → UserPart) (d : Dev) :
    (modUser u f d).now = d.now ∧ (modUser u f d).stcFp = d.stcFp ∧ (modUser u f d).stcRun = d.stcRun ∧ (modUser u f d).od = d.od ∧
    (modUser u f d).body = d.body ∧ (modUser u f d).evLog = d.evLog ∧ (modUser u f d).evSeq = d.evSeq ∧
    (modUser u f d).evClearedAt = d.evClearedAt ∧ (modUser u f d).oldFaults = d.oldFaults ∧ (modUser u f d).free = d.free ∧
    (modUser u f d).ctl = d.ctl ∧ (modUser u f d).host = d.host ∧ (modUser u f d).nv = d.nv ∧ (modUser u f d).jr = d.jr ∧
    (modUser u f d).power = d.power ∧ (modUser u f d).boot = d.boot ∧ (modUser u f d).lanes = d.lanes ∧ (modUser u f d).video = d.video ∧
    (modUser u f d).clk = d.clk ∧ (modUser u f d).flt = d.flt ∧ (modUser u f d).fm = d.fm ∧ (modUser u f d).therm = d.therm ∧
    (modUser u f d).ev = d.ev ∧ (modUser u f d).aud = d.aud :=
  ⟨rfl, rfl, rfl, rfl, rfl, rfl, rfl, rfl, rfl, rfl, rfl, rfl, rfl, rfl, rfl, rfl, rfl, rfl, rfl, rfl, rfl, rfl, rfl, rfl⟩

@[simp] theorem modDdp_fields (f : DdpState → DdpState) (d : Dev) :
    (modDdp f d).now = d.now ∧ (modDdp f d).stcFp = d.stcFp ∧ (modDdp f d).stcRun = d.stcRun ∧ (modDdp f d).od = d.od ∧
    (modDdp f d).body = d.body ∧ (modDdp f d).evLog = d.evLog ∧ (modDdp f d).evSeq = d.evSeq ∧ (modDdp f d).evClearedAt = d.evClearedAt ∧
    (modDdp f d).oldFaults = d.oldFaults ∧ (modDdp f d).free = d.free ∧ (modDdp f d).host = d.host ∧ (modDdp f d).nv = d.nv ∧
    (modDdp f d).user = d.user ∧ (modDdp f d).jr = d.jr ∧ (modDdp f d).power = d.power ∧ (modDdp f d).boot = d.boot ∧
    (modDdp f d).lanes = d.lanes ∧ (modDdp f d).video = d.video ∧ (modDdp f d).clk = d.clk ∧ (modDdp f d).flt = d.flt ∧
    (modDdp f d).fm = d.fm ∧ (modDdp f d).therm = d.therm ∧ (modDdp f d).ev = d.ev ∧ (modDdp f d).aud = d.aud :=
  ⟨rfl, rfl, rfl, rfl, rfl, rfl, rfl, rfl, rfl, rfl, rfl, rfl, rfl, rfl, rfl, rfl, rfl, rfl, rfl, rfl, rfl, rfl, rfl, rfl⟩

@[simp] theorem modRx_fields (p : Nat) (f : Rx → Rx) (d : Dev) :
    (modRx p f d).now = d.now ∧ (modRx p f d).stcFp = d.stcFp ∧ (modRx p f d).stcRun = d.stcRun ∧ (modRx p f d).od = d.od ∧
    (modRx p f d).body = d.body ∧ (modRx p f d).evLog = d.evLog ∧ (modRx p f d).evSeq = d.evSeq ∧
    (modRx p f d).evClearedAt = d.evClearedAt ∧ (modRx p f d).oldFaults = d.oldFaults ∧ (modRx p f d).free = d.free ∧
    (modRx p f d).ctl = d.ctl ∧ (modRx p f d).host = d.host ∧ (modRx p f d).nv = d.nv ∧ (modRx p f d).user = d.user ∧
    (modRx p f d).jr = d.jr ∧ (modRx p f d).power = d.power ∧ (modRx p f d).boot = d.boot ∧ (modRx p f d).video = d.video ∧
    (modRx p f d).clk = d.clk ∧ (modRx p f d).flt = d.flt ∧ (modRx p f d).fm = d.fm ∧ (modRx p f d).therm = d.therm ∧
    (modRx p f d).ev = d.ev ∧ (modRx p f d).aud = d.aud :=
  ⟨rfl, rfl, rfl, rfl, rfl, rfl, rfl, rfl, rfl, rfl, rfl, rfl, rfl, rfl, rfl, rfl, rfl, rfl, rfl, rfl, rfl, rfl, rfl, rfl⟩

@[simp] theorem modTx_fields (p : Nat) (f : Tx → Tx) (d : Dev) :
    (modTx p f d).now = d.now ∧ (modTx p f d).stcFp = d.stcFp ∧ (modTx p f d).stcRun = d.stcRun ∧ (modTx p f d).od = d.od ∧
    (modTx p f d).body = d.body ∧ (modTx p f d).evLog = d.evLog ∧ (modTx p f d).evSeq = d.evSeq ∧
    (modTx p f d).evClearedAt = d.evClearedAt ∧ (modTx p f d).oldFaults = d.oldFaults ∧ (modTx p f d).free = d.free ∧
    (modTx p f d).ctl = d.ctl ∧ (modTx p f d).host = d.host ∧ (modTx p f d).nv = d.nv ∧ (modTx p f d).user = d.user ∧
    (modTx p f d).jr = d.jr ∧ (modTx p f d).power = d.power ∧ (modTx p f d).boot = d.boot ∧ (modTx p f d).video = d.video ∧
    (modTx p f d).clk = d.clk ∧ (modTx p f d).flt = d.flt ∧ (modTx p f d).fm = d.fm ∧ (modTx p f d).therm = d.therm ∧
    (modTx p f d).ev = d.ev ∧ (modTx p f d).aud = d.aud :=
  ⟨rfl, rfl, rfl, rfl, rfl, rfl, rfl, rfl, rfl, rfl, rfl, rfl, rfl, rfl, rfl, rfl, rfl, rfl, rfl, rfl, rfl, rfl, rfl, rfl⟩

@[simp] theorem modStore_fields (i : Nat) (f : Store → Store) (d : Dev) :
    (modStore i f d).now = d.now ∧ (modStore i f d).stcFp = d.stcFp ∧ (modStore i f d).stcRun = d.stcRun ∧ (modStore i f d).od = d.od ∧
    (modStore i f d).body = d.body ∧ (modStore i f d).evLog = d.evLog ∧ (modStore i f d).evSeq = d.evSeq ∧
    (modStore i f d).evClearedAt = d.evClearedAt ∧ (modStore i f d).oldFaults = d.oldFaults ∧ (modStore i f d).free = d.free ∧
    (modStore i f d).ctl = d.ctl ∧ (modStore i f d).host = d.host ∧ (modStore i f d).nv = d.nv ∧ (modStore i f d).user = d.user ∧
    (modStore i f d).jr = d.jr ∧ (modStore i f d).power = d.power ∧ (modStore i f d).boot = d.boot ∧ (modStore i f d).lanes = d.lanes ∧
    (modStore i f d).clk = d.clk ∧ (modStore i f d).flt = d.flt ∧ (modStore i f d).fm = d.fm ∧ (modStore i f d).therm = d.therm ∧
    (modStore i f d).ev = d.ev ∧ (modStore i f d).aud = d.aud :=
  ⟨rfl, rfl, rfl, rfl, rfl, rfl, rfl, rfl, rfl, rfl, rfl, rfl, rfl, rfl, rfl, rfl, rfl, rfl, rfl, rfl, rfl, rfl, rfl, rfl⟩

@[simp] theorem modInp_fields (p : Nat) (f : Inp → Inp) (d : Dev) :
    (modInp p f d).now = d.now ∧ (modInp p f d).stcFp = d.stcFp ∧ (modInp p f d).stcRun = d.stcRun ∧ (modInp p f d).od = d.od ∧
    (modInp p f d).body = d.body ∧ (modInp p f d).evLog = d.evLog ∧ (modInp p f d).evSeq = d.evSeq ∧
    (modInp p f d).evClearedAt = d.evClearedAt ∧ (modInp p f d).oldFaults = d.oldFaults ∧ (modInp p f d).free = d.free ∧
    (modInp p f d).ctl = d.ctl ∧ (modInp p f d).host = d.host ∧ (modInp p f d).nv = d.nv ∧ (modInp p f d).user = d.user ∧
    (modInp p f d).jr = d.jr ∧ (modInp p f d).power = d.power ∧ (modInp p f d).boot = d.boot ∧ (modInp p f d).lanes = d.lanes ∧
    (modInp p f d).clk = d.clk ∧ (modInp p f d).flt = d.flt ∧ (modInp p f d).fm = d.fm ∧ (modInp p f d).therm = d.therm ∧
    (modInp p f d).ev = d.ev ∧ (modInp p f d).aud = d.aud :=
  ⟨rfl, rfl, rfl, rfl, rfl, rfl, rfl, rfl, rfl, rfl, rfl, rfl, rfl, rfl, rfl, rfl, rfl, rfl, rfl, rfl, rfl, rfl, rfl, rfl⟩

@[simp] theorem modComp_fields (n : Nat) (f : Comp → Comp) (d : Dev) :
    (modComp n f d).now = d.now ∧ (modComp n f d).stcFp = d.stcFp ∧ (modComp n f d).stcRun = d.stcRun ∧ (modComp n f d).od = d.od ∧
    (modComp n f d).body = d.body ∧ (modComp n f d).evLog = d.evLog ∧ (modComp n f d).evSeq = d.evSeq ∧
    (modComp n f d).evClearedAt = d.evClearedAt ∧ (modComp n f d).oldFaults = d.oldFaults ∧ (modComp n f d).free = d.free ∧
    (modComp n f d).ctl = d.ctl ∧ (modComp n f d).host = d.host ∧ (modComp n f d).nv = d.nv ∧ (modComp n f d).user = d.user ∧
    (modComp n f d).jr = d.jr ∧ (modComp n f d).power = d.power ∧ (modComp n f d).boot = d.boot ∧ (modComp n f d).lanes = d.lanes ∧
    (modComp n f d).clk = d.clk ∧ (modComp n f d).flt = d.flt ∧ (modComp n f d).fm = d.fm ∧ (modComp n f d).therm = d.therm ∧
    (modComp n f d).ev = d.ev ∧ (modComp n f d).aud = d.aud :=
  ⟨rfl, rfl, rfl, rfl, rfl, rfl, rfl, rfl, rfl, rfl, rfl, rfl, rfl, rfl, rfl, rfl, rfl, rfl, rfl, rfl, rfl, rfl, rfl, rfl⟩

@[simp] theorem modClk_fields (f : Clocks → Clocks) (d : Dev) :
    (modClk f d).now = d.now ∧ (modClk f d).stcFp = d.stcFp ∧ (modClk f d).stcRun = d.stcRun ∧ (modClk f d).od = d.od ∧
    (modClk f d).body = d.body ∧ (modClk f d).evLog = d.evLog ∧ (modClk f d).evSeq = d.evSeq ∧ (modClk f d).evClearedAt = d.evClearedAt ∧
    (modClk f d).oldFaults = d.oldFaults ∧ (modClk f d).free = d.free ∧ (modClk f d).ctl = d.ctl ∧ (modClk f d).host = d.host ∧
    (modClk f d).nv = d.nv ∧ (modClk f d).user = d.user ∧ (modClk f d).jr = d.jr ∧ (modClk f d).power = d.power ∧
    (modClk f d).boot = d.boot ∧ (modClk f d).lanes = d.lanes ∧ (modClk f d).video = d.video ∧ (modClk f d).flt = d.flt ∧
    (modClk f d).fm = d.fm ∧ (modClk f d).therm = d.therm ∧ (modClk f d).ev = d.ev ∧ (modClk f d).aud = d.aud :=
  ⟨rfl, rfl, rfl, rfl, rfl, rfl, rfl, rfl, rfl, rfl, rfl, rfl, rfl, rfl, rfl, rfl, rfl, rfl, rfl, rfl, rfl, rfl, rfl, rfl⟩

@[simp] theorem modFlt_fields (f : FaultState → FaultState) (d : Dev) :
    (modFlt f d).now = d.now ∧ (modFlt f d).stcFp = d.stcFp ∧ (modFlt f d).stcRun = d.stcRun ∧ (modFlt f d).od = d.od ∧
    (modFlt f d).body = d.body ∧ (modFlt f d).evLog = d.evLog ∧ (modFlt f d).evSeq = d.evSeq ∧ (modFlt f d).evClearedAt = d.evClearedAt ∧
    (modFlt f d).oldFaults = d.oldFaults ∧ (modFlt f d).free = d.free ∧ (modFlt f d).ctl = d.ctl ∧ (modFlt f d).host = d.host ∧
    (modFlt f d).nv = d.nv ∧ (modFlt f d).user = d.user ∧ (modFlt f d).jr = d.jr ∧ (modFlt f d).power = d.power ∧
    (modFlt f d).boot = d.boot ∧ (modFlt f d).lanes = d.lanes ∧ (modFlt f d).video = d.video ∧ (modFlt f d).clk = d.clk ∧
    (modFlt f d).fm = d.fm ∧ (modFlt f d).therm = d.therm ∧ (modFlt f d).ev = d.ev ∧ (modFlt f d).aud = d.aud :=
  ⟨rfl, rfl, rfl, rfl, rfl, rfl, rfl, rfl, rfl, rfl, rfl, rfl, rfl, rfl, rfl, rfl, rfl, rfl, rfl, rfl, rfl, rfl, rfl, rfl⟩

@[simp] theorem modFm_fields (f : FrameMem → FrameMem) (d : Dev) :
    (modFm f d).now = d.now ∧ (modFm f d).stcFp = d.stcFp ∧ (modFm f d).stcRun = d.stcRun ∧ (modFm f d).od = d.od ∧
    (modFm f d).body = d.body ∧ (modFm f d).evLog = d.evLog ∧ (modFm f d).evSeq = d.evSeq ∧ (modFm f d).evClearedAt = d.evClearedAt ∧
    (modFm f d).oldFaults = d.oldFaults ∧ (modFm f d).free = d.free ∧ (modFm f d).ctl = d.ctl ∧ (modFm f d).host = d.host ∧
    (modFm f d).nv = d.nv ∧ (modFm f d).user = d.user ∧ (modFm f d).jr = d.jr ∧ (modFm f d).power = d.power ∧ (modFm f d).boot = d.boot ∧
    (modFm f d).lanes = d.lanes ∧ (modFm f d).video = d.video ∧ (modFm f d).clk = d.clk ∧ (modFm f d).flt = d.flt ∧
    (modFm f d).therm = d.therm ∧ (modFm f d).ev = d.ev ∧ (modFm f d).aud = d.aud :=
  ⟨rfl, rfl, rfl, rfl, rfl, rfl, rfl, rfl, rfl, rfl, rfl, rfl, rfl, rfl, rfl, rfl, rfl, rfl, rfl, rfl, rfl, rfl, rfl, rfl⟩

@[simp] theorem modTherm_fields (f : Thermal → Thermal) (d : Dev) :
    (modTherm f d).now = d.now ∧ (modTherm f d).stcFp = d.stcFp ∧ (modTherm f d).stcRun = d.stcRun ∧ (modTherm f d).od = d.od ∧
    (modTherm f d).body = d.body ∧ (modTherm f d).evLog = d.evLog ∧ (modTherm f d).evSeq = d.evSeq ∧
    (modTherm f d).evClearedAt = d.evClearedAt ∧ (modTherm f d).oldFaults = d.oldFaults ∧ (modTherm f d).free = d.free ∧
    (modTherm f d).ctl = d.ctl ∧ (modTherm f d).host = d.host ∧ (modTherm f d).nv = d.nv ∧ (modTherm f d).user = d.user ∧
    (modTherm f d).jr = d.jr ∧ (modTherm f d).power = d.power ∧ (modTherm f d).boot = d.boot ∧ (modTherm f d).lanes = d.lanes ∧
    (modTherm f d).video = d.video ∧ (modTherm f d).clk = d.clk ∧ (modTherm f d).flt = d.flt ∧ (modTherm f d).fm = d.fm ∧
    (modTherm f d).ev = d.ev ∧ (modTherm f d).aud = d.aud :=
  ⟨rfl, rfl, rfl, rfl, rfl, rfl, rfl, rfl, rfl, rfl, rfl, rfl, rfl, rfl, rfl, rfl, rfl, rfl, rfl, rfl, rfl, rfl, rfl, rfl⟩

@[simp] theorem modEv_fields (f : Evid → Evid) (d : Dev) :
    (modEv f d).now = d.now ∧ (modEv f d).stcFp = d.stcFp ∧ (modEv f d).stcRun = d.stcRun ∧ (modEv f d).od = d.od ∧
    (modEv f d).body = d.body ∧ (modEv f d).evLog = d.evLog ∧ (modEv f d).evSeq = d.evSeq ∧ (modEv f d).evClearedAt = d.evClearedAt ∧
    (modEv f d).oldFaults = d.oldFaults ∧ (modEv f d).free = d.free ∧ (modEv f d).ctl = d.ctl ∧ (modEv f d).host = d.host ∧
    (modEv f d).nv = d.nv ∧ (modEv f d).user = d.user ∧ (modEv f d).jr = d.jr ∧ (modEv f d).power = d.power ∧ (modEv f d).boot = d.boot ∧
    (modEv f d).lanes = d.lanes ∧ (modEv f d).video = d.video ∧ (modEv f d).clk = d.clk ∧ (modEv f d).flt = d.flt ∧
    (modEv f d).fm = d.fm ∧ (modEv f d).therm = d.therm ∧ (modEv f d).aud = d.aud :=
  ⟨rfl, rfl, rfl, rfl, rfl, rfl, rfl, rfl, rfl, rfl, rfl, rfl, rfl, rfl, rfl, rfl, rfl, rfl, rfl, rfl, rfl, rfl, rfl, rfl⟩

@[simp] theorem modChain_fields (e : Nat) (f : Chain → Chain) (d : Dev) :
    (modChain e f d).now = d.now ∧ (modChain e f d).stcFp = d.stcFp ∧ (modChain e f d).stcRun = d.stcRun ∧ (modChain e f d).od = d.od ∧
    (modChain e f d).body = d.body ∧ (modChain e f d).evLog = d.evLog ∧ (modChain e f d).evSeq = d.evSeq ∧
    (modChain e f d).evClearedAt = d.evClearedAt ∧ (modChain e f d).oldFaults = d.oldFaults ∧ (modChain e f d).free = d.free ∧
    (modChain e f d).ctl = d.ctl ∧ (modChain e f d).host = d.host ∧ (modChain e f d).nv = d.nv ∧ (modChain e f d).user = d.user ∧
    (modChain e f d).jr = d.jr ∧ (modChain e f d).power = d.power ∧ (modChain e f d).boot = d.boot ∧ (modChain e f d).lanes = d.lanes ∧
    (modChain e f d).video = d.video ∧ (modChain e f d).clk = d.clk ∧ (modChain e f d).flt = d.flt ∧ (modChain e f d).fm = d.fm ∧
    (modChain e f d).therm = d.therm ∧ (modChain e f d).aud = d.aud :=
  ⟨rfl, rfl, rfl, rfl, rfl, rfl, rfl, rfl, rfl, rfl, rfl, rfl, rfl, rfl, rfl, rfl, rfl, rfl, rfl, rfl, rfl, rfl, rfl, rfl⟩

@[simp] theorem modAud_fields (f : Audio → Audio) (d : Dev) :
    (modAud f d).now = d.now ∧ (modAud f d).stcFp = d.stcFp ∧ (modAud f d).stcRun = d.stcRun ∧ (modAud f d).od = d.od ∧
    (modAud f d).body = d.body ∧ (modAud f d).evLog = d.evLog ∧ (modAud f d).evSeq = d.evSeq ∧ (modAud f d).evClearedAt = d.evClearedAt ∧
    (modAud f d).oldFaults = d.oldFaults ∧ (modAud f d).free = d.free ∧ (modAud f d).ctl = d.ctl ∧ (modAud f d).host = d.host ∧
    (modAud f d).nv = d.nv ∧ (modAud f d).user = d.user ∧ (modAud f d).jr = d.jr ∧ (modAud f d).power = d.power ∧
    (modAud f d).boot = d.boot ∧ (modAud f d).lanes = d.lanes ∧ (modAud f d).video = d.video ∧ (modAud f d).clk = d.clk ∧
    (modAud f d).flt = d.flt ∧ (modAud f d).fm = d.fm ∧ (modAud f d).therm = d.therm ∧ (modAud f d).ev = d.ev :=
  ⟨rfl, rfl, rfl, rfl, rfl, rfl, rfl, rfl, rfl, rfl, rfl, rfl, rfl, rfl, rfl, rfl, rfl, rfl, rfl, rfl, rfl, rfl, rfl, rfl⟩

/-! ## Entries -/

theorem rd_eq_of_od {d d' : Dev} (h : d'.od = d.od) (j : Nat) : rd d' j = rd d j := by unfold rd; rw [h]

theorem rdB_eq_of_body {d d' : Dev} (h : d'.body = d.body) (j : Nat) : rdB d' j = rdB d j := by unfold rdB; rw [h]

@[simp] theorem rd_wr (k v j : Nat) (d : Dev) : rd (wr k v d) j = if k = j then v else rd d j := by
  unfold rd wr
  rw [tabFind_tabSet]
  split <;> rfl

@[simp] theorem rdB_wrB (k j : Nat) (v : List Byte) (d : Dev) : rdB (wrB k v d) j = if k = j then v else rdB d j := by
  unfold rdB wrB
  rw [tabFind_tabSet]
  split <;> rfl

@[simp] theorem rd_wrB (k j : Nat) (v : List Byte) (d : Dev) : rd (wrB k v d) j = rd d j := rfl

@[simp] theorem rdB_wr (k v j : Nat) (d : Dev) : rdB (wr k v d) j = rdB d j := rfl

@[simp] theorem rd_toHost (x : HostTxn) (d : Dev) (j : Nat) : rd (toHost x d) j = rd d j := rfl

@[simp] theorem rd_modQ (q : Nat) (f : Queue → Queue) (d : Dev) (j : Nat) : rd (modQ q f d) j = rd d j := rfl

@[simp] theorem rd_modSlot (s : Nat) (f : SlotRun → SlotRun) (d : Dev) (j : Nat) : rd (modSlot s f d) j = rd d j := rfl

@[simp] theorem rd_jClose (p : JEntry → Bool) (d : Dev) (j : Nat) : rd (jClose p d) j = rd d j := rfl

@[simp] theorem rd_jMod (p : JEntry → Bool) (f : JEntry → JEntry) (d : Dev) (j : Nat) : rd (jMod p f d) j = rd d j := rfl

/-- A saturating count reads one more, up to its largest value; nothing else is touched. -/
theorem rd_incSat (w k j : Nat) (d : Dev) : rd (incSat w k d) j = if k = j then min (rd d k + 1) (2 ^ w - 1) else rd d j := rd_wr _ _ _ _

theorem rd_addSat (w k n j : Nat) (d : Dev) : rd (addSat w k n d) j = if k = j then min (rd d k + n) (2 ^ w - 1) else rd d j := rd_wr _ _ _ _

/-- The cleared entries read 0, the others as before. -/
theorem rd_clearAll (ks : List Nat) (j : Nat) (d : Dev) : rd (clearAll ks d) j = if j ∈ ks then 0 else rd d j := by
  unfold clearAll
  induction ks generalizing d with
  | nil => simp
  | cons k r ih =>
    rw [List.foldl_cons, ih, rd_wr]
    by_cases h : j ∈ r
    · simp [h]
    · by_cases e : k = j
      · simp [e]
      · simp [h, e, Ne.symm e]

/-! ## Time -/

@[simp] theorem now_advance (t : Ps) (d : Dev) : (advance t d).now = max d.now t := rfl

/-- Time touches nothing but the two clocks. -/
@[simp] theorem rd_advance (t : Ps) (d : Dev) (j : Nat) : rd (advance t d) j = rd d j := rfl

@[simp] theorem advance_fields (t : Ps) (d : Dev) :
    (advance t d).ctl = d.ctl ∧ (advance t d).host = d.host ∧ (advance t d).nv = d.nv ∧ (advance t d).body = d.body ∧
    (advance t d).evLog = d.evLog ∧ (advance t d).evSeq = d.evSeq ∧ (advance t d).free = d.free ∧ (advance t d).jr = d.jr ∧
    (advance t d).power = d.power ∧ (advance t d).boot = d.boot ∧ (advance t d).lanes = d.lanes ∧ (advance t d).video = d.video ∧
    (advance t d).clk = d.clk ∧ (advance t d).flt = d.flt ∧ (advance t d).fm = d.fm ∧ (advance t d).therm = d.therm ∧
    (advance t d).ev = d.ev ∧ (advance t d).aud = d.aud ∧ (advance t d).user = d.user :=
  ⟨rfl, rfl, rfl, rfl, rfl, rfl, rfl, rfl, rfl, rfl, rfl, rfl, rfl, rfl, rfl, rfl, rfl, rfl, rfl⟩

@[simp] theorem alive_advance (t : Ps) (d : Dev) : alive (advance t d) = alive d := rfl

/-- A later instant takes over from an earlier one. -/
theorem now_advance_ge (t : Ps) (d : Dev) : d.now ≤ (advance t d).now := Nat.le_max_left _ _

/-! ## Events -/

/-- Delivery to one queue counts the bytes that went to the host or an event lost; the entries read as before otherwise. -/
theorem rd_deliverTo {e : Event} {q j : Nat} {d : Dev} (h : ∀ f, j ≠ K.fn_EVENTS_LOST f ∧ j ≠ K.fn_BYTES_D2H f) : rd (deliverTo e q d) j = rd d j := by
  unfold deliverTo
  dsimp only
  split
  · exact (rd_wr _ _ j _).trans (if_neg (Ne.symm (h _).2))
  · rw [rd_incSat, if_neg (Ne.symm (h _).1)]; rfl

theorem evSeq_deliverTo (e : Event) (q : Nat) (d : Dev) : (deliverTo e q d).evSeq = d.evSeq ∧ (deliverTo e q d).evLog = d.evLog := by
  unfold deliverTo
  dsimp only
  split <;> exact ⟨rfl, rfl⟩

/-- `forAll` keeps what every member keeps. -/
theorem forAll_keeps {α β : Type} (l : List α) (f : α → Dev → Dev) (g : Dev → β) (h : ∀ a d, g (f a d) = g d) (d : Dev) :
    g (forAll l f d) = g d := by
  unfold forAll
  induction l generalizing d with
  | nil => rfl
  | cons a r ih => rw [List.foldl_cons, ih, h]

theorem rd_deliver {e : Event} {j : Nat} {d : Dev} (h : ∀ f, j ≠ K.fn_EVENTS_LOST f ∧ j ≠ K.fn_BYTES_D2H f) : rd (deliver e d) j = rd d j :=
  forAll_keeps _ _ (rd · j) (fun _ _ => rd_deliverTo h) d

/-- An event raised: the entries read as before, events lost apart. -/
theorem rd_raiseX {code entry old new dom q : Nat} {detail : List Byte} {sev : Option Nat} {j : Nat} {d : Dev}
    (h : ∀ f, j ≠ K.fn_EVENTS_LOST f ∧ j ≠ K.fn_BYTES_D2H f) : rd (raiseX code entry old new dom q detail sev d) j = rd d j := by
  unfold raiseX
  exact rd_deliver h

/-- An event raised: EVENT_SEQ counts it, and it stands newest in the log. -/
theorem evLog_raiseX (code entry old new dom q : Nat) (detail : List Byte) (sev : Option Nat) (d : Dev) :
    let d' := raiseX code entry old new dom q detail sev d
    d'.evSeq = d.evSeq + 1 ∧ ∃ e, d'.evLog = e :: d.evLog ∧ e.code = code ∧ e.entry = entry ∧ e.old = old ∧ e.new = new ∧ e.seq = d.evSeq + 1 ∧
      e.detail = detail ∧ e.domain = dom ∧ e.queue = q := by
  have hs (e : Event) (d : Dev) : (deliver e d).evSeq = d.evSeq := forAll_keeps _ _ (·.evSeq) (fun _ _ => (evSeq_deliverTo _ _ _).1) d
  have hl (e : Event) (d : Dev) : (deliver e d).evLog = d.evLog := forAll_keeps _ _ (·.evLog) (fun _ _ => (evSeq_deliverTo _ _ _).2) d
  unfold raiseX
  exact ⟨hs _ _, _, hl _ _, rfl, rfl, rfl, rfl, rfl, rfl, rfl, rfl⟩

/-- A changed entry reads its new value; the others read as before, events lost apart. -/
theorem rd_change {k v j : Nat} {d : Dev} (h : ∀ f, j ≠ K.fn_EVENTS_LOST f ∧ j ≠ K.fn_BYTES_D2H f) : rd (change k v d) j = if k = j then v else rd d j := by
  unfold change
  split
  · next e => split
              · next e' => rw [← e', e]
              · rfl
  · unfold raise; rw [rd_raiseX h, rd_wr]

/-! ## What a command does -/

/-- Where no access waits for the bus matrix, time alone moves on. -/
theorem arrive_of_idle {t : Ps} {d : Dev} (h : d.ctl.held = []) : arrive t d = advance t d := by
  unfold arrive
  rw [h]
  rfl

/-- `act` answers a next state: the instant has come, and in a block that is alive `f` has acted; queue and frame memory are as before. -/
theorem act_eq (t : Ps) (f : Dev → Dev) (s : State) :
    act t f s = .next { s with dev := if alive (arrive t s.dev) then f (arrive t s.dev) else arrive t s.dev } := rfl

theorem act_of_alive {t : Ps} {f : Dev → Dev} {s : State} (h : alive (arrive t s.dev) = true) :
    act t f s = .next { s with dev := f (arrive t s.dev) } := by
  rw [act_eq, h]; rfl

theorem act_of_dead {t : Ps} {f : Dev → Dev} {s : State} (h : alive (arrive t s.dev) = false) :
    act t f s = .next { s with dev := arrive t s.dev } := by
  rw [act_eq, h]; rfl

theorem wellFormed_eq_next {c : Bool} {w : String} {o : Host.Outcome State Fault Refusal} {t : State} :
    wellFormed c w o = .next t ↔ c = true ∧ o = .next t := by
  cases c <;> simp [wellFormed]

/-- A command that acts by `f` makes what `f` makes of the block at its instant. -/
theorem makes_of_act {c : Instr} {t : Ps} {f : Dev → Dev} {s : State} {P : Dev → Prop} (e : exec c s = act t f s)
    (h : alive (arrive t s.dev) = true) (p : P (f (arrive t s.dev))) : Makes c s P :=
  ⟨_, by rw [e, act_of_alive h], p⟩

end Sys2Proof.Machine
end

