-- ==== Sys2Proof/Tests/Slice0.lean ====
section
/-! SUPPORT. Tests. Each check of `WellFormed` refuses an ill-formed command, and every statement with hypotheses has here a state and operands
that meet them, clause by clause. -/

open Sys2Proof Sys2Proof.Machine

namespace Sys2Proof.Tests

set_option maxRecDepth 50000

/-- The physical function at the aperture, a virtual function's mailbox, a DDP node. -/
def host : Access := { path := .aperture, req := .pcie 0 }
def mail : Access := { path := .mailbox, req := .pcie 0 }
def vfMail : Access := { path := .mailbox, req := .pcie 3 }
def node : Access := { path := .ddp, req := .ddp 5 }

/-- A block in operation whose entries read as given, at an instant late enough for every time bound. -/
def dv (l : Tab Nat) : Dev :=
  { now := sec 100, od := l ++ [(K.x1001_DICT_STATE, 2), (K.x1C40_BOOT_STEP, 0x19)], boot := { started := true } }

def st (d : Dev) : State := { pending := [], mem := [], dev := d }

def at_ (l : Tab Nat) : State := st (dv l)

/-- At the instant 0 such a block is as it stands: what is shown of it holds of `arrive 0` of it. -/
theorem test_instant (d : Dev) : arrive 0 d = d := by
  have h (n : Nat) : busRun n 0 d = d := by
    cases n with
    | zero => rfl
    | succ n => exact if_pos (Or.inr (Nat.mul_pos (Nat.succ_pos _) (by decide)))
  unfold arrive
  rw [h]
  simp [advance]

/-! ## Access to the dictionary -/

theorem test_clears : Accepted 0 host K.x1C20_CLEAR 1 [1] (at_ []) ∧ Accepted 0 host K.x1C21_CLEAR 1 [1] (at_ []) ∧
    Accepted 0 node K.x3800_COUNT_CLEAR 1 [1] (at_ []) ∧ Accepted 0 host K.x3806_CLEAR 1 [1] (at_ []) ∧
    Accepted 0 host (K.ea_COUNT_CLEAR 127) 1 [1] (at_ []) ∧ Accepted 0 host (K.ar_COUNT_CLEAR 15) 1 [1] (at_ []) ∧
    Accepted 0 host (K.rx_COUNT_CLEAR 127) 1 [1] (at_ []) :=
  ⟨accepted_of (by decide), accepted_of (by decide), accepted_of (by decide), accepted_of (by decide), accepted_of (by decide),
    accepted_of (by decide), accepted_of (by decide)⟩

/-- Misses in a CK_CTL cycle in which master 2 was recorded: master 1 is recorded, master 3 is not (R42). -/
def missed : State := st { dv [] with ctl := { missCycle := some (ctlCycle (dv []), 2) } }

theorem test_miss : alive (arrive 0 missed.dev) = true ∧ recordsNow (arrive 0 missed.dev) missed.dev.ctl.missCycle 1 = true ∧
    recordsNow (arrive 0 missed.dev) missed.dev.ctl.missCycle 3 = false ∧ reaches (arrive 0 missed.dev) 0 0 = true := by decide

/-- An aperture read of 8 bytes of a slot is served, one that is not aligned is a miss. -/
theorem test_aperture_read : (apertureRead 0 (K.x1000_PCIE_DEVICE_ID * 16) 8 (dv [])).isSome = true ∧
    apertureRead 0 (K.x1000_PCIE_DEVICE_ID * 16 + 1) 8 (dv []) = none := by decide

/-- A write to a CONST entry by the host and one to DDP_WRITE_MODE by a node. -/
theorem test_refused : ∃ r, metRow (dv []) .aperture 0 K.x1000_PCIE_DEVICE_ID 1 true = some r ∧
    refusal (dv []) { path := .aperture, req := 0, k := K.x1000_PCIE_DEVICE_ID, start := 0, bytes := [1, 0] } r = some 2 :=
  ⟨_, rfl, by decide⟩

theorem test_refused_alive : alive (arrive 0 (dv [])) = true ∧ accOk host = true ∧ portFreeB 0 (targetOf 0x1000) (dv []) = true := by decide

/-- A staged write of the physical function beside what a node has staged. -/
def stagedSt : State := st { dv [] with ctl := { basting := [(0x1005, { items := [⟨K.x1460_STC_SOURCE, [1]⟩] })] } }

theorem test_staging : ∃ r, entryRow stagedSt.dev K.x1460_STC_SOURCE = some r ∧ r.acc = .rws ∧ r.ty ≠ .domain ∧
    stageRoom stagedSt.dev 0 K.x1460_STC_SOURCE 1 = true ∧ Accepted 0 host K.x1460_STC_SOURCE 0 [0] stagedSt :=
  ⟨_, rfl, by decide, by decide, by decide, accepted_of (by decide)⟩

theorem test_discard : Accepted 0 node K.x5000_DISCARD_BASTING 1 [1] stagedSt := accepted_of (by decide)

theorem test_stc_read : alive (arrive 0 (dv [])) = true ∧ accOk host = true ∧ accOk node = true ∧ isPcie (reqId host.req) = true ∧
    isVf (reqId host.req) = false ∧ mayRead (dv []) 0 K.x1460_STC_NOW = true ∧ mayRead (dv []) 0x1005 K.x1460_STC_NOW = true ∧
    portFreeB 1 4 (dv []) = true := by decide

theorem test_controls : Accepted 0 host K.x1000_COMPAT_REQUEST 1 [1] (at_ []) ∧ Accepted 0 host K.x1800_SVN_COMMIT 1 [1] (at_ []) ∧
    Accepted 0 host K.x1802_EPOCH_ADVANCE 1 [1] (at_ []) ∧ Accepted 0 host K.x1C10_LOG_CLEAR 1 [1] (at_ []) :=
  ⟨accepted_of (by decide), accepted_of (by decide), accepted_of (by decide), accepted_of (by decide)⟩

/-- An owner token of the action for slot 2. -/
def token (action : Nat) : List Byte :=
  [0x56, 0x58, 0x4F, 0x45, 2, BitVec.ofNat 8 action, 0, 0] ++ (deviceKeyId ++ List.replicate 3413 0)

theorem token_key (a : Nat) : slice 8 32 (token a) = deviceKeyId := by
  have h (b c : List Byte) : slice 8 32 ([0x56, 0x58, 0x4F, 0x45, 2, BitVec.ofNat 8 a, 0, 0] ++ (b ++ c)) = (b ++ c).take 32 := rfl
  unfold token
  rw [h, List.take_left' (show deviceKeyId.length = 32 from length_sha256 _)]

theorem token_length (a : Nat) : (token a).length = 3453 := by
  rw [token, List.length_append, List.length_append, show deviceKeyId.length = 32 from length_sha256 _, List.length_replicate]
  rfl

def vendorSig : SigCheck := { vendorKeyKnown := true, vendorSigs := true, ownerSigs := false }

theorem test_token_ok (a : Nat) : tokenOk (vendorSig.vendorKeyKnown && vendorSig.vendorSigs) (token a)
    (atWrite 0 mail K.x1800_OWNER_TOKEN (at_ [])) = true := by
  have h (b : List Byte) : slice 0 4 ([0x56, 0x58, 0x4F, 0x45, 2, BitVec.ofNat 8 a, 0, 0] ++ b) = ascii "VXOE" := rfl
  have h' (b : List Byte) : leAt ([0x56, 0x58, 0x4F, 0x45, 2, BitVec.ofNat 8 a, 0, 0] ++ b) 4 1 = 2 := rfl
  have h6 (b : List Byte) : leAt ([0x56, 0x58, 0x4F, 0x45, 2, BitVec.ofNat 8 a, 0, 0] ++ b) 6 2 = 0 := rfl
  have e' : rd (atWrite 0 mail K.x1800_OWNER_TOKEN (at_ [])) K.x1800_LIFECYCLE = 2 := rfl
  have e'' : (atWrite 0 mail K.x1800_OWNER_TOKEN (at_ [])).boot.fuseFail = false := rfl
  have h72 : slice 72 8 (token a) = List.replicate 8 0 := by
    have hl : deviceKeyId.length = 32 := length_sha256 _
    have hd : (deviceKeyId ++ List.replicate 3413 (0 : Byte)).drop 64 = List.replicate 3381 0 := by
      rw [List.drop_append, hl, List.drop_eq_nil_of_le (by omega), List.drop_replicate]; rfl
    unfold slice token
    rw [List.drop_append, show ([0x56, 0x58, 0x4F, 0x45, 2, BitVec.ofNat 8 a, 0, 0] : List Byte).drop 72 = [] from rfl, List.nil_append]
    show ((deviceKeyId ++ List.replicate 3413 (0 : Byte)).drop 64).take 8 = _
    rw [hd, List.take_replicate]; rfl
  unfold tokenOk
  rw [token_key, token_length, show slice 0 4 (token a) = _ from h _, show leAt (token a) 4 1 = 2 from h' _,
    show leAt (token a) 6 2 = 0 from h6 _, h72, e', e'']
  simp [vendorSig]

theorem test_token_free : bitAt (dv []).boot.otp.slots 2 = false ∧ bitAt (dv []).boot.otp.slots 6 = false := by decide

theorem test_token_actions : ∀ a : Fin 5, leAt (token a) 5 1 = a.val ∧ leAt (token a) 4 1 = 2 := by
  intro a
  match a with
  | 0 | 1 | 2 | 3 | 4 =>
    exact ⟨by unfold token; rfl, by unfold token; rfl⟩

theorem test_token_accepted (a : Nat) : Accepted 0 mail K.x1800_OWNER_TOKEN (leNat (token a)) (token a) (at_ []) := by
  refine ⟨rfl, rfl, portFree_iff.2 (by decide), ⟨5, 5, .octets, .wo, .instant, 3453, 0, .any, false⟩, rfl, ?_, ?_⟩
  · rw [List.take_of_length_le (Nat.le_of_eq (token_length a))]
  · simp only [refusal, token_length]
    generalize Put.num _ _ = v
    have h1 (r : Row) : notReady (atWrite 0 mail K.x1800_OWNER_TOKEN (at_ [])) .mailbox 0 K.x1800_OWNER_TOKEN v r = false := rfl
    have h2 : notPermitted (atWrite 0 mail K.x1800_OWNER_TOKEN (at_ [])) .mailbox 0 K.x1800_OWNER_TOKEN v = false := rfl
    have h3 : locked (atWrite 0 mail K.x1800_OWNER_TOKEN (at_ [])) 0 K.x1800_OWNER_TOKEN v = false := rfl
    have h4 (r : Row) (b : List Byte) (h : r.ty = .octets) :
        valueOk (atWrite 0 mail K.x1800_OWNER_TOKEN (at_ [])) 0 K.x1800_OWNER_TOKEN r v b = true := by
      unfold valueOk; rw [h]; rfl
    rw [show reqId mail.req = 0 from rfl, show mail.path = .mailbox from rfl, h1, h2, h3, h4 _ _ rfl]
    decide

/-- A partition whose password is set; one in its back-off that has ended. -/
def pass : List Byte := [0x61, 0x62, 0x63, 0x64, 0x65, 0x66, 0x67, 0x68]
def userSt (u : Nat) (x : UserPart) : State := st { dv [(K.up_PROTECT_MODE u, 2), (K.up_FAILURES u, 3)] with user := [(u, x)] }
def withPass : UserPart := { salt := List.replicate 16 7, hash := sha256 (List.replicate 16 7 ++ pass), unlocked := [0, 5] }

theorem test_set_password : Accepted 0 mail (K.up_SET_PASSWORD 3) 0 (List.replicate 34 0) (userSt 3 withPass) ∧
    (let b : List Byte := [3, 8] ++ pass ++ List.replicate 24 0
     Accepted 0 mail (K.up_SET_PASSWORD 3) (leNat b) b (userSt 3 withPass) ∧ leAt b 0 1 = 3 ∧ leAt b 1 1 = 8 ∧
       (b.drop (2 + leAt b 1 1)).all (· == 0) = true) :=
  ⟨accepted_of (by decide), accepted_of (by decide), by decide, by decide, by decide⟩

theorem test_unlock : let b : List Byte := [8] ++ pass ++ List.replicate 24 0
    let x := user (userSt 3 withPass).dev 3
    Accepted 0 mail (K.up_UNLOCK 3) (leNat b) b (userSt 3 withPass) ∧ leAt b 0 1 ≤ 32 ∧ x.hash ≠ [] ∧ x.backoffEnd = none ∧
      sha256 (x.salt ++ slice 1 (leAt b 0 1) b) = x.hash :=
  ⟨accepted_of (by decide), by decide,
    fun h => absurd (congrArg List.length h) (by rw [show (user (userSt 3 withPass).dev 3).hash = sha256 _ from rfl, length_sha256]; decide),
    rfl, rfl⟩

theorem test_lock_erase : Accepted 0 host (K.up_LOCK 3) 1 [1] (userSt 3 {}) ∧ Accepted 0 mail (K.up_ERASE_AND_CLEAR 3) 1 [1] (userSt 3 {}) :=
  ⟨accepted_of (by decide), accepted_of (by decide)⟩

theorem test_backoff : alive (arrive 0 (userSt 0 { backoffEnd := some (sec 100), backoffLen := 4 }).dev) = true ∧
    (user (userSt 0 { backoffEnd := some (sec 100), backoffLen := 4 }).dev 0).backoffEnd = some (sec 100) := by decide

/-! ## Commits and long-operation slots -/

/-- A block whose slot `s` has a STATE, an OPCODE, an OWNER and entries of its own. -/
def slotSt (s state op owner : Nat) (l : Tab Nat := []) (x : SlotRun := {}) : State :=
  st { dv ([(K.slot_STATUS s, state * 2 ^ 28), (K.slot_OPCODE s, op), (K.slot_OWNER s, owner)] ++ l) with
    ctl := { slots := [(s, { x with op := op })] } }

theorem test_op_start : Accepted 0 host (K.slot_CONTROL 63) 1 [1] (slotSt 63 0 0x60 0) ∧ knownOps.contains 0x60 = true ∧
    Accepted 0 host (K.slot_CONTROL 63) 1 [1] (slotSt 63 0 0x99 0) ∧ knownOps.contains 0x99 = false :=
  ⟨accepted_of (by decide), by decide, accepted_of (by decide), by decide⟩

/-- A node with one staged value, whose slot 63 holds a commit in a phase. -/
def commitSt (phase : Nat) (snap : List Staged) (only : Bool) : State :=
  let s := slotSt 63 (if phase = 0 then 1 else 2) 1 0x1005
  st { s.dev with ctl := { s.dev.ctl with
    basting := [(0x1005, { items := [⟨K.x1460_STC_SOURCE, [0]⟩] })]
    commits := [{ slot := 63, req := 0x1005, phase := phase, snap := snap, validateOnly := only, granted := 1 }] } }

theorem test_commit_request : Accepted 0 node K.x5000_COMMIT_REQUEST 62 [62] (commitSt 0 [] false) ∧
    slotState (commitSt 0 [] false).dev 62 = 0 ∧ rd (commitSt 0 [] false).dev (K.slot_OWNER 62) = 0xFFFF ∧
    (basting (commitSt 0 [] false).dev 0x1005).items ≠ [] :=
  ⟨accepted_of (by decide), by decide, by decide, by decide⟩

theorem test_op_abort : Accepted 0 host (K.slot_CONTROL 63) 2 [2] (slotSt 63 3 0x60 0) ∧ slotState (slotSt 63 3 0x60 0).dev 63 = 3 ∧
    Accepted 0 host (K.slot_CONTROL 0) 2 [2] (slotSt 0 1 0x60 0) ∧ slotState (slotSt 0 1 0x60 0).dev 0 = 1 ∧
    Accepted 0 host (K.slot_CONTROL 0) 2 [2] (slotSt 0 2 0x40 0) ∧ slotState (slotSt 0 2 0x40 0).dev 0 = 2 ∧
    (slotRun (slotSt 0 2 0x40 0).dev 0).op = 0x40 :=
  ⟨accepted_of (by decide), by decide, accepted_of (by decide), by decide, accepted_of (by decide), by decide, by decide⟩

theorem test_commit_abort : Accepted 0 node (K.slot_CONTROL 63) 2 [2] (commitSt 1 [] false) ∧
    slotState (commitSt 1 [] false).dev 63 = 2 ∧ ∃ c, commitIn (commitSt 1 [] false).dev 63 = some c ∧ c.phase ≠ 2 ∧ c.arming = none :=
  ⟨accepted_of (by decide), by decide, _, rfl, by decide, by decide⟩

theorem test_op_release : Accepted 0 host (K.slot_CONTROL 63) 3 [3] (slotSt 63 4 0x60 0) ∧ rd (slotSt 63 4 0x60 0).dev (K.slot_OWNER 63) = 0 :=
  ⟨accepted_of (by decide), by decide⟩

theorem test_slot_timeouts : (slotRun (slotSt 63 0 0x60 7).dev 63).claimedAt + sec 10 ≤ (slotSt 63 0 0x60 7).dev.now ∧
    slotState (slotSt 63 0 0x60 7).dev 63 = 0 ∧ slotState (slotSt 63 5 0x60 7).dev 63 = 5 ∧
    (slotRun (slotSt 63 5 0x60 7).dev 63).endedAt + sec 10 ≤ (slotSt 63 5 0x60 7).dev.now := by decide

theorem test_dispatch : alive (arrive 0 (slotSt 63 1 0x60 0x1005).dev) = true ∧ slotState (slotSt 63 1 0x60 0x1005).dev 63 = 1 ∧
    mayAttest (slotSt 63 1 0x60 0x1005).dev 0x1005 = true ∧ slotState (slotSt 63 1 0x80 0).dev 63 = 1 ∧
    arg (slotSt 0 1 0x20 0 [(K.slot_ARG 0 0, 255)]).dev 0 6 = 255 ∧ arg (slotSt 0 1 0x20 0 [(K.slot_ARG 0 0, 256)]).dev 0 6 = 256 := by decide

theorem test_commit_start : ∃ c, commitIn (commitSt 0 [] false).dev 63 = some c ∧ c.phase = 0 ∧
    (commitSt 0 [] false).dev.ctl.commits.any (fun x => x.phase == 1 || (x.phase == 0 && decide (x.granted < c.granted))) = false ∧
    (basting (commitSt 0 [] false).dev c.req).items ≠ [] :=
  ⟨_, rfl, by decide, by decide, by decide⟩

theorem test_commit_end : alive (arrive 0 (commitSt 1 [] true).dev) = true ∧ ∃ c, commitIn (commitSt 1 [] true).dev 63 = some c ∧
    c.phase = 1 ∧ c.arming = none ∧ c.overflow = false ∧ c.slot = 63 :=
  ⟨by decide, _, rfl, by decide, by decide, by decide, by decide⟩

/-! ## The budget governor, deferrable work and the long operations -/

def est : PowerEstimate :=
  { lanes := 1, memory := 2, compositors := 3, conversion := 4, inputs := 5, pcie := 6, control := 7, leakage := 2 ^ 28 - 1 }

/-- A converter that interpolates, with units of its work paid. -/
def motionSt (held : Nat) : State :=
  st { dv [(K.frc_FRC_MODE 31, 2), (K.frc_ATTACH 31, 5), (K.frc_WORK_SIZE 31, 0x07800438), (K.x5107_TOKENS_HELD, held)] with
    ctl := { paid := [16, 0, 0, 0, 0, 7] } }

theorem test_governor : (dv []).ctl.tokensAt + ms 1 ≤ max (dv []).now 0 ∧ (dv []).ctl.estimateAt + ms 10 ≤ max (dv []).now 0 ∧
    WellFormed (.powerEstimateUpdate 0 est) = true := by decide

theorem test_dispatch_motion : workWaits (arrive 0 (motionSt 8).dev) 0 = true ∧ workShed (arrive 0 (motionSt 8).dev) 0 = false ∧
    workCost 0 ≤ 8 ∧ shareMet (arrive 0 (motionSt 8).dev) 0 = true ∧
    workCost 0 + max (earlierCost (arrive 0 (motionSt 8).dev) 0) (owedOthers (arrive 0 (motionSt 8).dev) 0) ≤ 8 ∧
    (motionSt 8).dev.ctl.paid.length = 6 := by decide

/-- Queue 9 of the physical function has its turn for host traffic, which a memory test leaves what it asks for. -/
theorem test_dispatch_host : let s := slotSt 63 2 0x41 0 [(K.x5107_TOKENS_HELD, 16), (K.fn_FN_STATE 0, 1), (K.fn_QUEUE_COUNT 0, 16)]
    let d := { s.dev with host := { queues := [(9, { st := 1, tail := 3, guar := 1, shareAt := sec 100 })] } }
    workWaits d 1 = true ∧ workCost 1 ≤ 16 ∧ nextHostQueue d = some (0, 9) ∧
    (let e := { d with ctl := { d.ctl with shareIssued := 64, shareUsed := [0, 1, 0, 0, 0, 0] } }
     shareMet e 1 = true ∧ 16 < workCost 1 + max (earlierCost e 1) (owedOthers e 1)) := by decide


/-- A queue whose descriptors wait, with fewer tokens than one of them costs. -/
def dmaSt : State := st { dv [(K.x5107_TOKENS_HELD, 13)] with host := { queues := [(0, { st := 1, tail := 3 })] } }

theorem test_dispatch_stop : workWaits (arrive 0 dmaSt.dev) (workRow .hostDma) = true ∧ rd dmaSt.dev K.x5107_TOKENS_HELD < workCost 1 ∧
    dmaSt.dev.ctl.stopped.getD 1 false = false := by decide

theorem test_tile : rd (motionSt 0).dev (K.frc_FRC_MODE 31) = 2 ∧ rd (motionSt 0).dev (K.frc_ATTACH 31) ≠ 0xFFFF ∧
    tilesOf (rd (motionSt 0).dev (K.frc_WORK_SIZE 31) / 65536) (rd (motionSt 0).dev (K.frc_WORK_SIZE 31) % 65536) = (30, 17) ∧
    (conv (motionSt 0).dev 31).refined.contains 509 = false ∧ 16 ≤ (motionSt 0).dev.ctl.paid.getD 0 0 := by decide

/-- An eye scan of a LOCKED receiver. -/
def eyeSt : State :=
  let s := slotSt 63 2 0x50 0 [(K.slot_ARG 63 0, 127), (K.rx_RX_STATE 127, 3)]
  st { s.dev with ctl := { s.dev.ctl with paid := [0, 0, 0, 0, 0, 1] } }

/-- The point in progress of a scan whose abort was asked completes. -/
theorem test_eye_abort : let d := { eyeSt.dev with ctl := { eyeSt.dev.ctl with slots := [(63, { op := 0x50, abortAsked := true })] } }
    running d 63 0x50 = true ∧ eyeReady d (arg d 63 6) = true ∧ (slotRun d 63).abortAsked = true ∧ 1 ≤ d.ctl.paid.getD 5 0 := by decide

theorem test_eye : running eyeSt.dev 63 0x50 = true ∧ eyeReady eyeSt.dev (arg eyeSt.dev 63 6) = true ∧
    (slotRun eyeSt.dev 63).abortAsked = false ∧ 1 ≤ eyeSt.dev.ctl.paid.getD 5 0 := by decide

/-- A scrub or test of pages from 6,000 on, one done, of `n`. -/
def pagesSt (op n : Nat) : State :=
  slotSt 63 2 op 0 [(K.slot_ARG 63 0, 0), (K.slot_ARG 63 1, n), (K.slot_ARG 63 3, 1), (K.slot_ARG 63 4, 0)]

theorem test_pages : running (pagesSt 0x40 4).dev 63 0x40 = true ∧ (pte (pagesSt 0x40 4).dev 1).v = false ∧
    arg (pagesSt 0x40 4).dev 63 9 + arg (pagesSt 0x40 4).dev 63 0xA + 1 ≠ arg (pagesSt 0x40 4).dev 63 7 ∧
    running (pagesSt 0x41 4).dev 63 0x41 = true ∧ testable (arrive 0 (pagesSt 0x41 4).dev) 1 = false ∧
    arg (pagesSt 0x40 2).dev 63 9 + arg (pagesSt 0x40 2).dev 63 0xA + 1 = arg (pagesSt 0x40 2).dev 63 7 := by decide

/-- A firmware image with an empty payload. -/
def image : List Byte :=
  ascii "VXFW" ++ [1, 0, 0x28, 0x01] ++ natLE 4 7 ++ natLE 4 3 ++ natLE 4 0 ++ natLE 4 0 ++ sha256 [] ++ List.replicate 16328 0

theorem test_operations_end : running (slotSt 0 2 0x60 0).dev 0 0x60 = true ∧ running (slotSt 0 2 0x80 0).dev 0 0x80 = true ∧
    running (slotSt 63 2 0x10 0 [(K.slot_ARG 63 1, 16384)]).dev 63 0x10 = true := by decide

theorem test_image : ∃ x, imageSlot vendorSig image (arg (slotSt 63 2 0x10 0 [(K.slot_ARG 63 1, 16384)]).dev 63 7) = some x ∧
    fwAllowed (dv []) x = true :=
  ⟨{ present := true, valid := true, version := 7, svn := 3, digest := sha256 [] , ownerKey := List.replicate 32 0 }, by decide +kernel, by decide⟩

theorem test_no_image : imageSlot vendorSig [] 0 = none := by decide

/-- A coefficient body whose filters take the first tap alone. -/
def goodBody : List Byte :=
  let rows := ([8, 6, 4, 2] : List Nat).flatMap fun n => (List.replicate 64 ([0, 4] ++ List.replicate (2 * n - 2) (0 : Byte))).flatten
  [0x43, 0x53, 0x46, 0x31, 1, 0, 0, 0] ++ natLE 4 (crc32c rows) ++ [0, 0, 0, 0] ++ rows

theorem test_load : running (slotSt 63 2 0x70 0).dev 63 0x70 = true ∧ (slotRun (slotSt 63 2 0x70 0).dev 63).aux = [] ∧
    (slotRun (slotSt 63 2 0x70 0).dev 63).pos = 0 ∧ (slotSt 63 2 0x70 0).dev.nv.volatileOnly = false ∧ setBodyOk [] = false := by decide

/-- One phase of a table at the head of the bytes. -/
def phaseOk (taps : Nat) (l : List Byte) : Bool :=
  let c := (List.range taps).map fun j => bodyCoef l (2 * j)
  c.foldl (· + ·) 0 == 1024 && c.all fun v => decide (-2048 ≤ v) && decide (v ≤ 2047)

/-- The phases of a table, `n` of them. -/
def phasesOk (taps : Nat) : Nat → List Byte → Bool
  | 0, _ => true
  | n + 1, l => phaseOk taps l && phasesOk taps n (l.drop (2 * taps))

theorem phasesOk_eq (taps n : Nat) (l : List Byte) :
    phasesOk taps n l = (List.range n).all fun ph => phaseOk taps (l.drop (2 * taps * ph)) := by
  induction n generalizing l with
  | zero => rfl
  | succ n ih =>
    rw [List.range_succ_eq_map, List.all_cons, List.all_map, phasesOk, ih]
    have h (x : Nat) : 2 * taps + 2 * taps * x = 2 * taps * (x + 1) := by rw [Nat.mul_succ, Nat.add_comm]
    simp [Function.comp_def, List.drop_drop, h]

theorem tableOk_eq (b : List Byte) (base taps : Nat) : tableOk b base taps = phasesOk taps 64 (b.drop base) := by
  rw [phasesOk_eq]
  unfold tableOk phaseOk
  have h (ph j : Nat) : bodyCoef b (base + 2 * (taps * ph + j)) = bodyCoef ((b.drop base).drop (2 * taps * ph)) (2 * j) := by
    unfold bodyCoef leAt slice
    rw [List.drop_drop, List.drop_drop]
    congr 4
    rw [Nat.mul_add, Nat.mul_assoc]
  simp only [h]

theorem test_good_body : setBodyOk goodBody = true := by
  unfold setBodyOk
  rw [tableOk_eq, tableOk_eq, tableOk_eq, tableOk_eq]
  decide +kernel

/-! ## Faults and recoveries -/

theorem test_fault_free : (∀ b : Fin 39, rd (dv []) (0x1012 * 256 + b) ≠ 3 ∧ recov (dv []) b = none ∧
      limitReached (dv []) b 4 (sec 60) = false ∧ (regionOfBlock b).all (fun r => (recov (dv []) (0x100 + r)).isNone) = true) ∧
    (∀ r : Fin 4, rd (dv []) (K.x1011_REGION_STATE r) ≠ 4 ∧ recov (dv []) (0x100 + r) = none ∧
      limitReached (dv []) (0x100 + r) 3 (sec 600) = false) ∧
    recov (dv []) 0x200 = none ∧ limitReached (dv []) 0x200 2 (sec 3600) = false := by decide

/-- A block in which the recovery of one unit is in progress since the start of device time. -/
def recovSt (u : Nat) (committed : Bool) : State :=
  st { dv [] with flt := { recov := [(u, { startedAt := 0, committed := committed, cause := 1 })] } }

theorem test_recovering : recov (recovSt 0x26 false).dev 0x26 = some { startedAt := 0, committed := false, cause := 1 } ∧
    recov (recovSt 0x26 true).dev (38 : Fin 39) = some { startedAt := 0, committed := true, cause := 1 } ∧
    recov (recovSt 0x103 true).dev (0x100 + (3 : Fin 4)) = some { startedAt := 0, committed := true, cause := 1 } ∧
    0 + commitAfter (unitNum .chip) ≤ max (recovSt 0x200 false).dev.now 0 ∧
    recov (recovSt 0x200 false).dev (unitNum .chip) = some { startedAt := 0, committed := false, cause := 1 } := by decide

theorem test_budget : recov (recovSt 0x24 false).dev (36 : Fin 39) = some { startedAt := 0, committed := false, cause := 1 } ∧
    0 + us 250 ≤ max (recovSt 0x24 false).dev.now 0 ∧ regionOfBlock 36 = some 3 ∧ rd (recovSt 0x24 false).dev (K.x1011_REGION_STATE 3) ≠ 4 ∧
    recov (recovSt 0x24 false).dev 0x103 = none ∧ limitReached (arrive 0 (recovSt 0x24 false).dev) 0x103 3 (sec 600) = false := by decide

theorem test_replay : alive (arrive 0 (dv [])) = true ∧ (dv []).jr.entries = [] := by decide

/-- Master 7 has waited 64 cycles for the aperture, and with it master 6. -/
def waitedDev : Dev :=
  { dv [] with ctl := { held := [{ target := 8, master := 7, since := 0, req := .readStc host }, { target := 8, master := 6, since := 1, req := .readStc host }] } }

theorem test_matrix : (∃ h ∈ waitedDev.ctl.held, h.master = 7 ∧ h.target = 8 ∧ h.since + 64 ≤ ctlCycle waitedDev) ∧
    (let first := oldestOfEach waitedDev.ctl.held []
     first = waitedDev.ctl.held ∧ masterRank waitedDev 6 < masterRank waitedDev 7 ∧ waitedDev.ctl.preferred = []) ∧
    ({ waitedDev.ctl with preferred := [(8, 7)] } : Ctl).preferred.head? = some (8, 7) := by decide

theorem test_masters : (dv []).ctl.preferred.contains ((8 : Fin 9).val, (7 : Fin 8).val) = false ∧
    WellFormed (.masterResetInBurst 0 7 true 8 7 0xFFFFFF none) = true := by decide

/-! ## Clocks, references and time -/

/-- PLL 12 and the PHY of stack 1 locked; PLL 3 in search; PHY 1 down since time 0. -/
def pllSt : State := at_ [(K.x1401_PLL_STATE 12, 2), (K.x1401_PLL_STATE 2, 2), (K.x1401_PLL_STATE 3, 1), (K.x1012_MB_STATE 1, 1)]

theorem test_plls : rd pllSt.dev (K.x1401_PLL_STATE (12 : Fin 13)) = 2 ∧ rd pllSt.dev (K.x1401_PLL_STATE (3 : Fin 77)) = 1 ∧
    rd pllSt.dev (K.x1012_MB_STATE (1 : Fin 2)) = 1 ∧ rd pllSt.dev (K.x1401_PLL_STATE (1 + (1 : Fin 2).val)) = 2 ∧
    tabGet 0 pllSt.dev.clk.relockAt 2 + us 40 ≤ max pllSt.dev.now 0 := by decide

def rootSt (root xtal : Nat) : State := at_ [(K.x1400_ROOT_STATE, root), (K.x1400_XTAL_STATE, xtal)]

theorem test_root : rd (rootSt 2 0).dev K.x1400_ROOT_STATE = 2 ∧ rd (rootSt 2 0).dev K.x1400_XTAL_STATE = 0 ∧
    rd (rootSt 4 1).dev K.x1400_XTAL_STATE = 1 ∧ rd (rootSt 4 0).dev K.x1400_ROOT_STATE = 4 ∧ rd (rootSt 4 0).dev K.x1400_XTAL_STATE = 0 := by
  decide

def refSt (state : Nat) (clk : Clocks) : State :=
  st { dv [(K.x1410_REF_STATE, state), (K.x1410_REF_FRAME_RATE, 1)] with clk := clk }

theorem test_reference : refAccepts (refSt 0 {}).dev 6 = true ∧ rd (refSt 0 {}).dev K.x1410_REF_STATE = 0 ∧
    rd (refSt 3 {}).dev K.x1410_REF_STATE ≠ 0 ∧
    refAccepts (st { dv [(K.x1410_REF_CLK_SELECT, 1)] with clk := {} }).dev 6 = false := by decide

/-- A locked reference whose next pulse is due now. -/
def pulseSt : State := refSt 3 { lastPulse := some (sec 100 - ratePeriod 1) }

theorem test_pulse : rd pulseSt.dev K.x1410_REF_FRAME_RATE = 1 ∧ rd pulseSt.dev K.x1410_REF_STATE = 3 ∧
    max pulseSt.dev.now 0 = (sec 100 - ratePeriod 1) + refPeriod pulseSt.dev ∧ 0 < refPeriod pulseSt.dev ∧ pulseSt.dev.clk.extra = false ∧
    rd (refSt 2 {}).dev K.x1410_REF_STATE = 2 ∧ (refSt 2 {}).dev.clk.lastPulse = none ∧
    (refSt 2 {}).dev.clk.qualifySince + ms (rd (refSt 2 {}).dev K.x1410_QUALIFY_MS) ≤ max (refSt 2 {}).dev.now 0 ∧
    refPulsing (arrive 0 (refSt 2 { lastPulse := some (sec 100 - 1) }).dev) = true := by decide

/-- A generator that follows input 127, which is stable at its rate. -/
def followSt : State := at_ [(K.tg_LOCK_SOURCE 7, 0x17F), (K.ip_INPUT_STATE 127, 5), (K.ip_DETECTED_FORMAT 127, tgFormat (dv []) 7)]

theorem test_input_reference : let src := rd followSt.dev (K.tg_LOCK_SOURCE 7)
    0x100 ≤ src ∧ rd followSt.dev (K.ip_INPUT_STATE (src - 0x100)) = 5 ∧
    fmtRate (rd followSt.dev (K.ip_DETECTED_FORMAT (src - 0x100))) = fmtRate (tgFormat followSt.dev 7) ∧
    (inp followSt.dev (src - 0x100)).refSince + ms (rd followSt.dev K.x1410_QUALIFY_MS) ≤ max followSt.dev.now 0 ∧
    (-50000 : Int).natAbs ≤ 50000 ∧ (tg followSt.dev 7).inLocked = false := by decide

/-- A generator and the STC at the end of a slew, a stale anchor, a link that is up. -/
def timeSt : State :=
  st { dv [(K.tg_TG_STATE 7, 1), (K.x1460_STC_STATE, 2), (K.x1468_ANCHOR_STATE, 1), (K.x1468_ANCHOR_MAX_AGE_S, 1), (K.x3C00_LINK_STATE, 1)] with
    stcFp := sec 100 * 2 ^ 48, stcRun := true }

theorem test_time : rd timeSt.dev (K.tg_TG_STATE 7) = 1 ∧ (tg timeSt.dev 7).realign = none ∧ (tg timeSt.dev 7).extraLines = 0 ∧
    (tgRun timeSt.dev 7 - tgOffset timeSt.dev 7 - (tg timeSt.dev 7).freqPpb).natAbs ≤ 10 ∧
    rd timeSt.dev K.x1460_STC_STATE = 2 ∧ slewRateAt (arrive 0 timeSt.dev) (arrive 0 timeSt.dev).now = timeSt.dev.clk.slewTo ∧
    rd timeSt.dev K.x1468_ANCHOR_STATE = 1 ∧
    leAt (rdB timeSt.dev K.x1468_ANCHOR) 0 8 + rd timeSt.dev K.x1468_ANCHOR_MAX_AGE_S * 1000000000 < stcNs (arrive 0 timeSt.dev) ∧
    rd timeSt.dev K.x3C00_LINK_STATE = 1 ∧ timeSt.dev.clk.ptmAt ≤ (arrive 0 timeSt.dev).now := by decide

/-- An anchor of the host. -/
def anchor : List Byte := natLE 8 (sec 100) ++ natLE 8 1000000

theorem test_anchor : Accepted 0 mail K.x1468_ANCHOR (leNat anchor) anchor timeSt := accepted_of (by decide)

/-! ## Serial lanes and tie bundles -/

/-- Receiver 127 in a state with its four signal flags, beside `x`. -/
def rxSt (state flags : Nat) (x : Rx := {}) (l : Tab Nat := []) : State :=
  st { dv ([(K.rx_RX_STATE 127, state), (K.rx_SIGNAL 127, flags)] ++ l) with lanes := { rx := [(127, x)] } }

theorem test_detectors : looped (rxSt 3 0).dev 127 = false ∧ pllLocked (rxSt 3 0 {} [(kPllState 31 0, 2)]).dev 127 (famOf 0) = true ∧ sig (rxSt 3 0).dev 127 2 = !true ∧ sig (rxSt 3 0).dev 127 3 = !true ∧ sig (rxSt 3 12).dev 127 2 = !false ∧
    (sig (rxSt 3 4).dev 127 2 = true ∧ sig (rxSt 3 4).dev 127 0 = false ∧ (rx (rxSt 3 4).dev 127).losDue ≤ max (rxSt 3 4).dev.now 0) ∧
    (sig (rxSt 1 1).dev 127 2 = false ∧ sig (rxSt 1 1).dev 127 0 = true) ∧
    (sig (rxSt 5 8).dev 127 3 = true ∧ sig (rxSt 5 8).dev 127 1 = false ∧ rd (rxSt 5 8).dev (K.rx_RX_STATE 127) ≤ 5) ∧
    (sig (rxSt 1 2).dev 127 3 = false ∧ sig (rxSt 1 2).dev 127 1 = true) := by decide

/-- A receiver in SEARCH whose candidate was loaded 100 us ago. -/
def searchSt : State := rxSt 1 0 { candAt := sec 100 - us 100 } [(kPllState 31 0, 2)]

theorem test_search : pllLocked searchSt.dev 127 (famOf (rd searchSt.dev (K.rx_RX_RATE 127))) = true ∧ rd searchSt.dev (K.rx_RX_STATE 127) = 1 ∧ sig searchSt.dev 127 0 = false ∧ sig searchSt.dev 127 3 = false ∧
    max (rx searchSt.dev 127).lolClearAt (rx searchSt.dev 127).candAt + us 10 ≤ max searchSt.dev.now 0 ∧
    max searchSt.dev.now 0 ≤ (rx searchSt.dev 127).candAt + us 100 ∧ (rx searchSt.dev 127).candAt + us 100 ≤ max searchSt.dev.now 0 := by
  decide

theorem test_align : rd (rxSt 2 0 {} [(K.rx_RX_RATE 127, 0x20)]).dev (K.rx_RX_STATE 127) = 2 ∧
    (rx (rxSt 2 0 {}).dev 127).alignAt + us 500 ≤ max (rxSt 2 0).dev.now 0 ∧
    rd (rxSt 2 0 {} [(K.rx_RX_RATE 127, 0x20)]).dev (K.rx_RX_RATE 127) = 0x20 ∧
    rd (rxSt 2 0 {}).dev (K.rx_RX_RATE 127) ≠ 0x20 := by decide

theorem test_rx_restart : Accepted 0 host (K.rx_RX_RESTART 127) 1 [1] (rxSt 3 0) := accepted_of (by decide)

theorem test_references : tieOf (rxSt 2 0 { good := 2 }).dev 127 = none ∧ rd (rxSt 2 0 { good := 2 }).dev (K.rx_RX_STATE 127) = 2 ∧
    2 ≤ (rx (rxSt 2 0 { good := 2 }).dev 127).good ∧ tieOf (rxSt 3 0 { miss := 7 }).dev 127 = none ∧
    rd (rxSt 3 0 { miss := 7 }).dev (K.rx_RX_STATE 127) = 3 ∧ 7 ≤ (rx (rxSt 3 0 { miss := 7 }).dev 127).miss ∧
    rd (rxSt 3 0 {} [(K.rx_RX_RATE 127, 2)]).dev (K.rx_RX_RATE 127) = 2 := by decide

theorem test_lane_tests : Accepted 0 host (K.rx_RX_TEST 127) 1 [1] (rxSt 3 0) ∧ Accepted 0 host (K.rx_PRBS_CHECK 127) 1 [1] (rxSt 3 0) ∧
    Accepted 0 host (K.tx_TX_TEST 127) 1 [1] (rxSt 3 0) ∧ Accepted 0 host (K.tx_INJECT_ERROR 127) 1 [1] (rxSt 3 0) :=
  ⟨accepted_of (by decide), accepted_of (by decide), accepted_of (by decide), accepted_of (by decide)⟩

theorem test_checker : rd (rxSt 4 0 {} [(K.rx_PRBS_CHECK 127, 1)]).dev (K.rx_RX_STATE 127) = 4 ∧
    rd (rxSt 4 0 {} [(K.rx_PRBS_CHECK 127, 1)]).dev (K.rx_PRBS_CHECK 127) ≠ 0 ∧
    rd (rxSt 4 0 {} [(K.rx_PRBS_STATUS 127, 1)]).dev (K.rx_PRBS_STATUS 127) = 1 ∧
    prbsAgrees 1 ([true, false, false, true, false, true, true] ++ prbsBits 1 57 [true, true, false, true, false, false, true]) = true := by decide

/-- A transmitter that sends a pattern, whose next bit is inverted. -/
theorem test_inject : let s := at_ [(K.tx_TX_STATE 127, 3), (K.tx_TX_TEST 127, 1)]
    Accepted 0 host (K.tx_INJECT_ERROR 127) 1 [1] s ∧ rd s.dev (K.tx_TX_STATE 127) = 3 ∧ rd s.dev (K.tx_TX_TEST 127) = 1 ∧
    rd (at_ []).dev (K.tx_TX_STATE 127) ≠ 3 := ⟨accepted_of (by decide), by decide, by decide, by decide⟩

/-- Quad 31: its integer PLL relocks, its /1.001 PLL is LOCKED, and transmitter 127 waits for its interpolator or for its EAV. -/
def quadSt (realigned : Bool) (test : Bool := false) : State :=
  st { dv [(kPllState 31 0, 3), (kPllState 31 1, 2)] with
    lanes := { tx := [(127, { squelchAt := some (sec 99), realigned := realigned, wasTest := test })], quad := [(31, { intAt := some (sec 99) })] } }

theorem test_quads : rd (quadSt false).dev (kPllState 31 1) = 2 ∧ rd (quadSt false).dev (kPllState ((75 - 13) / 2) ((75 - 13) % 2)) = 3 ∧
    (tx (quadSt true).dev 127).squelchAt = some (sec 99) ∧ (tx (quadSt true).dev 127).realigned = true ∧
    tieOf (quadSt false).dev 127 = none ∧ (tx (quadSt false).dev 127).wasTest = false ∧
    (tx (quadSt false).dev 127).sqFamily = 0 ∧ (tx (quadSt false true).dev 127).wasTest = true ∧ txFamily (quadSt false true).dev 127 = 0 ∧
    txPllLocked (st { (quadSt true).dev with od := (kPllState 31 0, 2) :: (quadSt true).dev.od }).dev 127 = true := by decide

/-- Bundle 15 is enabled and its lane 4 may rejoin. -/
def tieSt : State :=
  st { dv [(K.tb_TIE_ENABLE 15, 1), (K.rx_RX_STATE 124, 3)] with
    lanes := { tie := [(15, { lost := [false, true, false, false, true], good := [0, 0, 0, 0, 1024]
                              deskewed := [true, true, true, true, true] })] } }

/-- A block of device 1, bundle 0, lane 4. -/
def tieBytes : List Byte := natBE 4 0x7A3C91E5 ++ natBE 4 (1 * 2 ^ 28 + 4 * 2 ^ 21) ++ List.replicate 8184 0

theorem tie_length : tieBytes.length = 8192 := rfl

/-- It locks lane 4 of bundle 15 as its third block, and is that lane's of a partner that may be any; a missing one is the third, too. -/
theorem test_tie_lane : (∃ x, tieParse tieBytes = some x ∧ tieExpected tieSt.dev 15 4 x = true) ∧
    (let d := (rxSt 2 0 { good := 2 }).dev
     rd d (K.rx_RX_STATE 127) = 2 ∧ 2 ≤ (rx d 127).good) ∧ 2 ≤ (rx (rxSt 3 0 { miss := 2 }).dev 127).miss ∧
    (([none] : List (Option (List Byte))).getD 0 none).bind tieParse = none := by
  refine ⟨?_, by decide, by decide, rfl⟩
  unfold tieParse
  rw [if_pos ⟨tie_length, by decide⟩]
  exact ⟨_, rfl, by decide⟩

theorem test_ties : (tie tieSt.dev 15).lost.length = 5 ∧ (tie tieSt.dev 15).deskewed.getD 4 false = true ∧ on tieSt.dev (K.tb_TIE_ENABLE 15) = true ∧ on (dv []) (K.tb_TIE_ENABLE 15) = false ∧
    (tie tieSt.dev 15).lost.getD 4 false = true ∧ 1024 ≤ (tie tieSt.dev 15).good.getD 4 0 ∧
    rd tieSt.dev (K.rx_RX_STATE (8 * (15 : Fin 16) + (4 : Fin 5))) = 3 := by decide

/-! ## Video: inputs, seams, compositions, evidence -/

def frm : RxFrame :=
  { samples := 0, fieldLines := 0, fields := 1, segments := false, periodPs := 40000000000, firstPixel := 0, payload := none, ltc := 0, vitc := 0,
    lines := [], crcFailed := [], links := [none], skewNs := 0, tieFormat := 0, tieStamp := 0, tieMap := [] }

/-- Input 127, enabled, with or without its signal; its store holds a frame that waits. -/
def inputSt (state : Nat) (x : Store) (cut : Bool) : State :=
  st { dv [(K.ip_IP_ENABLE 127, 1), (K.rx_RX_STATE 127, state), (K.ip_INPUT_STATE 127, 3), (K.x1C40_REDUCED, 2 ^ 14)] with
    video := { stores := [(127, x)], inp := [(127, { cut := cut })] } }

theorem test_publish : (store (inputSt 3 { pending := some { num := 4, damaged := [7] } } false).dev 127).pending =
    some { num := 4, damaged := [7] } := by decide

theorem test_input_frame : rxFrameOk frm = true ∧
    (let d := (inputSt 3 { prog := some (4, 5, 6) } false).dev
     on d (K.ip_IP_ENABLE 127) = true ∧ signalPresent d 127 = true ∧ blockDown d (blockOfPort 127) = false ∧ d.ctl.commits = [] ∧
       audioOn d = false ∧ (inp d 127).cut = false) ∧
    (let d := (inputSt 3 {} true).dev
     on d (K.ip_IP_ENABLE 127) = true ∧ signalPresent d 127 = true ∧ blockDown d (blockOfPort 127) = false ∧ (inp d 127).cut = true) := by
  decide

theorem test_input_loss : let d := (inputSt 1 { prog := some (4, 5, 6) } false).dev
    on d (K.ip_IP_ENABLE 127) = true ∧ signalPresent d 127 = false ∧ 2 ≤ (if (inp d 127).lostFrom = 0 then rd d (K.ip_INPUT_STATE 127) else (inp d 127).lostFrom) ∧ d.ctl.commits = [] ∧ audioOn d = false ∧
    [frm].all rxFrameOk = true := by decide

/-- A block without audio in which generator 7 serves nothing. -/
def seamSt : State := at_ [(K.x1C40_REDUCED, 2 ^ 14)]

theorem test_seam : let d := arrive 0 seamSt.dev
    (∀ n, n < 72 → compTg d n ≠ 7) ∧ (∀ p, p < 128 → outTg d p ≠ 7) ∧ convsOf d 7 = [] ∧ d.video.sets = [] ∧ d.video.stores = [] ∧
    d.ctl.commits = [] ∧ d.ctl.unsettled.contains 7 = false ∧ (tg d 7).realign = none ∧ audioOn d = false := by decide +kernel

theorem test_ll_restore : let d := (st { dv [(K.route_ROUTE_MODE 127, 1)] with
      video := { tg := [(0, { lockedSince := some (sec 99) })], route := [(127, { ll := false })] } }).dev
    rd d (K.route_ROUTE_MODE 127) = 1 ∧ (tg d (routeTg d 127)).lockedSince.any (fun a => decide (a + sec 1 ≤ max d.now 0)) = true := by decide

def compSt (n : Nat) (rep : Bool) : State :=
  st { dv [] with video := { comp := [(n, { job := some { stamp := 9, rep := rep }, lastOut := some { num := 1, map := [1, 2] }
                                            regions := [(3, { acting := true })] })] } }

theorem test_composition : (comp (compSt 63 false).dev 63).job = some { stamp := 9, rep := false } ∧
    (comp (compSt 63 true).dev 63).job = some { stamp := 9, rep := true } := by decide

theorem test_region_release : Accepted 0 host (K.sr_RELEASE 71) 0x8008 [8, 0x80] (compSt 71 false) := accepted_of (by decide)

/-- Chain 7: enabled, with room, at the time of a boundary; one with a manifest to sign; one with a sealed record to export. -/
def chainSt (x : Chain) (l : Tab Nat := []) : State :=
  st { dv l with stcFp := sec 100 * 2 ^ 48, ev := { chains := [(7, x)] } }

theorem test_seal : ∃ b, lastBoundaryAt (arrive 0 (chainSt { enabled := true, reserved := true }).dev) 7 = some b ∧ 0 < b ∧
    (chain (chainSt { enabled := true, reserved := true }).dev 7).boundary = 0 ∧
    (chain (chainSt { enabled := true, reserved := true }).dev 7).enabled = true ∧
    (chain (chainSt { enabled := true, reserved := true }).dev 7).reserved = true ∧ (chain (chainSt {}).dev 7).enabled = false :=
  ⟨_, rfl, by decide, by decide, by decide, by decide, by decide⟩

theorem test_signed : (chain (chainSt { sealing := [{ seq := 4 }] }).dev 7).sealing = { seq := 4 } :: [] := by decide

theorem test_seal_op : let d := (slotSt 63 2 0x20 0 [(K.slot_ARG 63 0, 0x80)]).dev
    running d 63 0x20 = true ∧ (slotRun d 63).abortAsked = false ∧ (slotRun d 63).pos = 0 ∧ sealsOwed d 63 = 0 ∧
    ∀ e, e < 8 → bitAt (arg d 63 6) e = true → (chain d e).enabled = false := by decide

/-- An export of chain 7 to queue 5, with what the queue and the chain hold. -/
def exportSt (x : Chain) (q : Queue) (r : SlotRun) : State :=
  let s := slotSt 63 2 0x21 0 [(K.slot_ARG 63 0, 7), (K.slot_ARG 63 1, 5)] r
  st { s.dev with ev := { chains := [(7, x)] }, host := { queues := [(5, q)] }, ctl := { s.dev.ctl with paid := [0, 0, 1, 0, 0, 0] } }

/-- An evidence buffer of 4,096 bytes; a chain with one sealed record. -/
def evBuf : List Byte := natLE 2 0x0601 ++ List.replicate 14 0 ++ natLE 8 0x10000 ++ natLE 4 4096 ++ List.replicate 36 0
def sealed : Chain := { records := [{ seq := 11, bytes := List.replicate 64 0, sealed := some 4 }], manifests := [{ seq := 4, bytes := [1] }] }

theorem test_export_ends : (exportSt {} {} { abortAsked := true }).dev.ctl.slots = [(63, { op := 0x21, abortAsked := true })] ∧
    running (exportSt {} {} {}).dev 63 0x21 = true ∧ (queue (exportSt {} {} {}).dev 5).descs = [] ∧ (queue (exportSt {} {} {}).dev 5).st ≠ 1 ∧
    arg (exportSt {} {} {}).dev 63 7 = 5 ∧ (queue (exportSt {} { st := 1 } {}).dev 5).st = 1 ∧
    nextExport (chain (exportSt {} { st := 1 } {}).dev 7) = none := by decide

theorem test_export : let d := (exportSt sealed { typ := 6, st := 1, descs := [{ bytes := evBuf }] } { aux := [1] }).dev
    ∃ r b, arg d 63 6 = 7 ∧ (queue d 5).st = 1 ∧ nextExport (chain d 7) = some r ∧ (slotRun d 63).pos = 0 ∧ evBuffer (queue d 5) = some b ∧
      b.moved + ((recordUnits (chain d 7) r true false).flatten).length < dLength b.bytes ∧
      ((recordUnits (chain d 7) r true false).flatten).length ≤ d.ctl.paid.getD 2 0 * 4096 :=
  ⟨_, _, by decide, by decide, rfl, by decide, rfl, by decide, by decide⟩

/-! ## Audio -/

def packet (ok : Bool) : AudioPacket :=
  { group := 7, eccOk := ok, locked48 := true, sampleTime := 5, samples := [1, -2, 3, -4], invalid := [false, false, true, false] }

/-- Input 127 delivers audio at 3 Gb/s; its group 7 is as given. -/
def groupSt (x : AudioUnit) (l : Tab Nat := []) : State :=
  st { dv ([(K.rx_RX_STATE 127, 3), (K.rx_RX_RATE 127, 3), (K.ea_GROUPS_PRESENT 127, 0x80)] ++ l) with
    stcFp := sec 100 * 2 ^ 48, aud := { unit := [(groupUnit 127 7, x)] } }

theorem test_packet : let d := (groupSt { present := true }).dev
    audioOn d = true ∧ audioSignal d 127 = true ∧ isMember d 127 = false ∧ carriesGroup d 127 7 = true ∧
    (aunit d (groupUnit 127 7)).present = true ∧ (aunit d (groupUnit 127 7)).cross = none ∧ (aunit d (groupUnit 127 7)).fade = none ∧
    (∀ c, c < 4 → tabGet [] d.aud.feed (groupCode 127 7 + c) = []) ∧ (packet true).samples.length = 4 ∧ (packet false).eccOk = false := by
  decide

theorem test_group_timeout : let d := (groupSt { present := true }).dev
    (aunit d (groupUnit 127 7)).present = true ∧ (aunit d (groupUnit 127 7)).lastAt + ms 2 ≤ max d.now 0 := by decide

theorem test_slip : let d := (groupSt {} [(K.route_TG_SELECT 127, 7), (K.eo_ACTIVE_MASK 127, 1)]).dev
    routeTg d 127 ≠ rd d K.x3400_AUDIO_TG ∧ rd d (K.eo_ACTIVE_MASK 127) ≠ 0 := by decide

/-- Receiver 15 delivers at 48 kHz. -/
def aesSt (x : AudioUnit) (state reserve : Nat) : State :=
  st { dv [(K.ar_AR_STATE 15, state), (K.ar_SRC_RESERVE 15, reserve), (K.ar_RATE_HZ 15, 48000)] with
    stcFp := sec 100 * 2 ^ 48, aud := { unit := [(0x100F, x)] } }

theorem test_synchronism : (0x101E : Fin 65536).val = 0x1000 + 2 * (15 : Fin 16) ∧ audioOn (aesSt {} 3 1).dev = true ∧
    rd (aesSt {} 3 1).dev (K.ar_AR_STATE 15) = 3 ∧ on (aesSt {} 3 1).dev (K.ar_SRC_RESERVE 15) = true ∧
    on (aesSt {} 3 0).dev (K.ar_SRC_RESERVE 15) = false ∧ (aunit (aesSt { conv := true } 3 1).dev 0x100F).conv = true ∧
    rd (aesSt {} 3 1).dev (K.ar_RATE_HZ 15) = planeRate (rd (aesSt {} 3 1).dev (K.ar_PLANE 15)) ∧
    (aunit (aesSt { conv := true } 3 1).dev 0x100F).asyncAt + sec 1 ≤ max (aesSt {} 3 1).dev.now 0 ∧
    rd (aesSt { muted := true } 4 0).dev (K.ar_AR_STATE 15) = 4 ∧ (aunit (aesSt { muted := true } 4 0).dev 0x100F).muted = true := by decide

def aesFrm (good : Bool) : AesFrame :=
  { rateHz := 48000, good := good, blockStart := true, parityOk := [true, true], samples := [1, 2], v := [false, false], u := [false, false]
    c := [false, true] }

theorem test_aes : WellFormed (.aes3FrameReceived 0 15 (aesFrm true)) = true ∧ WellFormed (.aes3FrameReceived 0 15 (aesFrm false)) = true ∧
    rd (aesSt {} 1 1).dev (K.ar_AR_STATE 15) = 1 ∧ rd (aesSt {} 2 1).dev (K.ar_AR_STATE 15) = 2 ∧ 192000 ∈ aesRates ∧
    (aesSt {} 1 1).dev.ctl.commits = [] := by decide

def aesTxSt (phase : Nat) : State := st { dv [(K.at_AT_ENABLE 15, 1)] with aud := { tx := [(15, { phase := phase })] } }

theorem test_aes_tx : (aesTx (aesTxSt 0).dev 15).phase = 0 ∧ on (aesTxSt 0).dev (K.at_AT_ENABLE 15) = true ∧ (aesTx (aesTxSt 3).dev 15).phase = 3 := by
  decide

/-- Capture stream 63 without a buffer, at the end of a block that a seam gave; playback stream 31 near its end. -/
def streamSt (lost : Bool) : State :=
  st { dv [(K.cap_CAP_STATE 63, 1), (K.cap_CAP_ENABLE 63, 1), (K.cap_BLOCK_TG 63, 7), (K.pb_PB_STATE 31, 2)] with
    stcFp := sec 1 * 2 ^ 48
    aud := { cap := [(63, { next := 1000, ends := [2000], lost := lost })], play := [(31, { until_ := some 48000 })] } }

theorem test_capture : let d := arrive 0 (streamSt true).dev
    rd d (K.cap_CAP_STATE 63) ≠ 0 ∧ capEnd d 63 = some 2000 ∧ (capSt d 63).next ≠ 0 ∧
    2000 + dMin (capSt d 63).plane ≤ instNear (capSt d 63).plane (stcNs d) ∧ on d (K.cap_CAP_ENABLE 63) = true ∧
    rd d (K.cap_PLANE 63) = (capSt d 63).plane ∧ captureBufferOf d (rd d (K.cap_QUEUE 63)) = none := by decide

theorem test_playback_gap : let d := (streamSt false).dev
    rd d (K.pb_PB_STATE 31) = 2 ∧ (playSt d 31).until_ = some 48000 ∧
    48000 < instNear (rd d (K.pb_PLANE 31)) (stcNs (arrive 0 d)) + 2 * fadeLen (rd d (K.pb_PLANE 31)) := by decide

theorem test_audio_clock : rd (at_ [(K.x3400_AUDIO_CLOCK_STATE, 2)]).dev K.x3400_AUDIO_CLOCK_STATE = 2 ∧
    audioPpb (arrive 0 (at_ [(K.x3400_AUDIO_CLOCK_STATE, 2)]).dev) = (at_ [(K.x3400_AUDIO_CLOCK_STATE, 2)]).dev.aud.ppbTo := by decide

/-! ## Frame memory and windows -/

/-- Logical page `l` of the highest number lies on physical page 6,000. -/
def pageSt (e : Pte) (f : FrameMem → FrameMem) (l : Tab Nat := []) : State :=
  st { dv l with fm := f { pt := [(524287, { e with ppn := 6000 })] } }

def memAcc (write : Bool) : MemAccess :=
  { unit := { kind := 2, number := 9 }, domain := 0, lpn := 524287, granule := 1023, write := write, exportRead := false, line := 0
    first := { flagged := 0, errors := 0, dieCorrected := false }, refetch := { flagged := 0, errors := 0, dieCorrected := false }
    tablePoisoned := false }

theorem test_access : (let d := arrive 0 (pageSt { v := true, okind := 2, onum := 9 } id).dev
     faultCause d (memAcc true) = 0 ∧ rd d (K.x1012_MB_STATE (stackOf d (6000 * 1024 + 1023))) ≠ 1 ∧ d.fm.poison = []) ∧
    (let d := arrive 0 (pageSt {} id).dev
     faultCause d (memAcc true) ≠ 0 ∧ faultCause d (memAcc false) ≠ 0 ∧ d.fm.faultCycle = none) := by decide

def freedSt : State := pageSt { v := true } fun m => { m with freeing := [(524287, (127, 4))] }

theorem test_free : tabFind freedSt.dev.fm.freeing 524287 = some (127, 4) ∧ (pte freedSt.dev 524287).v = true ∧
    freedSt.dev.video.holds = [] ∧ freedSt.dev.host.queues = [] := by decide

theorem test_page_query : Accepted 0 host K.x3808_QUERY 524287 (natLE 4 524287) (pageSt {} id) := accepted_of (by decide)

def patrolSt : State :=
  let s := pageSt {} (fun m => { m with patrolPos := 9 }) [(K.x3810_PATROL_ENABLE, 1)]
  st { s.dev with ctl := { paid := [0, 0, 0, 0, 1, 0] } }

theorem test_patrol : on patrolSt.dev K.x3810_PATROL_ENABLE = true ∧ 9 < rd patrolSt.dev K.x3800_PAGES_TOTAL ∧
    patrolNext patrolSt.dev ((retiredList patrolSt.dev).length + patrolSt.dev.fm.copies.length) patrolSt.dev.fm.patrolPos = 9 ∧
    1 ≤ patrolSt.dev.ctl.paid.getD 4 0 ∧ patrolSt.dev.fm.suspects = [] ∧ retiredList patrolSt.dev = [] ∧
    rd patrolSt.dev K.x3810_PASS_PAGES + 1 < rd patrolSt.dev K.x3800_PAGES_TOTAL := by
  decide

/-- Page 6,000 moves to spare 4,500; its bytes lie in memory. -/
def copySt : State :=
  { pageSt { v := true } (fun m => { m with copies := [(6000, { lpn := 524287, spare := 4500 })] }) with
    mem := [(6000 * 65536 + 3, 7), (6000 * 65536 + 65535, 9)] }

theorem test_copy : tabFind copySt.dev.fm.copies 6000 = some { lpn := 524287, spare := 4500 } ∧ memWf copySt.mem = true := by decide

/-- Window 63 has two pages, on physical pages 6,000 and 7,000. -/
def windowSt (l : Tab Nat) : State :=
  { st { dv ([(K.fn_FN_STATE 63, 1), (K.x3C00_LINK_STATE, 1)] ++ l) with
      fm := { windows := [(63, [100, 101])], pt := [(100, { v := true, r := true, w := true, dom := 63, ppn := 6000 }),
        (101, { v := true, r := true, w := true, dom := 63, ppn := 7000 })], nextPpn := 8000, nextLpn := 102 } } with
    mem := [(7000 * 65536 + 65535, 9)] }

theorem test_window : let d := (windowSt []).dev
    rd d (K.fn_FN_STATE 63) = 1 ∧ rd d K.x3C00_LINK_STATE ≠ 0 ∧ 2 * 65536 - 1 < 2 ^ 35 ∧ (2 * 65536 - 1) % 4096 + 1 ≤ 4096 ∧
    windowAddr d 63 (2 * 65536 - 1) = some (7000 * 65536 + 65535) ∧
    (granulesOf (7000 * 65536 + 65535) 1).any (isPoisoned d ((window d 63).getD 1 0)) = false ∧ windowAddr d 63 (2 * 65536) = none ∧
    memWf (windowSt []).mem = true := by decide

theorem test_grow : let d := (windowSt [(K.dom_WINDOW_PAGES 63, 3)]).dev
    (window d 63).length < rd d (K.dom_WINDOW_PAGES 63) ∧ freshPpns d 1 ≠ [] := by decide

/-! ## Queues -/

/-- A descriptor of 64 bytes: opcode, host address, length, and what follows. -/
def descBytes (op addr len : Nat) (rest : List Byte) : List Byte :=
  natLE 2 op ++ List.replicate 6 0 ++ natLE 8 9 ++ natLE 8 addr ++ natLE 4 len ++ padTo 36 rest

/-- Queue 65,535 of function 63, with link and function up. -/
def queueSt (c : Queue) (l : Tab Nat := []) : State :=
  st { dv ([(K.fn_FN_STATE 63, 1), (K.x3C00_LINK_STATE, 1), (K.fn_QUEUE_COUNT 0, 0), (K.fn_QUEUE_FIRST 63, 65535), (K.fn_QUEUE_COUNT 63, 1)] ++ l)
    with host := { queues := [(65535, c)] } }

def descOf (b : List Byte) : Desc := { queue := 65535, ring := 0, bytes := b }

/-- A queue of a type whose next descriptor is the first of its ring. -/
def nextQ (typ target : Nat) : Queue := { typ := typ, sqBase := 4096, cqBase := 8192, target := target, guar := 100, st := 1, tail := 1 }

theorem test_starts : let d := arrive 0 (queueSt (nextQ 3 0)).dev
    Fresh (descOf (descBytes 0x0301 0 64 [])) d ∧ opcodeFor (queue d 65535) 0x0301 = true ∧ opcodeFor (queue d 65535) 0x0501 = false :=
  ⟨⟨by decide, by decide⟩, by decide, by decide⟩

theorem test_start_forms : WellFormed (.nop 0 (descOf (descBytes 1 0 0 []))) = true ∧ headerOk (descBytes 1 0 0 []) = true ∧
    WellFormed (.fenceHost 0 (descOf (descBytes 0x11 0 0 []))) = true ∧ isFence (descBytes 0x11 0 0 []) = true ∧
    WellFormed (.captureBuffer 0 (descOf (descBytes 0x0301 0 64 []))) = true ∧
    WellFormed (.eventBuffer 0 (descOf (descBytes 0x0501 0 64 []))) = true ∧ dLength (descBytes 0x0501 0 64 []) = 64 ∧
    (descOf (descBytes 0x0501 0 64 [])).bytes.length = 64 := by decide

theorem test_cancelled : startInfo (arrive 0 (queueSt { nextQ 3 0 with st := 3 }).dev) 65535 0 = some { cancelled := true } := by decide

/-- A store with a frame that an export reads. -/
def exportQSt : State :=
  let s := queueSt (nextQ 1 (0x01000000 + 127))
  st { s.dev with video := { stores := [(127, { frames := [{ num := 4, stamp := 77, format := 0x10000000, pic := [[⟨1, 2, 3, 4⟩]] }] })] } }

theorem test_export_frame : let d := arrive 0 exportQSt.dev
    let b := descBytes 0x0101 0x10000 0x10000000 []
    Fresh (descOf b) d ∧ 64 ≤ shareCredit d 65535 + paidBytes d 65535 ∧ opcodeFor (queue d 65535) (dOpcode b) = true ∧ b.length = 64 ∧ headerOk b = true ∧
    (b.drop 28).all (· == 0) = true ∧ ∃ f, (store d (exportStore (queue d 65535).target)).frames.getLast? = some f ∧ 0 < (frameSize f).2 ∧
      (let l := exportPlaced b f (storePacking d (exportStore (queue d 65535).target)) (frameSize f).2 (lineBytes (frameSize f).1 (storePacking d (exportStore (queue d 65535).target)))
       placedLength l ≤ 64 ∧ (((l.getLast?).map fun x => x.1 + x.2.length - dAddr b).getD 0) ≤ dLength b) :=
  ⟨⟨by decide, by decide⟩, by decide, by decide, by decide, by decide, by decide, _, rfl, by decide, by decide⟩

/-- Queue 65,535 on the window of function 63. -/
def windowQSt (typ : Nat) : State :=
  { windowSt [(K.fn_QUEUE_COUNT 0, 0), (K.fn_QUEUE_FIRST 63, 65535), (K.fn_QUEUE_COUNT 63, 1)] with
    dev := { (windowSt [(K.fn_QUEUE_COUNT 0, 0), (K.fn_QUEUE_FIRST 63, 65535), (K.fn_QUEUE_COUNT 63, 1)]).dev with
      host := { queues := [(65535, nextQ typ 0x04000000)] } } }

/-- Sixteen bytes on either side of the boundary of the two pages. -/
def toHostBytes : List Byte := descBytes 0x0102 0x10000 16 (List.replicate 4 0 ++ natLE 8 65528)
def toWindowBytes : List Byte := descBytes 0x0202 0x10000 16 (List.replicate 4 0 ++ natLE 8 65520)

theorem test_window_to_host : let d := arrive 0 (windowQSt 1).dev
    let b := toHostBytes
    Fresh (descOf b) d ∧ opcodeFor (queue d 65535) (dOpcode b) = true ∧ b.length = 64 ∧ windowDescOk b = true ∧
    16 ≤ shareCredit d 65535 + paidBytes d 65535 ∧ spanLength (windowSpan d ((qFn d 65535).getD 0) 2 65528 16) = 16 ∧ spanPoison d 0 (windowSpan d ((qFn d 65535).getD 0) 2 65528 16) = none :=
  ⟨⟨by decide, by decide⟩, by decide, by decide, by decide, by decide, by decide⟩

theorem test_host_to_window : let d := arrive 0 (windowQSt 2).dev
    let b := toWindowBytes
    Fresh (descOf b) d ∧ opcodeFor (queue d 65535) (dOpcode b) = true ∧ b.length = 64 ∧ windowDescOk b = true ∧
    windowAddr d ((qFn d 65535).getD 0) (leAt b 32 8) = some (6000 * 65536 + 65520) ∧ leAt b 32 8 % 65536 + dLength b ≤ 65536 ∧
    16 ≤ shareCredit d 65535 + paidBytes d 65535 :=
  ⟨⟨by decide, by decide⟩, by decide, by decide, by decide, by decide, by decide, by decide⟩

/-- A plane frame of four bytes open for its second part. -/
def planeQSt : State :=
  queueSt { nextQ 2 0x05000000 with plane := some { slotBytes := 65536, open_ := some { num := 1, w := 1, h := 1, data := [1, 2, 0, 0], got := 2 } } }

def planeBytes : List Byte := descBytes 0x0201 0 2 (List.replicate 4 0 ++ natLE 4 2)

theorem test_import : let d := arrive 0 planeQSt.dev
    Fresh (descOf planeBytes) d ∧ opcodeFor (queue d 65535) (dOpcode planeBytes) = true ∧ planeBytes.length = 64 ∧ headerOk planeBytes = true ∧
    leAt planeBytes 28 1 = 0 ∧ planePartOk planeBytes 4 = true ∧ (queue d 65535).plane ≠ none ∧
    2 ≤ shareCredit d 65535 + paidBytes d 65535 :=
  ⟨⟨by decide, by decide⟩, by decide, by decide, by decide, by decide, by decide, by decide, by decide⟩

/-- A playback stream of one channel and a block of one sample for time 2^40. -/
def playQSt : State := queueSt (nextQ 4 0) [(K.pb_PB_ENABLE 31, 1), (K.pb_QUEUE 31, 65535), (K.pb_CHANNELS 31, 1)]
def playData : List Byte := natLE 8 (2 ^ 40) ++ [0, 0, 0, 0] ++ natLE 2 1 ++ [1, 0] ++ List.replicate 16 0 ++ [1, 2, 3]
def playBytes : List Byte := descBytes 0x0401 0 35 []

theorem test_playback : let d := arrive 0 playQSt.dev
    Fresh (descOf playBytes) d ∧ opcodeFor (queue d 65535) (dOpcode playBytes) = true ∧ playBytes.length = 64 ∧ headerOk playBytes = true ∧
    (playBytes.drop 28).all (· == 0) = true ∧ playStreamOf d 65535 = some 31 ∧ audioBlockOk (playData.take 35) = true ∧
    leAt playData 14 1 = rd d (K.pb_CHANNELS 31) ∧ bitAt (leAt playData 20 4) 1 = (rd d (K.pb_PLANE 31) == 1) ∧
    stcNs d ≤ leAt playData 0 8 ∧ tabGet [] d.aud.feed (playCode 31 0) = [] ∧
    35 ≤ shareCredit d 65535 + paidBytes d 65535 :=
  ⟨⟨by decide, by decide⟩, by decide, by decide, by decide, by decide, by decide, by decide, by decide, by decide, by decide, by decide, by decide⟩

/-- A queue with a descriptor that has ended, one whose completion is written, one that owes a message. -/
def doneQ (written : Bool) : Queue := { nextQ 3 0 with next := 1, descs := [{ bytes := descBytes 1 0 0 [], status := some 0, written := written }] }

theorem test_completion : let d := arrive 0 (queueSt (doneQ false)).dev
    (queue d 65535).st ≠ 0 ∧ rd d K.x3C00_LINK_STATE ≠ 0 ∧ rd d (K.fn_FN_STATE 63) ≠ 2 ∧
    ∃ x, pickCompletion d 65535 [] (queue d 65535).descs = some x ∧ cqFree (queue d 65535) ≠ 0 ∧ dIrq x.bytes = false :=
  ⟨by decide, by decide, by decide, _, rfl, by decide, by decide⟩

theorem test_retire : ∃ x, (queue (queueSt (doneQ true)).dev 65535).descs.find? (·.written) = some x := ⟨_, rfl⟩

theorem test_holdoff : let c : Queue := { nextQ 3 0 with irqUntil := some (sec 100), irqOwed := true, vector := 5 }
    (queue (queueSt c).dev 65535).irqUntil = some (sec 100) ∧ (queue (queueSt c).dev 65535).irqOwed = true ∧
    (queue (queueSt { c with irqOwed := false }).dev 65535).irqOwed = false ∧ c.vector ≠ 0xFFFF := by decide

theorem test_event_buffer : let c : Queue := { nextQ 5 0 with bufFirst := some (sec 99), descs := [{ bytes := descBytes 0x0501 0 64 [], moved := 64 }] }
    (queue (queueSt c).dev 65535).bufFirst = some (sec 99) ∧ sec 99 + ms 1 ≤ max (queueSt c).dev.now 0 := by decide

/-- A doorbell that moves both indices to 63. -/
def bell : List Byte := natLE 8 (63 + 2 ^ 31 + 63 * 2 ^ 32 + 2 ^ 63)

theorem test_doorbell : let d := (queueSt (nextQ 3 0)).dev
    rd d (K.fn_FN_STATE 63) ≠ 0 ∧ qFn d (65535 : Fin 65536) = some 63 ∧ bell.length = 8 ∧ (queue d (65535 : Fin 65536)).st = 1 ∧
    bitAt (leNat bell) 31 = true ∧ bitAt (leNat bell) 63 = true ∧ fld (leNat bell) 0 16 < 2 ^ (queue d 65535).sqLog2 ∧
    fld (leNat bell) 32 16 < 2 ^ (queue d 65535).cqLog2 := by decide

/-- Function 63 has selected its queue. -/
def selectedSt (c : Queue) : State :=
  let s := queueSt c
  st { s.dev with ctl := { qsel := [(63, 65535)] } }

def vf63 : Access := { path := .mailbox, req := .pcie 63 }

theorem test_queue_control : qsel (selectedSt (nextQ 3 0)).dev 63 = 65535 ∧
    Accepted 0 vf63 K.x3C01_Q_ENABLE 1 [1] (selectedSt { nextQ 3 0 with st := 0 }) ∧
    Accepted 0 vf63 K.x3C01_Q_ENABLE 0 [0] (selectedSt (nextQ 3 0)) ∧
    Accepted 0 vf63 K.x3C01_RESUME 1 [1] (selectedSt { doneQ false with st := 2 }) ∧
    Accepted 0 vf63 K.x3C01_RESUME 2 [2] (selectedSt { doneQ false with st := 2 }) ∧
    (doneQ false).descs.find? (fun x => x.ring == (doneQ false).pause % 65536) ≠ none :=
  ⟨by decide, accepted_of (by decide), accepted_of (by decide), accepted_of (by decide), accepted_of (by decide), by decide⟩

theorem test_drained : drained (queue (queueSt { nextQ 3 0 with st := 3, tail := 0 }).dev (65535 : Fin 65536)) = true := by decide

/-! ## Functions and link, power, persist path -/

theorem test_functions : rd (at_ [(K.fn_FN_STATE 63, 1)]).dev (K.fn_FN_STATE (63 : Fin 64)) ≠ 0 ∧
    rd (at_ [(K.fn_FN_STATE 63, 2)]).dev (K.fn_FN_STATE (63 : Fin 64)) = 2 ∧
    (slotsOf (at_ [(K.fn_FN_STATE 63, 2)]).dev 63).any (slotBusy (at_ [(K.fn_FN_STATE 63, 2)]).dev) = false ∧
    rd (dv []) K.x3C00_NUM_VFS = 0 ∧ rd (dv []) (K.fn_FN_STATE (63 : Fin 64)) = 0 := by decide

theorem test_link : rd (queueSt (nextQ 3 0)).dev K.x3C00_LINK_STATE ≠ 0 ∧ WellFormed (.linkUp 0 16 7) = true ∧ booted (dv []) = true ∧
    reduced (dv []) 4 = false ∧ (dv []).boot.started = true ∧ (List.replicate 32 (0 : Byte)).length = 32 := by decide

/-- PERST# is high or low, under a scope. -/
def perstSt (scope : Nat) (low : Bool) : State := st { dv [] with boot := { started := true, scope := scope, perst := low }, nv := { bootCfg := [0, 0, 1, 1, 0] } }

theorem test_perst : (perstSt 1 false).dev.boot.scope ≠ 0 ∧ (perstSt 1 false).dev.boot.perst = false ∧ alive (arrive 0 (perstSt 1 false).dev) = true ∧
    (perstSt 0 false).dev.boot.scope = 0 ∧ (perstSt 1 true).dev.boot.perst = true := by decide

def mountedSt (p : Power) (l : Tab Nat := []) : State := st { dv ([(K.x1A00_NV_STATE, 2)] ++ l) with power := p }

theorem test_power : rd (mountedSt {}).dev K.x1A00_NV_STATE = 2 ∧ ¬rd (dv []) K.x1A00_NV_STATE = 2 ∧ (mountedSt {}).dev.power.flush = none ∧
    (mountedSt { flush := some (5, 8192, 0) }).dev.power.flush = some (5, 8192, 0) ∧
    (mountedSt { psafe := true }).dev.power.psafe = true ∧ (mountedSt { psafe := true }).dev.boot.resetN = false ∧
    rd (mountedSt {}).dev K.x1C40_BOOT_STEP ≠ 0xFE ∧ rd (mountedSt {}).dev K.x1C40_BOOT_STEP ≠ 1 ∧ (mountedSt {}).dev.boot.started = true ∧
    alive (arrive 0 (mountedSt {}).dev) = true := by decide

/-- The persist path with an item, waiting or in the buffer. -/
def pathSt (inBuf : Bool) : State :=
  st { dv [(K.x1640_WINDOW_KIB, 248), (K.x1640_HOLDUP_MODE, 1)] with
    nv := { buf := [{ id := 4, recd := { key := 0x1600, seq := 3, payload := [1, 2] }, cost := 512, inBuf := inBuf }], toCopy := [(true, {})]
            rings := [(3, { pend := List.range 250, used := [{ place := 250 }, { place := 251 }] })] } }

theorem test_samples : (pathSt true).dev.power.sampleAt + us 100 ≤ max (pathSt true).dev.now 0 ∧
    (pathSt true).dev.power.reserveAt + ms 1 ≤ max (pathSt true).dev.now 0 ∧ (pathSt true).dev.ctl.commits = [] ∧
    (∀ slot : Fin 64, running (pathSt true).dev slot 0x70 = false) ∧
    windowFor (reserve (pathSt true).dev).1 (reserve (pathSt true).dev).2 ≤ rd (pathSt true).dev K.x1640_WINDOW_KIB := by decide

theorem test_admit : ∃ x, firstWaiting (pathSt false).dev.nv.buf = some x ∧ bufferTakes (pathSt false).dev (isTables x.recd.key) x.cost = true :=
  ⟨_, rfl, by decide⟩

theorem test_path : ∃ x, (pathSt true).dev.nv.buf = [x] ∧ x.inBuf = true ∧ x.slotRing = none ∧ (pathSt true).dev.nv.toCopy ≠ [] ∧
    (ring (pathSt true).dev (3 : Fin 4)).pend ≠ [] :=
  ⟨_, rfl, by decide, by decide, by decide, by decide⟩

theorem test_compaction : erasedAhead (pathSt true).dev (3 : Fin 4) < (compactBelow 3).2 ∧
    (ring (pathSt true).dev (3 : Fin 4)).used = [{ place := 250 }, { place := 251 }] ∧ (ring (pathSt true).dev (3 : Fin 4)).bad.contains 250 = false := by
  decide

theorem test_compaction_op : let d := (slotSt 63 2 0x30 0 [(K.slot_ARG 63 0, 15), (K.slot_ARG 63 1, 256)]).dev
    running d 63 0x30 = true ∧ (slotRun d 63).abortAsked = false ∧ ∀ r ∈ opRings d 63, arg d 63 7 ≤ erasedAhead d r := by decide

/-! ## Thermal management and start-up -/

def readings (v : Int) : List (Option Int) := List.replicate 36 (some v)

/-- A block that is WARM since four samples, with the request in force when `was` is not 0. -/
def thermSt (was step : Nat) (x : Thermal) : State :=
  st { dv [(K.x1602_THERMAL_LEVEL, was), (K.x1602_THROTTLE_FLAG, if was = 0 then 0 else 1), (K.x1602_SHED_STEP, step)] with therm := x }

/-- Every sensor has read above T_WARN four times. -/
def warming : Thermal := { dwell := [List.replicate 36 (4, 0)] }

theorem test_sample : WellFormed (.thermalSample 0 (readings 240)) = true ∧ sampleDue (arrive 0 (thermSt 1 0 {}).dev) = true ∧
    regionBlind (readings 240) = false := by decide

def levelNext (s : State) (r : List (Option Int)) : Nat :=
  levelOf ((List.range 5).map fun i => enteredNext (arrive 0 s.dev) (runsNext (arrive 0 s.dev) r i) i) (regionBlind r)

theorem test_sample_levels :
    levelNext (thermSt 0 0 warming) (readings 1600) = 1 ∧ levelNext (thermSt 1 0 {}) (readings 240) = 0 := by decide

theorem test_enforcement : on (thermSt 2 0 {}).dev K.x1602_THROTTLE_FLAG = true ∧ 2 ≤ rd (thermSt 2 0 {}).dev K.x1602_THERMAL_LEVEL ∧
    (thermSt 2 0 {}).dev.therm.graceEnd ≤ max (thermSt 2 0 {}).dev.now 0 ∧ rd (thermSt 2 0 {}).dev K.x1602_SHED_STEP = 0 ∧
    rd (thermSt 2 2 {}).dev K.x1602_SHED_STEP = 2 ∧ (thermSt 2 2 {}).dev.therm.stepAt + ms 100 ≤ max (thermSt 2 2 {}).dev.now 0 ∧
    rd (thermSt 1 3 {}).dev K.x1602_THERMAL_LEVEL < 2 := by decide

def findings : BootFindings :=
  { regionsFailed := [], fwVersion := 0, fwSvn := 0, fwDigest := [], flashId := [], linkSpeed := 0, linkWidth := 0, mountMs := 0
    failedSensors := [], bands := [] }

/-- A start at a step, entered now, with a ledger entry whose plan is all PRIMARY, after entries `old`. -/
def bootSt (step : Nat) (old : List LedgerEntry) (x : Boot) : State :=
  st { dv [] with
    od := [(K.x1C40_BOOT_STEP, step)]
    boot := { x with stepAt := sec 100 }
    nv := { ledger := old ++ [{ startSeq := 9, plan := List.replicate 24 0, outcome := List.replicate 24 none }] } }

theorem test_ready : (bootSt 24 [] { started := true }).dev.boot.held = false ∧ rd (bootSt 24 [] { started := true }).dev K.x1C40_BOOT_STEP = 24 ∧
    max (bootSt 24 [] { started := true }).dev.now 0 ≤ (bootSt 24 [] { started := true }).dev.boot.stepAt + ms 1000 ∧
    planned (bootSt 24 [] { started := true }).dev 24 = 0 ∧ (bootSt 24 [] { started := true }).dev.boot.restored = [] := by decide

theorem test_boot_start : let d := (bootSt 1 [] {}).dev
    d.boot.started = false ∧ d.power.flush = none ∧ d.power.stopped = false ∧ d.power.psafe = false ∧ d.boot.perst = false ∧
    d.boot.nextCause = none := by decide

theorem test_step_pass : ∀ n, n ∈ [1, 3, 10, 12, 14, 17, 19, 20, 21] →
    let d := (bootSt n [] { started := true }).dev
    (d.nv.ledger.getLast?).any (fun e => !e.reset && e.outcome.length == 24) = true ∧ planned d n = 0 ∧ planned d (n + 1) ≤ 1 ∧
      ((stepLimit n).any fun l => decide (d.boot.stepAt + ms l < max d.now 0)) = false := by decide

theorem test_step_fail : rd (bootSt 2 [] { started := true }).dev K.x1C40_BOOT_STEP = 2 ∧
    (let d := (st { (bootSt 23 [] { started := true }).dev with now := sec 101 }).dev
     stepLimit 23 = some 10 ∧ d.boot.stepAt + ms 10 ≤ max d.now 0 ∧ stepKind 23 ≠ 0 ∧ stepOnFail 23 = 2 ∧ stepBit 23 = some 15) := by decide

theorem test_held : let d := (st { (bootSt 1 [] { started := true, held := true }).dev with now := sec 101 }).dev
    d.boot.held = true ∧ d.boot.stepAt + ms 10 ≤ max d.now 0 ∧ rd d K.x1C40_BOOT_STEP = 1 ∧ planned d 2 ≤ 1 := by decide

theorem test_recovery : let d := (st { (bootSt 0xFE [] { started := true, opDone := some (sec 100), fuseFail := true }).dev with now := sec 102 }).dev
    alive (arrive 0 d) = true ∧ rd d K.x1C40_BOOT_STEP = 0xFE ∧ rd d K.x1A00_NV_STATE ≠ 2 ∧ d.boot.opDone = some (sec 100) ∧
    sec 100 + ms 100 ≤ max d.now 0 ∧ d.boot.fuseFail = true ∧ d.boot.stepAt + sec 1 ≤ max d.now 0 := by decide

/-- Two starts before failed at step S03. -/
def failedS03 (seq : Nat) : LedgerEntry := { startSeq := seq, plan := List.replicate 24 0, outcome := [some 1, some 1, some 3] ++ List.replicate 21 none }

theorem test_third_fail : let d := (bootSt 3 [failedS03 7, failedS03 8] { started := true }).dev
    stepKind 3 = 0 ∧ stepOnFail 3 ≠ 0 ∧ thirdFail (record 3 3 (arrive 0 d)) 3 = true ∧ d.boot.held = false := by decide


/-! ## Mailbox commands and DDP -/

/-- Queue 65,535 of the physical function, of type 7, with a staged STC_SOURCE. -/
def mailSt : State :=
  st { dv [(K.fn_FN_STATE 0, 1), (K.x3C00_LINK_STATE, 1)] with
    host := { queues := [(65535, nextQ 7 0)] }, ctl := { basting := [(0, { items := [⟨K.x1460_STC_SOURCE, [1]⟩] })], hostPaid := [(65535, 1)] } }

def mailCmd (k : Nat) (flags length : BitVec 32) (data : List Byte) : MailboxCmd :=
  { queue := 65535, ring := 0, irq := true, tag := 9, index := Fin.ofNat 65536 (k / 256), sub := Fin.ofNat 256 (k % 256), flags := flags
    length := length, offset := 0, buffer := 0x10000, data := data, fin := .ok }

def getName : MailboxCmd := mailCmd K.x1000_PCIE_DEVICE_ID 0 2 []
def getStaged : MailboxCmd := mailCmd K.x1460_STC_SOURCE 0 1 []
def getInfo : MailboxCmd := mailCmd K.x1460_STC_SOURCE 0 16 []
def setSource : MailboxCmd := mailCmd K.x1460_STC_SOURCE 1 1 (padTo 32 [0])

theorem test_mailbox_starts : let d := arrive 0 mailSt.dev
    alive d = true ∧ Fresh { queue := 65535, ring := 0, bytes := mailboxBytes 1 getName } d ∧ (∀ m ∈ [getName, getStaged, getInfo, setSource], ∀ op : Fin 5, mailboxTraffic op m ≤ paidBytes d 65535) ∧
    portFreeB 0 4 d = true ∧ targetOf 0x1000 = 4 ∧ targetOf 0x1460 = 4 ∧ (queue mailSt.dev 65535).typ = 7 ∧ (∀ m ∈ [getName, getStaged, getInfo, setSource], mailboxFields m = true ∧ m.fin = .ok ∧ m.offset = 0) ∧
    mailboxOk false getName = true ∧ mailboxOk false getStaged = true ∧ mailboxOk false getInfo = true ∧ mailboxOk true setSource = true :=
  ⟨by decide, ⟨by decide, by decide⟩, by decide, by decide, by decide, by decide, by decide, by decide, by decide, by decide, by decide, by decide⟩

theorem test_mailbox_get : let d := arrive 0 mailSt.dev
    (∃ r, entryRow d (mailboxKey getName) = some r ∧ r.ty ≠ .domain ∧ readRefusal d false 0 (mailboxKey getName) r = none ∧
      getName.length.toNat = r.size ∧ r.ty.isBody = false ∧ getName.index = 0x1000 ∧ 3 ≠ r.size) ∧
    (∃ r, entryRow d (mailboxKey getStaged) = some r ∧ r.ty ≠ .domain ∧ readRefusal d true 0 (mailboxKey getStaged) r = none ∧
      getStaged.length.toNat = r.size ∧ r.acc = .rws ∧ stagedValue mailSt.dev 0 (mailboxKey getStaged) = some [1]) ∧
    mayRead d 0 (mailboxKey getInfo) = true ∧ (qFn mailSt.dev 65535).getD 0 = 0 :=
  ⟨⟨_, rfl, by decide, by decide, by decide, by decide, by decide, by decide⟩,
    ⟨_, rfl, by decide, by decide, by decide, by decide, by decide⟩, by decide, by decide⟩

theorem test_mailbox_set : let d := arrive 0 mailSt.dev
    inlined setSource = true ∧ ∃ r, entryRow d (mailboxKey setSource) = some r ∧ setSource.length.toNat = r.size ∧ r.acc = .rws ∧
      refusal d { path := .mailbox, req := 0, k := mailboxKey setSource, start := 0, bytes := setSource.data.take 1 } r = none ∧
      stageRoom mailSt.dev 0 (mailboxKey setSource) 1 = true :=
  ⟨by decide, _, rfl, by decide, by decide, by decide, by decide⟩

/-- Node 7 on the bus, with `n` requests that wait, a response to send and the transfers given. -/
def busSt (n : Nat) (segs : Tab SegXfer) (l : Tab Nat := []) : State :=
  st { dv ([(K.x1110_NODE_ID, 7), (K.x1110_DDP_WRITE_MODE, 1)] ++ l) with
    ctl := { held := List.replicate n { target := 4, master := 1, since := 0, req := .ddp (natLE 8 1) }
             ddp := { enabled := true, segs := segs, txWait := [{ ident := 0x187, bytes := natLE 8 0 }] } } }

/-- A request frame of node 5 to node 7: command, entry, byte 6, data. -/
def reqFrame (cmd k b6 : Nat) (data : List Byte) : CanFrame :=
  { ident := 0x107, bytes := natLE 1 cmd ++ [5, 0xAA] ++ natLE 1 (k % 256) ++ natLE 2 (k / 256) ++ natLE 1 b6 ++ natLE 1 data.length ++
      padTo (canLength (8 + data.length) - 8) data }

/-- What every request of node 5 meets. -/
def taken (f : CanFrame) (cmd : Nat) (s : State) : Bool :=
  alive (arrive 0 s.dev) && canLengthOk f.bytes.length && fByte f.bytes 0 == cmd && ddpTakes (arrive 0 s.dev) f && ddpLengthOk f.bytes

/-- The control complex has been taken in this cycle. -/
def takenSt : State :=
  let s := busSt 31 []
  { s with dev := { s.dev with ctl := { s.dev.ctl with ports := [(4, ctlCycle s.dev)] } } }

def putSource (v : Nat) : CanFrame := reqFrame 2 K.x1460_STC_SOURCE 0 (natLE 1 v)
def putId : CanFrame := reqFrame 2 K.x1000_PCIE_DEVICE_ID 0 [1, 0]

theorem test_port_taken : reaches (arrive 0 takenSt.dev) (masterOf host) (targetOf 0x1000) = true ∧
    tabFind (arrive 0 takenSt.dev).ctl.ports (targetOf 0x1000) = some (ctlCycle (arrive 0 takenSt.dev)) := by decide

theorem test_ddp_taken : taken (reqFrame 1 K.x1460_STC_SOURCE 1 []) 1 (busSt 0 []) = true ∧ taken (putSource 1) 2 (busSt 0 []) = true ∧
    taken putId 2 (busSt 0 []) = true ∧ taken (reqFrame 3 K.x1460_STC_SOURCE 0 []) 3 (busSt 0 []) = true ∧
    taken (reqFrame 0x77 0 0 []) 0x77 (busSt 0 []) = true ∧ ddpCommands.contains 0x77 = false ∧
    expeditedHeld (busSt 0 []).dev < 32 ∧ portFreeB 1 4 (busSt 0 []).dev = true ∧ 32 ≤ expeditedHeld (arrive 0 (busSt 32 []).dev) ∧
    expeditedHeld (arrive 0 takenSt.dev) < 32 ∧ tabFind (arrive 0 takenSt.dev).ctl.ports 4 = some (ctlCycle (arrive 0 takenSt.dev)) ∧
    taken (putSource 1) 2 takenSt = true ∧
    taken (putSource 1) 2 (busSt 32 []) = true ∧ WellFormed (.ddpWrite 0 (putSource 1)) = true := by decide

theorem test_ddp_rows : let d := arrive 0 (busSt 0 []).dev
    (∃ r, entryRow d (ddpKey (putSource 1).bytes) = some r ∧ readRefusal d true 0x1005 (ddpKey (putSource 1).bytes) r = none ∧
      (readValue true 0x1005 (ddpKey (putSource 1).bytes) r d).1.length ≤ 56 ∧ r.acc = .rws ∧ r.ty ≠ .domain ∧
      refusal d { path := .ddp, req := 0x1005, k := ddpKey (putSource 1).bytes, start := 0, bytes := ddpData (putSource 1).bytes } r = none ∧
      stageRoom (busSt 0 []).dev 0x1005 (ddpKey (putSource 1).bytes) 1 = true) ∧
    ∃ r, entryRow d (ddpKey putId.bytes) = some r ∧
      refusal d { path := .ddp, req := 0x1005, k := ddpKey putId.bytes, start := 0, bytes := ddpData putId.bytes } r = some 2 :=
  ⟨⟨_, rfl, by decide, by decide, by decide, by decide, by decide, by decide⟩, _, rfl, by decide⟩

/-- An init of an entry: offset 0 and a length. -/
def initFrame (cmd k len : Nat) : CanFrame := reqFrame cmd k 0 (natLE 4 0 ++ natLE 4 len)

/-- SEG_DATA, SEG_ACK and SEG_ABORT of node 5: the number stands in bytes 3 to 5. -/
def segReq (cmd n b6 : Nat) (data : List Byte) : CanFrame := reqFrame cmd (n % 256 + n / 256 * 256) b6 data

def writing : SegXfer :=
  { write := true, tag := 0xAA, key := K.x2120_EQ_ASSIGN, length := 56, offset := 0, body := [], next := 0, acked := 0, lastDone := false, lastAt := 0 }
def reading : SegXfer :=
  { write := false, tag := 0xAA, key := K.x1460_STC_SOURCE, length := 1, offset := 0, body := [0], next := 1, acked := 0, lastDone := false, lastAt := 0 }

theorem test_seg_inits : taken (initFrame 0x10 K.x1460_STC_SOURCE 1) 0x10 (busSt 0 []) = true ∧
    taken (initFrame 0x11 K.x2120_EQ_ASSIGN 56) 0x11 (busSt 0 []) = true ∧ segBusy (busSt 0 []).dev 5 = false ∧
    initOk (initFrame 0x10 K.x1460_STC_SOURCE 1).bytes = true ∧ initOffset (initFrame 0x10 K.x1460_STC_SOURCE 1).bytes = 0 ∧
    (∃ r, entryRow (arrive 0 (busSt 0 []).dev) (ddpKey (initFrame 0x10 K.x1460_STC_SOURCE 1).bytes) = some r ∧
      readRefusal (arrive 0 (busSt 0 []).dev) false 0x1005 (ddpKey (initFrame 0x10 K.x1460_STC_SOURCE 1).bytes) r = none) ∧
    (∃ r, entryRow (arrive 0 (busSt 0 []).dev) (ddpKey (initFrame 0x11 K.x2120_EQ_ASSIGN 56).bytes) = some r ∧
      segWriteRefusal (arrive 0 (busSt 0 []).dev) (initFrame 0x11 K.x2120_EQ_ASSIGN 56).bytes
        (ddpKey (initFrame 0x11 K.x2120_EQ_ASSIGN 56).bytes) r = none) ∧
    segOf (busSt 0 [(5, reading)]).dev 5 ≠ none ∧ 8 ≤ (busSt 0 ((List.range 8).map fun n => (n + 20, reading))).dev.ctl.ddp.segs.length ∧
    WellFormed (.segReadInit 0 (initFrame 0x10 K.x1460_STC_SOURCE 1)) = true :=
  ⟨by decide, by decide, by decide, by decide, by decide, ⟨_, rfl, by decide⟩, ⟨_, rfl, by decide⟩, by decide, by decide, by decide⟩

theorem test_seg_data : let f := segReq 0x12 0 0 (List.replicate 56 7)
    taken f 0x12 (busSt 0 [(5, writing)]) = true ∧ segOf (busSt 0 [(5, writing)]).dev 5 = some writing ∧ writing.tag = fByte f.bytes 2 ∧
    leAt f.bytes 3 3 = writing.next ∧ bitAt (fByte f.bytes 6) 0 = false ∧ (ddpData f.bytes).length = 56 ∧ (ddpData f.bytes).length ≤ writing.length ∧
    (writing.next + 1) % 16 ≠ 0 ∧ leAt (segReq 0x12 3 0 []).bytes 3 3 ≠ writing.next ∧ taken (segReq 0x12 3 0 []) 0x12 (busSt 0 [(5, writing)]) = true := by
  decide

theorem test_seg_ends : taken (segReq 0x13 0 0 []) 0x13 (busSt 0 [(5, reading)]) = true ∧
    (leAt (segReq 0x13 0 0 []).bytes 3 3 + 1) % 2 ^ 24 = segCount reading.body.length ∧ segCount reading.body.length ≤ reading.next ∧
    taken (segReq 0x14 0 0 []) 0x14 (busSt 0 [(5, writing)]) = true :=
  ⟨by decide, by decide, by decide, by decide⟩

/-- A transfer of one byte whose LAST segment comes. -/
def writingOne : SegXfer := { writing with key := K.x1460_STC_SOURCE, length := 1 }

theorem test_seg_last : let f := segReq 0x12 0 1 [1]
    taken f 0x12 (busSt 0 [(5, writingOne)]) = true ∧ bitAt (fByte f.bytes 6) 0 = true ∧ (ddpData f.bytes).length = writingOne.length ∧
    (∃ r, rowOf writingOne.key = some r ∧ r.ty ≠ .domain) ∧ stageRoom (busSt 0 [(5, writingOne)]).dev 0x1005 writingOne.key 1 = true ∧
    portFreeB 1 (targetOf (writingOne.key / 256)) (busSt 0 [(5, writingOne)]).dev = true :=
  ⟨by decide, by decide, by decide, ⟨_, rfl, by decide⟩, by decide, by decide⟩

theorem test_seg_idle : writing.lastAt + ms 500 ≤ max (busSt 0 [(5, writing)]).dev.now 0 := by decide

theorem test_bus : (busSt 1 []).dev.ctl.ddp.enabled = true ∧ rd (busSt 1 []).dev K.x1110_BUS_STATE ≠ 2 ∧ (busSt 1 []).dev.ctl.ddp.txWait ≠ [] ∧
    rd (busSt 0 [] [(K.x1110_BUS_STATE, 2)]).dev K.x1110_BUS_STATE = 2 := by decide

/-! ## The whole machine -/

/-- A block that flushes: a command outside the power sequence changes nothing. -/
theorem test_dead : alive (arrive 0 (mountedSt { flush := some (5, 8192, 0) }).dev) = false ∧ inSequence (.holdupSample 0 7) = false ∧
    inSequence (.pfailAccept 0) = true ∧ WellFormed (.holdupSample 0 7) = true := by decide

theorem test_step_front : step { mailSt with pending := [.xtalLoss 0, .xtalReturn 0] } = exec (.xtalLoss 0) { mailSt with pending := [.xtalReturn 0] } := rfl

theorem test_inv : State.reset.Inv ∧ copySt.Inv := ⟨by unfold State.Inv; decide, by unfold State.Inv; decide⟩

theorem test_ready_queue : { State.reset with pending := [.bootStart 0 1 0, .bootStepEnd 0 .pass findings] : State }.Ready := by
  unfold State.Ready; decide

theorem test_exec_next : ∃ t, exec (.xtalLoss 0) mailSt = .next t := ⟨_, rfl⟩

/-! ## Ill-formed commands (WellFormed refuses each) -/

/-- Accesses whose path and requester do not go together. -/
def astray : Access := { path := .ddp, req := .pcie 0 }

theorem test_ill_access : accOk astray = false ∧ accOk { path := .aperture, req := .ddp 5 } = false ∧ accOk { path := .mailbox, req := .ddp 5 } = false ∧
    accOk { path := .mailbox, req := .internal 0 } = false ∧ accOk { path := .ddp, req := .internal 0 } = false := by decide

theorem test_ill_writes : ∀ c ∈ ([.compatRequestWrite 0 astray [], .dictionaryWrite 0 astray 0 0 0 [], .missClear 0 astray [], .refuseClear 0 astray [],
      .stcNowRead 0 astray, .commitRequest 0 astray [], .discardBasting 0 astray [], .opStart 0 astray 0, .opAbort 0 astray 0, .opRelease 0 astray 0,
      .rxRestart 0 astray 0 [], .rxTestWrite 0 astray 0 [], .prbsCheckWrite 0 astray 0 [], .rxCountClear 0 astray 0 [], .txTestWrite 0 astray 0 [],
      .injectError 0 astray 0 [], .regionRelease 0 astray 0 [], .eaCountClear 0 astray 0 [], .arCountClear 0 astray 0 []] : List Instr),
    WellFormed c = false := by decide

theorem test_ill_writes_2 : ∀ c ∈ ([.memCountClear 0 astray [], .faultRecordClear 0 astray [], .pageTableQuery 0 astray [], .queueEnable 0 astray,
      .queueDisable 0 astray, .resumeSkip 0 astray, .resumeRetry 0 astray, .timeAnchorWrite 0 astray [], .setPassword 0 astray 0 [],
      .unlock 0 astray 0 [], .lock 0 astray 0 [], .eraseAndClear 0 astray 0 [], .svnCommit 0 astray [], .epochAdvance 0 astray [],
      .logClear 0 astray []] : List Instr), WellFormed c = false := by decide

/-- Token writes of another action, or astray. -/
theorem test_ill_tokens : ∀ c ∈ ([.ownerEnrol 0 mail [0, 0, 0, 0, 0, 2] vendorSig, .ownerEnrolEnforce 0 mail [0, 0, 0, 0, 0, 1] vendorSig,
      .ownerRevoke 0 mail [0, 0, 0, 0, 0, 4] vendorSig, .enterRma 0 mail [0, 0, 0, 0, 0, 3] vendorSig,
      .ownerEnrol 0 astray [0, 0, 0, 0, 0, 1] vendorSig] : List Instr), WellFormed c = false := by decide

/-- A mailbox command without the bytes its descriptor implies; frames of a false length or another command. -/
theorem test_ill_requests : ∀ c ∈ ([.mailboxGet 0 { getName with data := [1] }, .mailboxGetInfo 0 { getInfo with data := [1] },
      .mailboxGetStaged 0 { getStaged with data := [1] }, .mailboxSet 0 { setSource with data := [1] },
      .mailboxSet 0 { setSource with flags := 0, data := [] }] ++
      [.ddpRead 0 (putSource 1), .ddpWrite 0 (reqFrame 1 0 0 []), .ddpReadInfo 0 putId, .segReadInit 0 putId, .segWriteInit 0 putId, .segData 0 putId,
      .segAck 0 putId, .segAbort 0 putId, .ddpBadCommand 0 putId] ++
      [.ddpRead 0 { ident := 0x107, bytes := natLE 9 1 }, .ddpBadCommand 0 { ident := 0x107, bytes := natLE 65 0x77 }] : List Instr),
    WellFormed c = false := by decide

/-- Events with an operand out of range or of a wrong length. -/
theorem test_ill_events : ∀ c ∈ ([.masterResetInBurst 0 7 true 0 0 0 none, .masterResetInBurst 0 7 true 4 4 0 none,
      .masterResetInBurst 0 7 true 8 1 0x1000000 none, .powerEstimateUpdate 0 { est with leakage := 2 ^ 28 },
      .tieBlockReceived 0 0 [none] [0, 0, 0, 0, 0], .tieBlockReceived 0 0 [none, none, none, none, none] [0],
      .inputFrameReceived 0 0 { frm with periodPs := 0 }, .inputSignalLoss 0 0 (some { frm with lines := [some [⟨1, 2, 3, 4⟩], some []] }),
      .embeddedAudioPacket 0 0 { packet true with samples := [] }, .embeddedAudioPacket 0 0 { packet true with invalid := [] },
      .aes3FrameReceived 0 0 { aesFrm true with parityOk := [] }, .aes3FrameReceived 0 0 { aesFrm true with samples := [] },
      .aes3FrameReceived 0 0 { aesFrm true with v := [] }, .aes3FrameReceived 0 0 { aesFrm true with u := [] },
      .aes3FrameReceived 0 0 { aesFrm true with c := [] }] : List Instr), WellFormed c = false := by decide

theorem test_ill_host : ∀ c ∈ ([.bar4Read 0 0 (2 ^ 35) 1, .bar4Read 0 0 0 0, .bar4Read 0 0 4095 2, .bar4Write 0 0 (2 ^ 35) [1], .bar4Write 0 0 0 [],
      .bar4Write 0 0 4095 [1, 2], .doorbellWrite 0 0 524288 [], .linkUp 0 3 1, .linkUp 0 16 0, .linkUp 0 16 8, .doeUmousaRequest 0 [],
      .journalReplayRun 0 0 none [], .thermalSample 0 [], .thermalSample 0 (readings 1601), .thermalSample 0 (readings (-401)), .bootStart 0 0 0,
      .cellRetryEnd 0 .chip .goodData, .cellRetryEnd 0 (.block 0) .goodData, .blockWatchdogExpiry 0 0] : List Instr),
    WellFormed c = false := by decide

/-- A descriptor of another opcode, or of 63 bytes; a NOP row's descriptor that another row carries. -/
theorem test_ill_descriptors : ∀ c ∈ ([.fenceLocal 0 (descOf (descBytes 0x11 0 0 [])), .fenceHost 0 (descOf (descBytes 0x10 0 0 [])),
      .fencePersist 0 (descOf (descBytes 0x10 0 0 [])), .exportFrame 0 (descOf toHostBytes) false .ok, .windowToHost 0 (descOf toWindowBytes) .ok,
      .importPlane 0 (descOf playBytes) .error, .hostToWindow 0 (descOf planeBytes) .error, .captureBuffer 0 (descOf playBytes),
      .playbackBlock 0 (descOf planeBytes) .error, .eventBuffer 0 (descOf playBytes), .evidenceBuffer 0 (descOf playBytes),
      .nop 0 (descOf playBytes), .nop 0 (descOf (mailboxBytes 1 getName)), .nop 0 (descOf ((descBytes 1 0 0 []).drop 1)),
      .fenceLocal 0 (descOf ((descBytes 0x10 0 0 []).take 63))] : List Instr), WellFormed c = false := by decide

end Sys2Proof.Tests
end

section
/-! SUPPORT. Laws of writes that reach the trust block: what the persist path, the boot configuration and the fuses leave, what an accepted
write to one entry makes, and with them what each write of a security control does. -/

namespace Sys2Proof.Machine

/-! ## A granted port -/

/-- A granted write meets the block of its instant; only the bus matrix has noted the port. -/
@[simp] theorem atWrite_fields (t : Ps) (acc : Access) (k : Nat) (s : State) :
    (atWrite t acc k s).od = (arrive t s.dev).od ∧ (atWrite t acc k s).boot = (arrive t s.dev).boot ∧
    (atWrite t acc k s).nv = (arrive t s.dev).nv ∧ (atWrite t acc k s).ev = (arrive t s.dev).ev ∧
    (atWrite t acc k s).evSeq = (arrive t s.dev).evSeq :=
  ⟨rfl, rfl, rfl, rfl, rfl⟩

@[simp] theorem rd_atWrite (t : Ps) (acc : Access) (k : Nat) (s : State) (j : Nat) : rd (atWrite t acc k s) j = rd (arrive t s.dev) j := rfl

/-! ## Cleared entries -/

@[simp] theorem clearAll_fields (ks : List Nat) (d : Dev) :
    (clearAll ks d).nv = d.nv ∧ (clearAll ks d).oldFaults = d.oldFaults ∧ (clearAll ks d).evClearedAt = d.evClearedAt := by
  unfold clearAll
  induction ks generalizing d with
  | nil => exact ⟨rfl, rfl, rfl⟩
  | cons k r ih => exact ih (wr k 0 d)

theorem tabFind_zeros (ks : List Nat) (j : Nat) : tabFind (ks.map fun k => (k, 0)) j = if j ∈ ks then some 0 else none := by
  induction ks with
  | nil => rfl
  | cons k r ih =>
    rw [List.map_cons, tabFind, ih]
    by_cases h : k = j
    · simp [h]
    · simp [h, Ne.symm h]

/-- Clearing entries sets these to 0 and no other. -/
theorem entries_clearAll (ks : List Nat) {d d' : Dev} (h : d'.od = d.od) : Entries (ks.map fun k => (k, 0)) d (clearAll ks d') := by
  intro j
  rw [rd_clearAll, tabFind_zeros, rd_eq_of_od h]
  split <;> rfl

/-! ## The persist path (R678, R697) -/

/-- An opened journal entry, or one that waits, touches the journal and its counts only. -/
@[simp] theorem jOpen_fields (kind scope req unit ref pin : Nat) (d : Dev) :
    (jOpen kind scope req unit ref pin d).boot = d.boot ∧ (jOpen kind scope req unit ref pin d).ev = d.ev ∧
    (jOpen kind scope req unit ref pin d).nv = d.nv := by
  unfold jOpen
  split <;> exact ⟨rfl, rfl, rfl⟩

theorem rd_jOpen {kind scope req unit ref pin j : Nat} {d : Dev} (hw : j ≠ K.x1C30_JOURNAL_WAITS) (hu : j ≠ K.x1C30_JOURNAL_MAX_USED) :
    rd (jOpen kind scope req unit ref pin d) j = rd d j := by
  unfold jOpen
  split
  · rw [rd_incSat, if_neg hw.symm]
  · exact (rd_wr _ _ j _).trans (if_neg hu.symm)

/-- An item on its way to flash touches the persist buffer, the journal and the count of stalls only. -/
@[simp] theorem persistItem_fields (ringNo : Option Nat) (r : NvRec) (cost : Nat) (d : Dev) :
    (persistItem ringNo r cost d).boot = d.boot ∧ (persistItem ringNo r cost d).ev = d.ev ∧
    (persistItem ringNo r cost d).nv.bootCfg = d.nv.bootCfg := by
  unfold persistItem
  split
  · exact ⟨rfl, rfl, rfl⟩
  · dsimp only
    split <;> exact ⟨rfl, rfl, rfl⟩

theorem rd_persistItem {ringNo : Option Nat} {r : NvRec} {cost j : Nat} {d : Dev} (h : j ≠ K.x1640_WINDOW_STALLS) :
    rd (persistItem ringNo r cost d) j = rd d j := by
  unfold persistItem
  split
  · rfl
  · dsimp only
    split
    · rfl
    · exact (rd_incSat _ _ j _).trans (if_neg h.symm)

/-- What `f` keeps, `f` on a condition keeps. -/
theorem onlyIf_keeps {β : Type} (c : Bool) {f : Dev → Dev} {d : Dev} (g : Dev → β) (h : g (f d) = g d) : g (onlyIf c f d) = g d := by
  unfold onlyIf
  split
  · exact h
  · rfl

/-- The record of an INSTANT write leaves the boot block, the evidence chains and the boot configuration as they were. -/
@[simp] theorem persistObj_fields (i req : Nat) (d : Dev) :
    (persistObj i req d).boot = d.boot ∧ (persistObj i req d).ev = d.ev ∧ (persistObj i req d).nv.bootCfg = d.nv.bootCfg := by
  unfold persistObj persist
  obtain ⟨hb, he, hn⟩ := persistItem_fields none _ _ _
  exact ⟨hb.trans (onlyIf_keeps _ Dev.boot (jOpen_fields ..).1), he.trans (onlyIf_keeps _ Dev.ev (jOpen_fields ..).2.1),
    hn.trans (onlyIf_keeps _ (·.nv.bootCfg) (congrArg Nv.bootCfg (jOpen_fields ..).2.2))⟩

/-- The record of an INSTANT write moves the counts of the journal and of stalls alone. -/
theorem rd_persistObj {i req j : Nat} {d : Dev} (hs : j ≠ K.x1640_WINDOW_STALLS) (hw : j ≠ K.x1C30_JOURNAL_WAITS)
    (hu : j ≠ K.x1C30_JOURNAL_MAX_USED) : rd (persistObj i req d) j = rd d j := by
  unfold persistObj persist
  rw [rd_persistItem hs]
  exact onlyIf_keeps _ (rd · j) (rd_jOpen hw hu)

/-! ## Boot configuration and fuses (R780, R793) -/

/-- The report of the firmware slots changes entries only. -/
@[simp] theorem fwReport_fields (d : Dev) :
    (fwReport d).boot = d.boot ∧ (fwReport d).ev = d.ev ∧ (fwReport d).nv = d.nv := by
  unfold fwReport
  simp only [wr_fields]
  refine ⟨forAll_keeps _ _ Dev.boot (fun _ _ => ?_) d, forAll_keeps _ _ Dev.ev (fun _ _ => ?_) d,
    forAll_keeps _ _ Dev.nv (fun _ _ => ?_) d⟩ <;> rfl

/-- The report of the firmware slots changes entries of [1801] only. -/
theorem rd_fwReport {j : Nat} {d : Dev} (h : j < 0x1801 * 256) : rd (fwReport d) j = rd d j := by
  have hne (n : Nat) : 0x1801 * 256 + n ≠ j := by omega
  unfold fwReport
  rw [rd_wr, if_neg (hne _), rd_wr, if_neg (hne _)]
  refine forAll_keeps _ _ (rd · j) (fun i d => ?_) d
  rw [rd_wr, if_neg (hne _), rd_wr, if_neg (hne _), rd_wr, if_neg (hne _)]

/-- A byte of the boot configuration is in flash at once (R780; log entry 42). -/
@[simp] theorem setBootCfg_fields (i v : Nat) (d : Dev) :
    (setBootCfg i v d).boot = d.boot ∧ (setBootCfg i v d).nv.bootCfg = setAt d.nv.bootCfg i v := by
  unfold setBootCfg
  simp [modNv]

theorem rd_setBootCfg {i v j : Nat} {d : Dev} (h : j < 0x1801 * 256) : rd (setBootCfg i v d) j = rd d j := by
  unfold setBootCfg
  rw [rd_fwReport h]
  rfl

@[simp] theorem otpReport_fields (d : Dev) : (otpReport d).boot = d.boot ∧ (otpReport d).ev = d.ev := ⟨rfl, rfl⟩

/-- Fuses burn as `f` says; nothing else of the boot block and nothing of the evidence chains moves. -/
@[simp] theorem modOtp_fields (f : Otp → Otp) (d : Dev) :
    (modOtp f d).boot = { d.boot with otp := f d.boot.otp } ∧ (modOtp f d).ev = d.ev := by
  unfold modOtp
  simp [modBoot]

/-- [1800:01] and [1800:04] read what the fuses hold once they are burnt (R793). -/
theorem rd_modOtp (f : Otp → Otp) (d : Dev) :
    rd (modOtp f d) K.x1800_LIFECYCLE = (f d.boot.otp).lifecycle ∧ rd (modOtp f d) K.x1800_OTP_SVN = (f d.boot.otp).svn := by
  unfold modOtp
  rw [rd_fwReport (by decide), rd_fwReport (by decide)]
  simp [otpReport, modBoot]

/-- KEY_EPOCH steps; fuses and chains stay (R789). -/
@[simp] theorem epochAdvance_fields (req : Nat) (d : Dev) :
    (epochAdvance req d).boot = d.boot ∧ (epochAdvance req d).ev.epoch = (d.ev.epoch + 1) % 2 ^ 32 ∧
    (epochAdvance req d).ev.chains = d.ev.chains := by
  unfold epochAdvance
  simp [modEv]

/-! ## What an accepted write makes -/

/-- Does a write to the entry answer a status of its own: an owner token, a password, an unlock? -/
def answersItself (k : Nat) : Bool :=
  k == K.x1800_OWNER_TOKEN || (decide (0x1A10 ≤ k / 256) && decide (k / 256 < 0x1A14) && (k % 256 == 3 || k % 256 == 4))

/-- A write that is not staged, to an entry without an answer of its own, acts once or stores its value. -/
theorem putEffect_of_plain {w : Put} {r : Row} {sig : Bool} {d : Dev} (hs : r.acc ≠ .rws) (hk : answersItself w.k = false) :
    putEffect w r sig d =
      (0, if r.acc = .wo then putOnce w.req w.k (w.num r) d else putRw w.req w.k (w.num r) (w.bytes.take r.size) r d) := by
  simp only [answersItself, Bool.or_eq_false_iff, beq_eq_false_iff_ne] at hk
  obtain ⟨ht, hu⟩ := hk
  unfold putEffect
  rw [if_neg hs, if_neg ht, if_neg (by rintro ⟨a, b, c⟩; simp [a, b, c] at hu), if_neg (by rintro ⟨a, b, c⟩; simp [a, b, c] at hu)]
  split <;> rfl

section
variable {c : Instr} {t : Ps} {acc : Access} {k v : Nat} {b : List Byte} {sig : Bool} {s : State} {r : Row} {P : Dev → Prop}

/-- A command that is an accepted write, whose effect answers success, makes that effect. -/
theorem makes_of_accepted (e : exec c s = actWrite t acc k 0 b sig s) (h : Accepted t acc k v b s) (hr : entryRow (arrive t s.dev) k = some r)
    (hp : leNat (b.take r.size) = v → ∃ d,
      putEffect { path := acc.path, req := reqId acc.req, k := k, start := 0, bytes := b } r sig (atWrite t acc k s) = (0, d) ∧ P d) :
    Makes c s P := by
  obtain ⟨r', hr', hv, hd⟩ := accepted_run h sig
  obtain rfl : r' = r := Option.some.inj (hr'.symm.trans hr)
  obtain ⟨d, hx, hP⟩ := hp hv
  refine ⟨_, e.trans (accepted_exec h sig), ?_⟩
  rw [hd, hx]
  exact hP

/-- An accepted write to a WO entry acts once (R72). -/
theorem makes_of_accepted_once (e : exec c s = actWrite t acc k 0 b sig s) (h : Accepted t acc k v b s)
    (hr : entryRow (arrive t s.dev) k = some r) (ha : r.acc = .wo) (hk : answersItself k = false)
    (hp : P (putOnce (reqId acc.req) k v (atWrite t acc k s))) : Makes c s P :=
  makes_of_accepted e h hr fun hv =>
    ⟨_, putEffect_of_plain (by rw [ha]; decide) hk, by rw [if_pos ha]; simpa only [Put.num, hv] using hp⟩

/-- An accepted write to an RW entry stores its value (R70). -/
theorem makes_of_accepted_rw (e : exec c s = actWrite t acc k 0 b sig s) (h : Accepted t acc k v b s)
    (hr : entryRow (arrive t s.dev) k = some r) (ha : r.acc = .rw) (hk : answersItself k = false)
    (hp : P (putRw (reqId acc.req) k v (b.take r.size) r (atWrite t acc k s))) : Makes c s P :=
  makes_of_accepted e h hr fun hv =>
    ⟨_, putEffect_of_plain (by rw [ha]; decide) hk, by rw [if_neg (by rw [ha]; decide)]; simpa only [Put.num, hv] using hp⟩

/-- A token write of the command's action that the security engine accepts makes what the token does (R790). -/
theorem makes_of_token {n : Nat} {x : SigCheck} {d : Dev} (e : exec c s = actToken t acc n b x s) (hn : leAt b 5 1 = n)
    (h : Accepted t acc K.x1800_OWNER_TOKEN v b s)
    (ht : tokenAct (x.vendorKeyKnown && x.vendorSigs) b (reqId acc.req) (atWrite t acc K.x1800_OWNER_TOKEN s) = (0, d)) (hp : P d) :
    Makes c s P := by
  refine makes_of_accepted (sig := x.vendorKeyKnown && x.vendorSigs) ?_ h rfl fun _ => ⟨d, ht, hp⟩
  rw [e, actToken, hn, beq_self_eq_true]
  rfl

end

/-! ## The security controls -/

section
variable (t : Ps) (acc : Access) (b : List Byte) (s : State)

/-- COMPAT_REQUEST is an NV-held number with a copy in the boot configuration (R2, R780). -/
theorem putRw_compatRequest {req v : Nat} {b : List Byte} {r : Row} {d : Dev} (hn : r.nv = true) (hb : r.ty.isBody = false) :
    putRw req K.x1000_COMPAT_REQUEST v b r d = persistObj 0x1000 req (setBootCfg 2 v (wr K.x1000_COMPAT_REQUEST v d)) := by
  unfold putRw
  rw [hn, hb]
  rfl

/-- COMPAT_REQUEST is stored in the boot configuration; the mode in force stays (R2). -/
theorem compatRequestWrite_makes {v : Nat} (h : Accepted t acc K.x1000_COMPAT_REQUEST v b s) :
    Makes (.compatRequestWrite t acc b) s fun d =>
      rd d K.x1000_COMPAT_REQUEST = v ∧ d.nv.bootCfg = setAt (arrive t s.dev).nv.bootCfg 2 v ∧
        d.boot.compat = (arrive t s.dev).boot.compat := by
  refine makes_of_accepted_rw rfl h rfl rfl rfl ?_
  rw [putRw_compatRequest rfl rfl]
  refine ⟨?_, by simp, by simp⟩
  rw [rd_persistObj (by decide) (by decide) (by decide), rd_setBootCfg (by decide), rd_wr, if_pos rfl]

theorem putOnce_svnCommit (req : Nat) (d : Dev) : putOnce req K.x1800_SVN_COMMIT 1 d = svnCommit d := rfl

/-- The fused security version rises to that of the running image; owner slots and policy stay (R793). -/
theorem svnCommit_makes (h : Accepted t acc K.x1800_SVN_COMMIT 1 b s) :
    Makes (.svnCommit t acc b) s fun d =>
      d.boot.otp.svn = max (arrive t s.dev).boot.otp.svn (min (arrive t s.dev).boot.fwSvn 63) ∧
      rd d K.x1800_OTP_SVN = d.boot.otp.svn ∧
      d.boot.otp.slots = (arrive t s.dev).boot.otp.slots ∧ d.boot.otp.policy = (arrive t s.dev).boot.otp.policy := by
  refine makes_of_accepted_once rfl h rfl rfl rfl ?_
  rw [putOnce_svnCommit, svnCommit]
  simp [(rd_modOtp _ _).2]

/-- KEY_EPOCH steps and each chain keeps its own until its next seal boundary (R789). -/
theorem epochAdvance_makes (h : Accepted t acc K.x1802_EPOCH_ADVANCE 1 b s) :
    Makes (.epochAdvance t acc b) s fun d =>
      d.ev.epoch = ((arrive t s.dev).ev.epoch + 1) % 2 ^ 32 ∧ d.ev.chains = (arrive t s.dev).ev.chains :=
  makes_of_accepted_once rfl h rfl rfl rfl (epochAdvance_fields _ _).2

theorem putOnce_logClear (req : Nat) (d : Dev) : putOnce req K.x1C10_LOG_CLEAR 1 d = logClear d := rfl

/-- The fault log is emptied with its three figures, and no other entry changes (R821). -/
theorem logClear_makes (h : Accepted t acc K.x1C10_LOG_CLEAR 1 b s) :
    Makes (.logClear t acc b) s fun d =>
      d.nv.faults = [] ∧ d.oldFaults = [] ∧ d.evClearedAt = (arrive t s.dev).evSeq ∧
      Entries [(K.x1C10_MAX_INTERRUPT_US, 0), (K.x1C10_INTERRUPTIONS, 0), (K.x1C10_ESCALATIONS, 0)] (arrive t s.dev) d := by
  refine makes_of_accepted_once rfl h rfl rfl rfl ?_
  rw [putOnce_logClear, logClear]
  exact ⟨by simp [modNv], by simp [modNv], by simp [modNv], entries_clearAll [_, _, _] rfl⟩

end

/-! ## Owner tokens (R790 to R792) -/

section
variable {sig : Bool} {b : List Byte} {req : Nat} {d : Dev}

/-- ACTION 1 on a free owner slot burns the slot and its key, under a new epoch. -/
theorem tokenAct_of_enrol (hok : tokenOk sig b d = true) (ha : leAt b 5 1 = 1)
    (hf : bitAt d.boot.otp.slots (leAt b 4 1) = false ∧ bitAt d.boot.otp.slots (leAt b 4 1 + 4) = false) :
    tokenAct sig b req d = (0, epochAdvance req (modOtp (fun o =>
      { o with slots := setBitAt o.slots (leAt b 4 1) true, keys := tabSet (leAt b 4 1) (slice 40 32 b) o.keys }) d)) := by
  simp [tokenAct, hok, ha, hf.1, hf.2]

/-- ACTION 2 burns the policy fuse as well (R791). -/
theorem tokenAct_of_enrolEnforce (hok : tokenOk sig b d = true) (ha : leAt b 5 1 = 2)
    (hf : bitAt d.boot.otp.slots (leAt b 4 1) = false ∧ bitAt d.boot.otp.slots (leAt b 4 1 + 4) = false) :
    tokenAct sig b req d = (0, epochAdvance req (modOtp (fun o =>
      { o with policy := 1, slots := setBitAt o.slots (leAt b 4 1) true, keys := tabSet (leAt b 4 1) (slice 40 32 b) o.keys }) d)) := by
  simp [tokenAct, hok, ha, hf.1, hf.2]

/-- ACTION 3 burns the slot's revocation fuse, and its key is gone, under a new epoch. -/
theorem tokenAct_of_revoke (hok : tokenOk sig b d = true) (ha : leAt b 5 1 = 3) :
    tokenAct sig b req d = (0, epochAdvance req (modOtp (fun o =>
      { o with slots := setBitAt o.slots (leAt b 4 1 + 4) true, keys := tabDel (leAt b 4 1) o.keys }) d)) := by
  simp [tokenAct, hok, ha]

/-- ACTION 4 moves the lifecycle to RMA and leaves the epoch (R792). -/
theorem tokenAct_of_rma (hok : tokenOk sig b d = true) (ha : leAt b 5 1 = 4) :
    tokenAct sig b req d = (0, modOtp (fun o => { o with lifecycle := 3 }) d) := by
  simp [tokenAct, hok, ha]

end

end Sys2Proof.Machine
end

section
open Sys2Proof Sys2Proof.Machine

/-- Settles O19: it holds. Each accepted write runs the effect of its entry, and the persist path that follows touches neither fuses, boot
configuration nor epoch. That the COMPAT_REQUEST byte stands in flash at once is the model's reading (DEDUCED, log entry 42). -/
theorem securityWrites : Obligations.SecurityWrites := by
  unfold Obligations.SecurityWrites
  refine ⟨fun t acc v b s => ⟨compatRequestWrite_makes t acc b s, svnCommit_makes t acc b s, epochAdvance_makes t acc b s,
    logClear_makes t acc b s⟩, fun t acc v b sig s h hok => ⟨fun ha hf => ?_, fun ha hf => ?_, fun ha => ?_, fun ha => ?_⟩⟩
  · exact makes_of_token rfl ha h (tokenAct_of_enrol hok ha hf) (by simp)
  · exact makes_of_token rfl ha h (tokenAct_of_enrolEnforce hok ha hf) (by simp)
  · exact makes_of_token rfl ha h (tokenAct_of_revoke hok ha) (by simp)
  · exact makes_of_token rfl ha h (tokenAct_of_rma hok ha) ⟨rfl, (rd_modOtp _ _).1, rfl, rfl⟩

end

section
/-! SUPPORT. What a command answers, whatever the state: a next state with the queue as it was where its operands are well formed, and the stop
`badOperand` otherwise. Each way to act answers so; that each command acts in one of these ways is the one walk through `exec`. -/

namespace Sys2Proof.Machine

/-- The outcome of a command in state `s`: a next state with the same queue where `ok` holds, the stop `badOperand` otherwise. -/
structure Answers (ok : Bool) (s : State) (o : Host.Outcome State Fault Refusal) : Prop where
  next : ok = true → ∃ t, o = .next t ∧ t.pending = s.pending
  stop : ok = false → ∃ w, o = .fault (.badOperand w)

variable {s t : State} {o : Host.Outcome State Fault Refusal} {a b : Bool}

theorem answers_next (h : t.pending = s.pending) : Answers true s (.next t) := ⟨fun _ => ⟨t, rfl, h⟩, nofun⟩

/-- A check in front of a meaning that has a check of its own: both must hold. -/
theorem answers_wellFormed_and {w : String} (h : Answers b s o) : Answers (a && b) s (wellFormed a w o) := by
  cases a with
  | true => exact h
  | false => exact ⟨nofun, fun _ => ⟨w, rfl⟩⟩

theorem answers_wellFormed {w : String} (h : Answers true s o) : Answers a s (wellFormed a w o) := by
  simpa only [Bool.and_true] using answers_wellFormed_and (a := a) (w := w) h

theorem answers_actWrite (t : Ps) (acc : Access) (k start : Nat) (d : List Byte) (sig : Bool) (s : State) :
    Answers (accOk acc) s (actWrite t acc k start d sig s) :=
  answers_wellFormed (answers_next rfl)

theorem answers_actToken (t : Ps) (acc : Access) (action : Nat) (d : List Byte) (sig : SigCheck) (s : State) :
    Answers (tokenForm acc action d) s (actToken t acc action d sig s) :=
  answers_wellFormed_and (answers_actWrite ..)

/-- Every command answers as its operands deserve. The commands that no arm names have no operand that could be ill formed. -/
theorem exec_answers (c : Instr) (s : State) : Answers (WellFormed c) s (exec c s) := by
  cases c with
  | compatRequestWrite | dictionaryWrite | missClear | refuseClear | commitRequest | discardBasting | opStart | opAbort | opRelease | rxRestart
  | rxTestWrite | prbsCheckWrite | rxCountClear | txTestWrite | injectError | regionRelease | eaCountClear | arCountClear | memCountClear
  | faultRecordClear | pageTableQuery | queueEnable | queueDisable | resumeSkip | resumeRetry | timeAnchorWrite | setPassword | unlock | lock
  | eraseAndClear | svnCommit | epochAdvance | logClear => exact answers_actWrite ..
  | ownerEnrol | ownerEnrolEnforce | ownerRevoke | enterRma => exact answers_actToken ..
  | defaultTargetAccess | masterResetInBurst | powerEstimateUpdate | stcNowRead | tieBlockReceived | inputFrameReceived | inputSignalLoss
  | bar4Read | doorbellWrite | nop | fenceLocal | fenceHost | fencePersist | exportFrame | importPlane | captureBuffer | playbackBlock
  | eventBuffer | evidenceBuffer | linkUp | doeUmousaRequest | journalReplayRun | cellRetryEnd | blockWatchdogExpiry | prbsSyncGained
  | mailboxGet | mailboxSet | mailboxGetInfo | mailboxGetStaged | ddpRead | ddpWrite | ddpReadInfo | segReadInit | segWriteInit | segData
  | segAck | segAbort | ddpBadCommand | embeddedAudioPacket | aes3FrameReceived | bar4Write | windowToHost | hostToWindow | thermalSample
  | bootStart => exact answers_wellFormed (answers_next rfl)
  | _ => exact answers_next rfl

/-- A command that answers a next state leaves the queue as it was. -/
theorem pending_of_exec {c : Instr} (h : exec c s = .next t) : t.pending = s.pending := by
  obtain ⟨hn, hf⟩ := exec_answers c s
  cases hw : WellFormed c with
  | true =>
    obtain ⟨t', ht, hp⟩ := hn hw
    obtain rfl : t' = t := Host.Outcome.next.inj (ht.symm.trans h)
    exact hp
  | false =>
    obtain ⟨w, hw⟩ := hf hw
    exact absurd (h.symm.trans hw) nofun

/-- A step with a command at the front of the queue is that command on the rest. -/
theorem step_withFront (c : Instr) (s : State) : step (s.withFront c) = exec c s := rfl

/-- A step in a ready state takes one command, if one waits, from the queue, and the state stays ready. -/
theorem step_of_ready (h : s.Ready) : ∃ t, step s = .next t ∧ t.pending = s.pending.drop 1 ∧ t.Ready := by
  obtain ⟨pending, mem, dev⟩ := s
  cases pending with
  | nil => exact ⟨_, rfl, rfl, h⟩
  | cons c r =>
    obtain ⟨hc, hr⟩ := List.forall_mem_cons.mp h
    obtain ⟨t, ht, hp⟩ := (exec_answers c ⟨r, mem, dev⟩).next hc
    refine ⟨t, ht, hp, ?_⟩
    unfold State.Ready
    rw [hp]
    exact hr

/-- A run goes on from what its first step answers. -/
theorem run_succ_of_step {M : Host.Core} {s t : M.State} (n : Nat) (h : M.step s = .next t) : M.run (n + 1) s = M.run n t := by
  simp only [Host.Core.run, h]

/-- The first `n` commands of a ready state's queue leave it in `n` steps. -/
theorem run_of_ready (n : Nat) (h : s.Ready) : ∃ t, core.run n s = .next t ∧ t.pending = s.pending.drop n ∧ t.Ready := by
  induction n generalizing s with
  | zero => exact ⟨s, rfl, rfl, h⟩
  | succ n ih =>
    obtain ⟨u, hu, hpu, hru⟩ := step_of_ready h
    obtain ⟨t, ht, hpt, hrt⟩ := ih hru
    exact ⟨t, (run_succ_of_step (M := core) n hu).trans ht, by rw [hpt, hpu, List.drop_drop, Nat.add_comm], hrt⟩

end Sys2Proof.Machine
end

section
open Sys2Proof Sys2Proof.Machine

/-- Settles O7: it holds, by induction on the number of steps; each takes the front of the queue and leaves the rest well formed. What a
well-formed command is, is the model's choice (log entry 78). -/
theorem queueRunsOut : Obligations.QueueRunsOut := by
  unfold Obligations.QueueRunsOut
  exact fun n _ => run_of_ready n

/-- Settles O5: it holds; no way to act touches the queue. -/
theorem execKeepsQueue : Obligations.ExecKeepsQueue := by
  unfold Obligations.ExecKeepsQueue
  exact fun _ _ _ => pending_of_exec

/-- Settles O6: it holds. That a command with operands no event of the hardware carries stops with `badOperand` is the model's own choice
(DESIGN CHOICE, log entry 78). -/
theorem wellFormedExactly : Obligations.WellFormedExactly := by
  unfold Obligations.WellFormedExactly
  intro c s
  obtain ⟨hn, hs⟩ := exec_answers c s
  refine ⟨fun h => ?_, hs⟩
  obtain ⟨t, ht, _⟩ := hn h
  exact ⟨t, ht⟩

/-- Settles O1: it holds; taking the command from the front gives the state it was put on. -/
theorem stepRunsFront : Obligations.StepRunsFront := by
  unfold Obligations.StepRunsFront
  exact step_withFront

end

section
/-! SUPPORT. Laws of the control bus and of single accesses: which entries an update lists, what a command that checks its operands makes,
arbitration, misses, and reads of the STC. -/

namespace Sys2Proof.Machine

/-! ## Listed entries -/

section
variable {d d' d'' : Dev} {l : Tab Nat}

theorem entries_nil_of_od (h : d'.od = d.od) : Entries [] d d' := rd_eq_of_od h

/-- What touches no entry leaves the list as it stands. -/
theorem Entries.of_od (h : Entries l d d') (e : d''.od = d'.od) : Entries l d d'' := fun j => (rd_eq_of_od e j).trans (h j)

/-- A write is listed first, before the writes that it follows. -/
theorem Entries.cons_wr (h : Entries l d d') (k v : Nat) : Entries ((k, v) :: l) d (wr k v d') := by
  intro j
  rw [rd_wr, tabFind, h j]
  split <;> rfl

/-- A write may be listed behind the first of the writes that it follows, when that is of another entry. -/
theorem Entries.second_wr {k₀ v₀ k : Nat} (h : Entries ((k₀, v₀) :: l) d d') (v : Nat) (hk : k₀ ≠ k) :
    Entries ((k₀, v₀) :: (k, v) :: l) d (wr k v d') := by
  intro j
  rw [rd_wr, h j, tabFind, tabFind, tabFind]
  by_cases hj : k = j
  · rw [if_pos hj, if_neg (fun e => hk (e.trans hj.symm)), if_pos hj]
    rfl
  · rw [if_neg hj, if_neg hj]

theorem entries_incSat (w k : Nat) (d : Dev) : Entries [(k, min (rd d k + 1) (2 ^ w - 1))] d (incSat w k d) :=
  (entries_nil_of_od rfl).cons_wr k _

end

/-! ## Commands that check their operands -/

/-- A command with well-formed operands that acts by `f` makes what `f` makes of the block at its instant. -/
theorem makes_of_wellFormed {c : Instr} {t : Ps} (f : Dev → Dev) {s : State} {P : Dev → Prop} {ok : Bool} {w : String}
    (e : exec c s = wellFormed ok w (act t f s)) (hok : ok = true) (h : alive (arrive t s.dev) = true) (p : P (f (arrive t s.dev))) :
    Makes c s P :=
  makes_of_act (e.trans (by rw [hok]; rfl)) h p

/-- What a command makes, it makes of any weaker description too. -/
theorem Makes.mono {c : Instr} {s : State} {P Q : Dev → Prop} (h : Makes c s P) (hq : ∀ d, P d → Q d) : Makes c s Q := by
  obtain ⟨d, e, p⟩ := h
  exact ⟨d, e, hq d p⟩

/-! ## Arbitration (R34, R35) -/

/-- An access whose target has served another in this cycle waits behind those that wait already. -/
theorem submit_of_taken {m tgt : Nat} {d : Dev} (hr : reaches d m tgt = true) (hp : tabFind d.ctl.ports tgt = some (ctlCycle d)) (r : BusReq) :
    submit m tgt r d =
      { d with ctl := { d.ctl with held := d.ctl.held ++ [{ target := tgt, master := m, since := ctlCycle d, req := r }] } } := by
  simp [submit, hr, hp]

/-- A waiting access wins its cycle when it is the oldest of its master and none at its target comes before it. -/
theorem mem_winners {d : Dev} {h : Held} :
    h ∈ winners d ↔ h ∈ oldestOfEach d.ctl.held [] ∧
      ∀ g ∈ oldestOfEach d.ctl.held [], g.target = h.target → heldRank d h ≤ heldRank d g := by
  simp only [winners, List.mem_filter, List.all_eq_true, Bool.or_eq_true, bne_iff_ne, decide_eq_true_eq, ne_eq,
    Decidable.imp_iff_not_or]

/-- The master first preferred comes before all others at its target. -/
theorem heldRank_of_preferred {d : Dev} {h : Held} (hp : d.ctl.preferred.head? = some (h.target, h.master)) : heldRank d h = 0 := by
  obtain ⟨r, hr⟩ := List.head?_eq_some_iff.mp hp
  simp [heldRank, hr, List.findIdx?_cons]

/-- Where no master is preferred, the fixed priority decides. -/
theorem heldRank_of_none {d : Dev} (h : Held) (hp : d.ctl.preferred = []) : heldRank d h = masterRank d h.master := by
  simp [heldRank, hp]

theorem masterRank_processor (d : Dev) {m : Nat} (h : 2 ≤ m) (h' : m ≤ 5) : 1 ≤ masterRank d m ∧ masterRank d m ≤ 4 := by
  unfold masterRank
  rw [if_neg (by omega), if_pos ⟨h, h'⟩]
  omega

/-- A master that has waited 64 cycles at a target, and is not preferred there yet, becomes so; nothing else changes (R35). -/
theorem masterWaited_of_due {m tgt : Nat} {d : Dev} {h : Held} (hm : h ∈ d.ctl.held) (e : h.master = m) (e' : h.target = tgt)
    (hw : h.since + 64 ≤ ctlCycle d) (hp : d.ctl.preferred.contains (tgt, m) = false) :
    masterWaited m tgt d = { d with ctl := { d.ctl with preferred := d.ctl.preferred ++ [(tgt, m)] } } := by
  have hany : (d.ctl.held.any fun h => h.master == m && h.target == tgt && decide (h.since + 64 ≤ ctlCycle d)) = true :=
    List.any_eq_true.mpr ⟨h, hm, by simp [e, e', hw]⟩
  rw [masterWaited, hany, hp]
  rfl

/-! ## Events and the entries of functions -/

theorem qFnFrom_lt {d : Dev} {q f : Nat} : ∀ (n i : Nat), qFnFrom d q n i = some f → f < i + n
  | 0, _, h => by simp [qFnFrom] at h
  | n + 1, i, h => by
    rw [qFnFrom] at h
    split at h
    · cases h; omega
    · have := qFnFrom_lt n (i + 1) h; omega

/-- A queue belongs to one of the 64 functions; function 0 stands in where it belongs to none. -/
theorem qFn_getD_lt (d : Dev) (q : Nat) : (qFn d q).getD 0 < 64 := by
  cases h : qFn d q with
  | none => decide
  | some f => have := qFnFrom_lt 64 0 h; simpa using this

/-- An entry that no event may move is none of the two counts of a function. -/
theorem ne_of_isLost {j f : Nat} (h : isLost j = false) (hf : f < 64) : j ≠ K.fn_EVENTS_LOST f ∧ j ≠ K.fn_BYTES_D2H f := by
  have := List.any_eq_false.mp h f (List.mem_range.mpr hf)
  simpa only [Bool.or_eq_true, beq_iff_eq, not_or] using this

theorem rd_deliverTo_of_not_lost {e : Event} {q j : Nat} {d : Dev} (h : isLost j = false) : rd (deliverTo e q d) j = rd d j := by
  obtain ⟨hl, hb⟩ := ne_of_isLost h (qFn_getD_lt d q)
  unfold deliverTo
  dsimp only
  split
  · exact (rd_wr _ _ j _).trans (if_neg (Ne.symm hb))
  · exact (rd_incSat _ _ j _).trans (if_neg (Ne.symm hl))

/-- An event raised: the entries read as before, but for the two counts of a function. -/
theorem rd_raiseX_of_not_lost {code entry old new dom q : Nat} {detail : List Byte} {sev : Option Nat} {j : Nat} (d : Dev)
    (h : isLost j = false) : rd (raiseX code entry old new dom q detail sev d) j = rd d j :=
  forAll_keeps _ _ (rd · j) (fun _ _ => rd_deliverTo_of_not_lost h) _

theorem jr_deliverTo (e : Event) (q : Nat) (d : Dev) : (deliverTo e q d).jr = d.jr := by
  unfold deliverTo
  dsimp only
  split <;> rfl

theorem jr_raiseX (code entry old new dom q : Nat) (detail : List Byte) (sev : Option Nat) (d : Dev) :
    (raiseX code entry old new dom q detail sev d).jr = d.jr :=
  forAll_keeps _ _ Dev.jr (fun _ _ => jr_deliverTo _ _ _) _

theorem newestEvent_raiseX (code entry old new dom q : Nat) (detail : List Byte) (sev : Option Nat) (d : Dev) :
    newestEvent (raiseX code entry old new dom q detail sev d) code entry new detail := by
  obtain ⟨hs, e, hl, hc, he, -, hn, hq, hd, -⟩ := evLog_raiseX code entry old new dom q detail sev d
  exact ⟨e, by rw [hl]; rfl, hc, he, hn, hq.trans hs.symm, by rw [hd, List.take_length]⟩

/-- The journal entry of a master that was reset in a burst is to be replayed (R810). -/
theorem entries_jMod_opSeq (op : Option Nat) (n : Nat) (d : Dev) :
    (jMod (fun e => op == some e.opSeq) (fun e => { e with jstate := n }) d).jr.entries =
      d.jr.entries.map fun e => if op = some e.opSeq then { e with jstate := n } else e := by
  simp only [jMod, beq_iff_eq]

/-! ## Misses (R38 to R42) -/

/-- A miss is counted, and recorded when the master's turn has come. -/
theorem entries_miss (m addr : Nat) (w : Bool) (d : Dev) :
    let count : Nat × Nat := (K.x1C20_MISS_COUNT, min (rd d K.x1C20_MISS_COUNT + 1) 0xFFFFFFFF)
    Entries (if recordsNow d d.ctl.missCycle m then
        [count, (K.x1C20_LAST_ADDRESS, addr), (K.x1C20_LAST_MASTER, m), (K.x1C20_LAST_KIND, if w then 1 else 0),
          (K.x1C20_LAST_STC, stcNs d)]
      else [count]) d (miss m addr w d) := by
  have hc := entries_incSat 32 K.x1C20_MISS_COUNT d
  unfold miss
  dsimp only
  split
  · exact ((((hc.second_wr (k := K.x1C20_LAST_STC) _ (by decide)).second_wr (k := K.x1C20_LAST_KIND) _ (by decide)).second_wr
      (k := K.x1C20_LAST_MASTER) _ (by decide)).second_wr (k := K.x1C20_LAST_ADDRESS) _ (by decide)).of_od rfl
  · exact hc

/-- A miss leaves the host and the bus errors as they were. -/
@[simp] theorem miss_fields (m addr : Nat) (w : Bool) (d : Dev) :
    (miss m addr w d).host = d.host ∧ (miss m addr w d).ctl.busErrors = d.ctl.busErrors := by
  unfold miss
  dsimp only
  split <;> exact ⟨rfl, rfl⟩

/-- A miss that is recorded notes its cycle and master. -/
theorem missCycle_miss {m : Nat} {d : Dev} (addr : Nat) (w : Bool) (h : recordsNow d d.ctl.missCycle m = true) :
    (miss m addr w d).ctl.missCycle = some (ctlCycle d, m) := by
  unfold miss
  dsimp only
  rw [if_pos h]

/-- The answer to a miss touches no entry and not what was recorded: an Unsupported Request through the aperture, a bus error for a read of
a control processor, the replay engine or debug. -/
theorem missBy_fields (acc : Access) (addr : Nat) (w : Bool) (d : Dev) :
    (missBy acc addr w d).od = (miss (masterOf acc) addr w d).od ∧
    (missBy acc addr w d).ctl.missCycle = (miss (masterOf acc) addr w d).ctl.missCycle ∧
    (missBy acc addr w d).host.out = (if acc.path = .aperture then .unsupported (reqId acc.req) :: d.host.out else d.host.out) ∧
    (missBy acc addr w d).ctl.busErrors =
      if acc.path ≠ .aperture ∧ 2 ≤ masterOf acc ∧ w = false then (masterOf acc, addr) :: d.ctl.busErrors else d.ctl.busErrors := by
  obtain ⟨hh, hb⟩ := miss_fields (masterOf acc) addr w d
  unfold missBy
  dsimp only
  by_cases hp : acc.path = .aperture
  · simp [hp, toHost]
  · by_cases hm : 2 ≤ masterOf acc ∧ w = false
    · simp [hp, hm]
    · rw [if_neg hp, if_neg (by simpa using hm), if_neg hp, if_neg (fun h => hm h.2), hh, hb]
      exact ⟨rfl, rfl, rfl, rfl⟩

section
variable {t : Ps} {acc : Access} {a : Nat} {read : Option Nat} {s : State}

/-- An access that the default target takes, and that no slot of the aperture serves, is a miss. -/
theorem defaultTarget_makes_of_unserved (ho : accOk acc = true) (ha : alive (arrive t s.dev) = true)
    (hr : reaches (arrive t s.dev) (masterOf acc) 0 = true)
    (hs : (if acc.path = .aperture then read.bind fun n => apertureRead (reqId acc.req) a n (arrive t s.dev) else none) = none) :
    Makes (.defaultTargetAccess t acc.proc acc.path acc.req a read) s (· = missBy acc a read.isNone (arrive t s.dev)) := by
  refine makes_of_wellFormed _ rfl ho ha ?_
  rw [hr, hs]
  rfl

/-- An aperture read that its slots serve is answered with their bytes. -/
theorem defaultTarget_makes_of_served {v : List Byte} {d : Dev} (ho : accOk acc = true) (ha : alive (arrive t s.dev) = true)
    (hr : reaches (arrive t s.dev) (masterOf acc) 0 = true)
    (hs : (if acc.path = .aperture then read.bind fun n => apertureRead (reqId acc.req) a n (arrive t s.dev) else none) = some (v, d)) :
    Makes (.defaultTargetAccess t acc.proc acc.path acc.req a read) s (· = toHost (.readData (reqId acc.req) v false) d) := by
  refine makes_of_wellFormed _ rfl ho ha ?_
  rw [hr, hs]
  rfl

end

/-! ## Reads of the STC (R672) -/

/-- Who may read an entry that exists meets its row. -/
theorem metRow_of_mayRead {d : Dev} {p : Path} {req k v : Nat} {r : Row} (hr : entryRow d k = some r) (h : mayRead d req k = true) :
    metRow d p req k v false = some r := by
  have hm : isVf req = false ∨ vfMayRead d req k = true := by simpa [mayRead] using h
  rcases hm with hm | hm <;> simp [metRow, hr, Option.filter, hm]

/-- A read of the STC that is permitted is answered through the aperture, and elsewhere changes nothing. -/
theorem stcRead_of_mayRead {acc : Access} {d : Dev} (h : mayRead d (reqId acc.req) K.x1460_STC_NOW = true) :
    stcRead acc d = if acc.path = .aperture then toHost (.readData (reqId acc.req) (stcBytes d) false) d else d := by
  unfold stcRead
  dsimp only
  rw [metRow_of_mayRead rfl h]
  simp [h]

end Sys2Proof.Machine
end

section
open Sys2Proof Sys2Proof.Machine

/-- Settles O11: it holds. A taken port makes an access wait; the rank of a waiting access is 0 for the master first preferred and the fixed
priority where none is; a burst's reset raises its event behind the mark in the journal. -/
theorem busMatrix : Obligations.BusMatrix := by
  unfold Obligations.BusMatrix
  refine ⟨fun t s => ⟨fun acc i sub start b ha ho hr hp => ?_, fun d => ⟨fun h hf hp => ?_, fun g hg h hf hn he hlt hw => ?_, rfl,
    fun m => masterRank_processor d, rfl, rfl, rfl⟩⟩,
    fun t m s ha => ⟨fun g h hh hm ht hw hp => ?_, fun w beats done entry op hb hd he => ?_⟩⟩
  · have hi : (i.val * 256 + sub.val) / 256 = i.val := by omega
    refine makes_of_wellFormed (putBus acc (i * 256 + sub) start b (tokenVerified b)) rfl ho ha ?_
    rw [putBus, hi, submit_of_taken hr hp]
    exact ⟨entries_nil_of_od rfl, rfl⟩
  · exact mem_winners.mpr ⟨hf, fun g _ _ => by rw [heldRank_of_preferred hp]; exact Nat.zero_le _⟩
  · have := (mem_winners.mp hw).2 g hg he
    rw [heldRank_of_none h hn, heldRank_of_none g hn] at this
    omega
  · refine makes_of_act (f := masterWaited m g) rfl ha ?_
    rw [masterWaited_of_due hh hm ht hw hp]
    exact ⟨rfl, rfl, rfl⟩
  · refine makes_of_wellFormed (masterReset m (beats.val - done.val) entry op) rfl (by simp only [hb, hd, he, decide_true, Bool.and_self]) ha ?_
    exact ⟨newestEvent_raiseX .., by rw [masterReset, jr_raiseX, entries_jMod_opSeq], fun j hj => rd_raiseX_of_not_lost _ hj⟩

/-- Settles O13: it holds. An access that the aperture does not serve is a miss of its master; one that it serves is answered with the bytes
of its slots. That a read of debug gets a bus error is the model's reading (log entry 82). -/
theorem missRecorded : Obligations.MissRecorded := by
  unfold Obligations.MissRecorded
  intro t acc a read s d₀ m c served ha ho hr count
  refine ⟨fun hs => ?_, fun v d' hs => ?_⟩
  · obtain ⟨hod, hc, ho', hb⟩ := missBy_fields acc a read.isNone d₀
    refine (defaultTarget_makes_of_unserved ho ha hr hs).mono ?_
    rintro _ rfl
    refine ⟨Entries.of_od ?_ hod, fun h => hc.trans (missCycle_miss a _ h), ho', ?_⟩
    · cases read <;> exact entries_miss m a _ d₀
    · rw [hb]; cases read <;> simp [m]
  · exact defaultTarget_makes_of_served ho ha hr hs

/-- Settles O18: it holds. Who may read the entry meets its row on every path; the answer is formed at the instant of the read, and a read that
takes its target's port does only that. -/
theorem stcReadAnswers : Obligations.StcReadAnswers := by
  unfold Obligations.StcReadAnswers
  intro t acc s d₀ ha ho
  have hp (h : PortFree (masterOf acc) 4 d₀) :
      submit (masterOf acc) (targetOf 0x1460) (.readStc acc) d₀ = stcRead acc (portTaken (masterOf acc) 4 d₀) := submit_of_free h _
  refine ⟨fun hpath hm => ?_, fun hpath hm hf => ?_⟩
  · refine makes_of_wellFormed _ rfl ho ha ?_
    rw [if_pos hpath, stcRead_of_mayRead hm, if_pos hpath]
    rfl
  · refine makes_of_wellFormed _ rfl ho ha ?_
    rw [if_neg hpath, hp hf, stcRead_of_mayRead (d := portTaken (masterOf acc) 4 d₀) hm, if_neg hpath]
    exact ⟨rfl, entries_nil_of_od rfl⟩

end

section
/-! SUPPORT. Laws of the entries that clear counts: the rows of the per-unit ones, and what a 1 written to each does. -/

namespace Sys2Proof.Machine

/-! ## Entries of numbered objects -/

section
variable {i j k s lo hi : Nat} {d : Dev} {r : Row}

theorem object_of_entry (i : Nat) (h : s < 256) : (i * 256 + s) / 256 = i := by omega

theorem sub_of_entry (i : Nat) (h : s < 256) : (i * 256 + s) % 256 = s := by omega

/-- An entry of an object between `lo` and `hi` is none of an object outside. -/
theorem ne_of_object (h : lo ≤ k / 256) (h' : k / 256 < hi) (hj : j / 256 < lo ∨ hi ≤ j / 256) : k ≠ j := by
  rintro rfl
  omega

theorem objRows_rx (p : Fin 128) : objRows (0x2000 + p) = rowsRx := by
  unfold objRows
  simp (disch := omega) only [if_pos, if_neg]

theorem objRows_ea (p : Fin 128) : objRows (0x3500 + p) = rowsEa := by
  unfold objRows
  simp (disch := omega) only [if_pos, if_neg]

theorem objRows_ar (p : Fin 16) : objRows (0x3410 + p) = rowsAr := by
  unfold objRows
  simp (disch := omega) only [if_pos, if_neg]

/-- The row of an entry of no slot stands in the table of its object. -/
theorem entryRow_of_objRows (h : s < 256) (hi : i < 0x1200 ∨ 0x1240 ≤ i) (hr : rowIn s (objRows i) = some r) :
    entryRow d (i * 256 + s) = some r := by
  simp only [entryRow, rowOf, object_of_entry i h, sub_of_entry i h, hr, Option.map_some]
  rw [if_neg (by omega)]

/-- Only the security object and the user partitions have entries with an answer of their own. -/
theorem answersItself_of_object (h : k / 256 ≠ 0x1800) (h' : k / 256 < 0x1A10 ∨ 0x1A14 ≤ k / 256) : answersItself k = false := by
  have hk : k ≠ K.x1800_OWNER_TOKEN := by rintro rfl; exact h rfl
  have hp : ¬(0x1A10 ≤ k / 256 ∧ k / 256 < 0x1A14) := by omega
  simp only [answersItself, beq_eq_false_iff_ne.mpr hk, ← Bool.decide_and, decide_eq_false hp, Bool.false_and, Bool.or_false]

/-! ## What a 1 written to COUNT_CLEAR does -/

/-- [rx:13] (R204). -/
theorem putOnce_of_rx (req : Nat) (h : 0x2000 ≤ k / 256) (h' : k / 256 < 0x2080) (hs : k % 256 = 0x13) (d : Dev) :
    putOnce req k 1 d = rxCountClear (k / 256 - 0x2000) d := by
  unfold putOnce
  dsimp only
  rw [if_neg (by omega), if_neg (ne_of_object h h' (by decide)), if_neg (by omega), if_neg (by omega), if_neg (by decide)]
  iterate 8 rw [if_neg (ne_of_object h h' (by decide))]
  rw [if_neg (by omega), if_pos ⟨h, h'⟩, if_neg (by omega)]

/-- [ar:11] (R517). -/
theorem putOnce_of_ar (req : Nat) (h : 0x3410 ≤ k / 256) (h' : k / 256 < 0x3420) (d : Dev) :
    putOnce req k 1 d = clearSubs (k / 256) 0xC 0x10 d := by
  unfold putOnce
  dsimp only
  rw [if_neg (by omega), if_neg (ne_of_object h h' (by decide)), if_neg (by omega), if_neg (by omega), if_neg (by decide)]
  iterate 8 rw [if_neg (ne_of_object h h' (by decide))]
  iterate 3 rw [if_neg (by omega)]
  rw [if_pos ⟨h, h'⟩]

/-- [ea:0A] (R500). -/
theorem putOnce_of_ea (req : Nat) (h : 0x3500 ≤ k / 256) (h' : k / 256 < 0x3580) (d : Dev) :
    putOnce req k 1 d = clearSubs (k / 256) 6 7 d := by
  unfold putOnce
  dsimp only
  rw [if_neg (by omega), if_neg (ne_of_object h h' (by decide)), if_neg (by omega), if_neg (by omega), if_neg (by decide)]
  iterate 8 rw [if_neg (ne_of_object h h' (by decide))]
  iterate 4 rw [if_neg (by omega)]
  rw [if_pos ⟨h, h'⟩]

end

/-! ## Cleared counts -/

/-- Clearing touches the entries alone. -/
theorem clearAll_eq (ks : List Nat) (d : Dev) : clearAll ks d = { d with od := (clearAll ks d).od } := by
  unfold clearAll
  induction ks generalizing d with
  | nil => rfl
  | cons k r ih => exact ih (wr k 0 d)

theorem sameRest_clearAll (ks : List Nat) (d : Dev) : SameRest d (clearAll ks d) := by
  unfold SameRest
  rw [clearAll_eq]

/-- The entries of a cleared set read 0, in whatever order they were cleared. -/
theorem entries_clearAll_of_mem {ks l : List Nat} {d d' : Dev} (h : d'.od = d.od) (hl : ∀ j, j ∈ l ↔ j ∈ ks) :
    Entries (l.map fun k => (k, 0)) d (clearAll ks d') := by
  intro j
  rw [entries_clearAll ks h j, tabFind_zeros, tabFind_zeros]
  simp only [hl j]

section
variable {c : Instr} {t : Ps} {acc : Access} {k : Nat} {b : List Byte} {s : State} {r : Row}

/-- An accepted 1 written to an entry that clears sub-indices `a` to `e` of an object sets these to 0, and changes nothing else. -/
theorem clears_of_accepted {i a e n : Nat} (hc : exec c s = actWrite t acc k 0 b false s) (h : Accepted t acc k 1 b s)
    (hr : entryRow (arrive t s.dev) k = some r) (ha : r.acc = .wo) (hk : answersItself k = false)
    (hput : ∀ req d, putOnce req k 1 d = clearSubs i a e d) (hn : e + 1 - a = n) :
    Makes c s fun d => Entries ((List.range n).map fun j => (i * 256 + a + j, 0)) (arrive t s.dev) d ∧ SameRest (atWrite t acc k s) d := by
  refine makes_of_accepted_once hc h hr ha hk ?_
  rw [hput, clearSubs, hn]
  refine ⟨?_, sameRest_clearAll _ _⟩
  have := entries_clearAll ((List.range n).map fun j => i * 256 + a + j) (d := arrive t s.dev) (d' := atWrite t acc k s) rfl
  rwa [List.map_map] at this

/-- The five counts of a receiver are its sub-indices 0D to 0F, 11 and 12. -/
theorem mem_rxCounts (p j : Nat) :
    j ∈ ((List.range 3).map fun n => (0x2000 + p) * 256 + 0xD + n) ++ ((List.range 2).map fun n => (0x2000 + p) * 256 + 0x11 + n) ↔
      j ∈ [K.rx_CRC_ERRORS p, K.rx_LOCK_COUNT p, K.rx_DROP_COUNT p, K.rx_PRBS_ERRORS p, K.rx_PRBS_BITS p] := by
  simp only [List.range_succ, List.range_zero, List.nil_append, List.map_cons, List.map_nil, List.cons_append, List.mem_cons,
    List.not_mem_nil, or_false, K.rx_CRC_ERRORS, K.rx_LOCK_COUNT, K.rx_DROP_COUNT, K.rx_PRBS_ERRORS, K.rx_PRBS_BITS]
  omega

/-- An accepted 1 written to [rx:13] clears the counts of the receiver, and its checker counts from there (R204). -/
theorem rxCountClear_makes {port : Fin 128} (h : Accepted t acc (K.rx_COUNT_CLEAR port) 1 b s) :
    let a := atWrite t acc (K.rx_COUNT_CLEAR port) s
    Makes (.rxCountClear t acc port b) s fun d =>
      Entries (((List.range 3).map fun n => ((0x2000 + port.val) * 256 + 0xD + n, 0)) ++
        (List.range 2).map fun n => ((0x2000 + port.val) * 256 + 0x11 + n, 0)) (arrive t s.dev) d ∧
        (rx d port).prbsAt = (arrive t s.dev).now ∧ { d with od := a.od, lanes := a.lanes } = a := by
  intro a
  have hi : K.rx_COUNT_CLEAR port / 256 = 0x2000 + port := object_of_entry _ (by decide)
  have hs : K.rx_COUNT_CLEAR port % 256 = 0x13 := sub_of_entry _ (by decide)
  refine makes_of_accepted_once rfl h (entryRow_of_objRows (by decide) (by omega) (by rw [objRows_rx]; rfl)) rfl
    (answersItself_of_object (by omega) (by omega)) ?_
  rw [putOnce_of_rx _ (by omega) (by omega) hs, hi, Nat.add_sub_cancel_left, rxCountClear]
  refine ⟨?_, ?_, ?_⟩
  · have := entries_clearAll_of_mem (d := arrive t s.dev) (d' := a) rfl (mem_rxCounts port)
    rw [List.map_append, List.map_map, List.map_map] at this
    exact this.of_od rfl
  · rw [rx, modRx, tabGet_tabMod, if_pos rfl]
    rfl
  · rw [clearAll_eq]; rfl

end

end Sys2Proof.Machine
end

section
open Sys2Proof Sys2Proof.Machine

/-- Settles O12: it holds. Each accepted write meets a WO entry of no answer of its own, whose one act clears its sub-indices and leaves the
rest of the block. -/
theorem countsClear : Obligations.CountsClear := by
  unfold Obligations.CountsClear
  intro t acc b port unit s d₀ zeros clears
  have hea : K.ea_COUNT_CLEAR port / 256 = 0x3500 + port := object_of_entry _ (by decide)
  have har : K.ar_COUNT_CLEAR unit / 256 = 0x3410 + unit := object_of_entry _ (by decide)
  refine ⟨fun h => ?_, fun h => ?_, fun h => ?_, fun h => ?_, fun h => ?_, fun h => ?_, rxCountClear_makes⟩
  iterate 4 · exact clears_of_accepted rfl h rfl rfl rfl (fun _ _ => rfl) rfl
  · exact clears_of_accepted rfl h (entryRow_of_objRows (by decide) (by omega) (by rw [objRows_ea]; rfl)) rfl
      (answersItself_of_object (by omega) (by omega))
      (fun req d => by rw [putOnce_of_ea req (by omega) (by omega), hea]) rfl
  · exact clears_of_accepted rfl h (entryRow_of_objRows (by decide) (by omega) (by rw [objRows_ar]; rfl)) rfl
      (answersItself_of_object (by omega) (by omega))
      (fun req d => by rw [putOnce_of_ar req (by omega) (by omega), har]) rfl

end

section
/-! SUPPORT. Laws of the budget governor and of the sampled levels: what a tick, an estimate, a dispatch and a sample change. -/

namespace Sys2Proof.Machine

/-! ## Bits set one after the other -/

theorem bitAt_eq_testBit (v n : Nat) : bitAt v n = v.testBit n := by
  rw [bitAt, Nat.testBit_eq_decide_div_mod_eq, Bool.beq_eq_decide_eq]

/-- A bit set above all others of a number adds its weight. -/
theorem setBitAt_of_lt {v n : Nat} (h : v < 2 ^ n) (b : Bool) : setBitAt v n b = 2 ^ n * b.toNat + v := by
  have h0 : v / 2 ^ n = 0 := Nat.div_eq_of_lt h
  cases b <;> simp [setBitAt, setFld, fld, h0, Nat.add_comm]

/-- The number whose bits below `n` are given by `f`, set in rising order. -/
theorem foldl_setBitAt (f : Nat → Bool) (n : Nat) :
    let v := (List.range n).foldl (fun a i => setBitAt a i (f i)) 0
    v < 2 ^ n ∧ ∀ i, i < n → v.testBit i = f i := by
  induction n with
  | zero => exact ⟨Nat.one_pos, fun i h => absurd h (Nat.not_lt_zero i)⟩
  | succ n ih =>
    obtain ⟨hv, hb⟩ := ih
    rw [List.range_succ, List.foldl_append]
    dsimp only [List.foldl_cons, List.foldl_nil]
    rw [setBitAt_of_lt hv]
    refine ⟨?_, fun i hi => ?_⟩
    · have := Bool.toNat_le (f n)
      rw [Nat.pow_succ]
      have := Nat.mul_le_mul_left (2 ^ n) this
      omega
    · rw [Nat.testBit_two_pow_mul_add _ hv]
      split
      · next h => exact hb i h
      · obtain rfl : i = n := by omega
        rw [Nat.sub_self]
        cases f i <;> rfl

/-- GPIO_IN shows at each pin the level of the ball, at a driving pin its own (R841). -/
theorem bitAt_gpioIn (levels : Nat) (d : Dev) {n : Nat} (h : n < 32) :
    bitAt (rd (gpioIn levels d) K.x1020_GPIO_IN) n = if pinDrives d n then pinLevel d n else bitAt levels n := by
  rw [bitAt_eq_testBit, gpioIn, rd_wr, if_pos rfl]
  exact (foldl_setBitAt _ 32).2 n h

/-! ## Lists of counts -/

theorem getD_setAt {α : Type} (x v : α) : ∀ (l : List α) (i : Nat), i < l.length → (setAt l i v).getD i x = v
  | [], _, h => absurd h (Nat.not_lt_zero _)
  | _ :: _, 0, _ => rfl
  | _ :: r, i + 1, h => getD_setAt x v r i (Nat.lt_of_succ_lt_succ h)

/-! ## Dispatch of deferrable work (R185 to R187) -/

section
variable {row : Nat} {d : Dev}

theorem workRow_lt (k : WorkKind) : workRow k < 6 := by cases k <;> decide

/-- A unit handed out touches what is paid and whose turn it is, nothing else. -/
@[simp] theorem handOut_fields (row : Nat) (d : Dev) :
    (handOut row d).od = d.od ∧ (handOut row d).ctl.stopped = d.ctl.stopped ∧ (handOut row d).ctl.shareUsed = d.ctl.shareUsed := by
  unfold handOut
  split
  · split <;> exact ⟨rfl, rfl, rfl⟩
  · exact ⟨rfl, rfl, rfl⟩

/-- A kind other than host DMA gets one more paid unit. -/
theorem paid_handOut (hr : row ≠ 1) (h : row < d.ctl.paid.length) :
    (handOut row d).ctl.paid.getD row 0 = d.ctl.paid.getD row 0 + 1 := by
  rw [handOut, if_neg hr]
  exact getD_setAt _ _ _ _ h

/-- Host DMA pays the queue whose turn it is (R609). -/
theorem hostPaid_handOut {f q : Nat} (hr : row = 1) (h : nextHostQueue d = some (f, q)) :
    tabGet 0 (handOut row d).ctl.hostPaid q = tabGet 0 d.ctl.hostPaid q + 1 ∧ (handOut row d).ctl.paid = d.ctl.paid := by
  rw [handOut, if_pos hr, h]
  exact ⟨(tabGet_tabMod ..).trans (if_pos rfl), rfl⟩

/-- Work that waits, is not shed, finds its tokens and leaves what others are owed is paid for. -/
theorem dispatchWork_of_paid (hw : workWaits d row = true) (hs : workShed d row = false) (hc : workCost row ≤ rd d K.x5107_TOKENS_HELD)
    (ho : shareMet d row = true → workCost row + max (earlierCost d row) (owedOthers d row) ≤ rd d K.x5107_TOKENS_HELD) :
    dispatchWork row d = wr K.x5107_TOKENS_HELD (rd d K.x5107_TOKENS_HELD - workCost row) { handOut row d with ctl := { (handOut row d).ctl with
      stopped := setAt d.ctl.stopped row false
      shareUsed := setAt d.ctl.shareUsed row (d.ctl.shareUsed.getD row 0 + workCost row) } } := by
  have hn : ¬(shareMet d row = true ∧ rd d K.x5107_TOKENS_HELD < workCost row + Nat.max (earlierCost d row) (owedOthers d row)) :=
    fun h => Nat.not_lt.mpr (ho h.1) h.2
  obtain ⟨-, hst, hsh⟩ := handOut_fields row d
  rw [← hst, ← hsh, dispatchWork, hw, if_neg (by decide), if_neg (by simp [hs, hc]), if_neg hn]

/-- A kind that has its 1/64 waits while the tokens would not leave what earlier kinds ask for and the others are owed (R186). -/
theorem dispatchWork_of_owed (hw : workWaits d row = true) (hs : workShed d row = false) (hc : workCost row ≤ rd d K.x5107_TOKENS_HELD)
    (hm : shareMet d row = true)
    (ho : rd d K.x5107_TOKENS_HELD < workCost row + max (earlierCost d row) (owedOthers d row)) : dispatchWork row d = d := by
  rw [dispatchWork, hw, if_neg (by decide), if_neg (by simp [hs, hc]), if_pos ⟨hm, ho⟩]

/-- Without its tokens a kind that ran stops, and the stop is counted (R187). -/
theorem dispatchWork_of_dear (hw : workWaits d row = true) (hc : rd d K.x5107_TOKENS_HELD < workCost row)
    (hr : d.ctl.stopped.getD row false = false) :
    dispatchWork row d = countStop row { d with ctl := { d.ctl with stopped := setAt d.ctl.stopped row true } } := by
  rw [dispatchWork, hw, if_neg (by decide), if_pos (.inr hc), hr]
  rfl

end

end Sys2Proof.Machine
end

section
open Sys2Proof Sys2Proof.Machine

/-- Settles O24: it holds. The figures are written entry by entry; a dispatch pays, leaves or stops its kind by the one test that applies. How
paid host units are counted by queue is the model's reading (DEDUCED, log entry 45). -/
theorem governorFigures : Obligations.GovernorFigures := by
  unfold Obligations.GovernorFigures
  constructor
  · intro t s d₀ ha
    refine ⟨fun hdue => ?_, fun e hdue hw => ?_, fun l => ?_, ?_⟩
    · refine makes_of_act (f := fun d => if d.ctl.tokensAt + ms 1 ≤ d.now then tokenTick d else d) rfl ha ?_
      rw [if_pos hdue]
      exact ⟨((entries_nil_of_od rfl).cons_wr _ _).cons_wr _ _, rfl⟩
    · refine makes_of_wellFormed _ rfl hw ha ?_
      rw [if_pos hdue]
      iterate 8 refine Entries.cons_wr ?_ _ _
      exact entries_nil_of_od rfl
    · refine makes_of_act (f := gpioIn l.toNat) rfl ha ⟨?_, rfl, fun n hn => bitAt_gpioIn _ _ hn⟩
      rw [gpioIn, rd_wr, if_pos rfl]
      exact (entries_nil_of_od rfl).cons_wr _ _
    · exact makes_of_act (f := incSat 32 K.x1640_PFAIL_GLITCHES) rfl ha ⟨entries_incSat 32 _ _, rfl⟩
  · intro t k s d₀ ha hw row held
    refine ⟨fun hs hc ho hl => ?_, fun hs hc hm ho => ?_, fun hc hr h0 => ?_⟩
    · refine makes_of_act (f := dispatchWork row) rfl ha ?_
      rw [dispatchWork_of_paid hw hs hc ho]
      exact ⟨(entries_nil_of_od (handOut_fields row d₀).1).cons_wr _ _, rfl, rfl, fun hr => paid_handOut hr (hl ▸ workRow_lt k),
        fun _ _ => hostPaid_handOut⟩
    · exact makes_of_act (f := dispatchWork row) rfl ha (dispatchWork_of_owed hw hs hc hm ho)
    · refine makes_of_act (f := dispatchWork row) rfl ha ?_
      rw [dispatchWork_of_dear hw hc hr, countStop, if_neg h0]
      exact ⟨entries_incSat 32 _ _, rfl⟩

end

section
/-! SUPPORT. Laws of thermal management: what an event and a step of enforcement leave, and what a sample stores on its way to the level. -/

namespace Sys2Proof.Machine

/-! ## A command that goes on through a flush -/

/-- A command with well-formed operands that acts always makes what its meaning makes of the block at its instant. -/
theorem makes_of_wellFormed_always {c : Instr} {t : Ps} (f : Dev → Dev) {s : State} {P : Dev → Prop} {ok : Bool} {w : String}
    (e : exec c s = wellFormed ok w (actAlways t f s)) (hok : ok = true) (p : P (f (arrive t s.dev))) : Makes c s P :=
  ⟨_, e.trans (by rw [hok]; rfl), p⟩

theorem flush_of_alive {d : Dev} (h : alive d = true) : d.power.flush.isSome = false := by
  simp only [alive, Bool.and_eq_true] at h
  obtain ⟨⟨⟨hf, -⟩, -⟩, -⟩ := h
  simpa using hf

@[simp] theorem rd_modTherm (f : Thermal → Thermal) (d : Dev) (j : Nat) : rd (modTherm f d) j = rd d j := rfl

@[simp] theorem rd_withCtl (c : Ctl) (d : Dev) (j : Nat) : rd { d with ctl := c } j = rd d j := rfl

/-! ## Events -/

/-- Only the objects of the functions hold counts that an event may move. -/
theorem isLost_of_object {j : Nat} (h : j / 256 < 0x3C10 ∨ 0x3C50 ≤ j / 256) : isLost j = false := by
  refine List.any_eq_false.mpr fun f hf => ?_
  have := List.mem_range.mp hf
  simp only [Bool.or_eq_true, beq_iff_eq, K.fn_EVENTS_LOST, K.fn_BYTES_D2H]
  omega

theorem isLost_dieT {i : Nat} (h : i < 36) : isLost (K.x1601_DIE_T i) = false :=
  isLost_of_object (by unfold K.x1601_DIE_T; omega)

/-- A changed entry reads its new value; the others read as before, but for the two counts of a function. -/
theorem rd_change_of_not_lost {k v j : Nat} (h : isLost j = false) (d : Dev) : rd (change k v d) j = if k = j then v else rd d j := by
  unfold change
  split
  · next hv =>
    split
    · next hk => rw [← hk, hv]
    · rfl
  · exact (rd_raiseX_of_not_lost _ h).trans (rd_wr ..)

theorem rd_condition_of_not_lost {k j : Nat} (h : isLost j = false) (d : Dev) : rd (condition k d) j = rd d j :=
  rd_raiseX_of_not_lost _ h

theorem therm_deliverTo (e : Event) (q : Nat) (d : Dev) : (deliverTo e q d).therm = d.therm := by
  unfold deliverTo
  dsimp only
  split <;> rfl

theorem therm_raiseX (code entry old new dom q : Nat) (detail : List Byte) (sev : Option Nat) (d : Dev) :
    (raiseX code entry old new dom q detail sev d).therm = d.therm :=
  forAll_keeps _ _ Dev.therm (fun _ _ => therm_deliverTo _ _ _) _

@[simp] theorem therm_condition (k : Nat) (d : Dev) : (condition k d).therm = d.therm := therm_raiseX ..

@[simp] theorem therm_change (k v : Nat) (d : Dev) : (change k v d).therm = d.therm := by
  unfold change
  split
  · rfl
  · exact therm_raiseX ..

/-! ## Steps of enforcement (R758, R760, R761) -/

theorem rd_setShed {j : Nat} (h : isLost j = false) (n : Nat) (d : Dev) :
    rd (setShed n d) j = if K.x1602_SHED_STEP = j then n else rd d j := by
  unfold setShed
  split
  · next hn =>
    split
    · next hj => rw [← hj, hn]
    · rfl
  · exact rd_change_of_not_lost h _

theorem entered_setShed (n : Nat) (d : Dev) : (setShed n d).therm.entered = d.therm.entered := by
  unfold setShed
  split
  · rfl
  · rw [therm_change]; rfl

/-- A step of another value is taken now. -/
theorem stepAt_setShed {n : Nat} {d : Dev} (h : rd d K.x1602_SHED_STEP ≠ n) : (setShed n d).therm.stepAt = d.now := by
  rw [setShed, if_neg h, therm_change]
  rfl

/-- A new step moves SHED_STEP alone, and is dated. -/
theorem entriesE_setShed {n : Nat} {d : Dev} (h : rd d K.x1602_SHED_STEP ≠ n) :
    EntriesE [(K.x1602_SHED_STEP, n)] d (setShed n d) ∧ (setShed n d).therm.stepAt = d.now := by
  refine ⟨fun j hj => ?_, stepAt_setShed h⟩
  rw [rd_setShed hj, tabFind]
  split <;> rfl

/-- Enforcement keeps what a step and its date keep. -/
theorem enforceNext_keeps {β : Type} (g : Dev → β) (hs : ∀ n d, g (setShed n d) = g d)
    (ht : ∀ d, g (modTherm (fun t => { t with stepAt := d.now }) d) = g d) (was level : Nat) (d : Dev) :
    g (enforceNext was level d) = g d := by
  unfold enforceNext
  dsimp only
  split
  · exact hs ..
  · split
    · split
      · exact hs ..
      · split
        · split
          · exact hs ..
          · rfl
        · split
          · exact ht d
          · rfl
    · split
      · exact hs ..
      · rfl

theorem rd_enforceNext {j : Nat} (h : isLost j = false) (hj : K.x1602_SHED_STEP ≠ j) (was level : Nat) (d : Dev) :
    rd (enforceNext was level d) j = rd d j :=
  enforceNext_keeps (rd · j) (fun _ _ => (rd_setShed h ..).trans (if_neg hj)) (fun _ => rfl) was level d

theorem entered_enforceNext (was level : Nat) (d : Dev) : (enforceNext was level d).therm.entered = d.therm.entered :=
  enforceNext_keeps (·.therm.entered) entered_setShed (fun _ => rfl) was level d

/-! ## The request (R756, R757) -/

/-- The entries of the request: THROTTLE_FLAG and the two ceilings. -/
def requestKeys : List Nat := [K.x1602_THROTTLE_FLAG, K.x1602_CEILING_D2H_MBPS, K.x1602_CEILING_H2D_MBPS]

/-- The request keeps what its entries, its event and the end of the grace time keep. -/
theorem requestNext_keeps {β : Type} (g : Dev → β) (hw : ∀ k ∈ requestKeys, ∀ v d, g (wr k v d) = g d)
    (hc : ∀ d, g (condition K.x1602_THROTTLE_FLAG d) = g d) (ht : ∀ n d, g (modTherm (fun t => { t with graceEnd := n }) d) = g d)
    (was level : Nat) (d : Dev) : g (requestNext was level d) = g d := by
  have hflag := hw K.x1602_THROTTLE_FLAG (by decide)
  have hout := hw K.x1602_CEILING_D2H_MBPS (by decide)
  have hin := hw K.x1602_CEILING_H2D_MBPS (by decide)
  unfold requestNext
  dsimp only
  generalize hd : (if level = 0 then d else _) = d₁
  have h₁ : g d₁ = g d := by
    rw [← hd]
    split
    · rfl
    · rw [hout, hin]
  rw [← h₁]
  split
  · rw [hc, hflag, ht]
  · split
    · rw [hc, hflag, hout, hin]
    · rfl

theorem rd_requestNext {j : Nat} (h : isLost j = false) (hj : j ∉ requestKeys) (was level : Nat) (d : Dev) :
    rd (requestNext was level d) j = rd d j := by
  have hw (k : Nat) (hk : k ∈ requestKeys) (v : Nat) (d : Dev) : rd (wr k v d) j = rd d j :=
    (rd_wr ..).trans (if_neg (by rintro rfl; exact hj hk))
  exact requestNext_keeps (rd · j) hw (rd_condition_of_not_lost h) (fun _ _ => rfl) was level d

theorem entered_requestNext (was level : Nat) (d : Dev) : (requestNext was level d).therm.entered = d.therm.entered :=
  requestNext_keeps (·.therm.entered) (fun _ _ _ _ => rfl) (fun d => by rw [therm_condition]) (fun _ _ => rfl) was level d

/-! ## What a sample reports (R747, R750, R751) -/

/-- DIE_T as a sample of the sensor leaves it. -/
def dieReading (v : Option Int) : Nat :=
  match v with
  | none => 0x8000
  | some v => satTc 16 v

/-- Entries written one for each member of a list: those of its members read what was written, in whatever order. -/
theorem rd_forAll_wr {k : Nat → Nat} (v : Nat → Nat) (hk : ∀ a b, k a = k b → a = b) {i : Nat} :
    ∀ (l : List Nat) (d : Dev), rd (forAll l (fun a => wr (k a) (v a)) d) (k i) = if i ∈ l then v i else rd d (k i)
  | [], d => rfl
  | a :: l, d => by
    rw [forAll, List.foldl_cons, ← forAll, rd_forAll_wr v hk l, rd_wr]
    by_cases hl : i ∈ l
    · simp [hl]
    · by_cases ha : a = i
      · simp [ha]
      · simp [hl, Ne.symm ha, show k a ≠ k i from fun e => ha (hk _ _ e)]

/-- Outside the thermal status, a sample reports the sensors and nothing else. -/
theorem rd_reportSample {j : Nat} (h : isLost j = false) (hj : j / 256 ≠ 0x1602) (now : List (Option Int)) (d : Dev) :
    rd (reportSample now d) j = rd (forAll (List.range 36) (fun i => wr (K.x1601_DIE_T i) (dieReading (now.getD i none))) d) j := by
  have hw {k : Nat} (hk : k / 256 = 0x1602) (v : Nat) (d : Dev) : rd (wr k v d) j = rd d j :=
    (rd_wr ..).trans (if_neg (by rintro rfl; exact hj hk))
  unfold reportSample
  dsimp only
  rw [hw rfl, rd_modTherm, hw rfl]
  split
  · rw [hw rfl, hw rfl, onlyIf_keeps _ (rd · j) (rd_condition_of_not_lost h _), hw rfl]
    rfl
  · rw [onlyIf_keeps _ (rd · j) (rd_condition_of_not_lost h _), hw rfl]
    rfl

theorem rd_reportSample_dieT {i : Nat} (hi : i < 36) (now : List (Option Int)) (d : Dev) :
    rd (reportSample now d) (K.x1601_DIE_T i) = dieReading (now.getD i none) := by
  have hinj (a b : Nat) (e : K.x1601_DIE_T a = K.x1601_DIE_T b) : a = b := by
    unfold K.x1601_DIE_T at e
    omega
  rw [rd_reportSample (isLost_dieT hi) (by unfold K.x1601_DIE_T; omega), rd_forAll_wr _ hinj, if_pos (List.mem_range.mpr hi)]

/-- A sample leaves the thresholds. -/
theorem rd_reportSample_of_lt {j : Nat} (h : j < 0x1601 * 256) (now : List (Option Int)) (d : Dev) :
    rd (reportSample now d) j = rd d j := by
  rw [rd_reportSample (isLost_of_object (by omega)) (by omega)]
  exact forAll_keeps _ _ (rd · j) (fun i d => (rd_wr ..).trans (if_neg (by unfold K.x1601_DIE_T; omega))) d

/-! ## The level and k_T (R183, R755) -/

/-- k_T follows the readings, T_WARN and the derating of the stack sensors alone. -/
theorem kTOf_congr {d d' : Dev} (hw : rd d' K.x1600_T_WARN_C = rd d K.x1600_T_WARN_C)
    (hs : rd d' K.x1600_STACK_DERATE_C = rd d K.x1600_STACK_DERATE_C) (now : List (Option Int)) (level : Nat) :
    kTOf d' now level = kTOf d now level := by
  have he : effective d' = effective d := by
    funext j v
    rw [effective, effective, hs]
  have ht : thresholdAt d' 0 = thresholdAt d 0 := by
    funext j
    simp only [thresholdAt, Nat.add_zero, hw, hs]
  have hh : hottest d' now = hottest d now := by rw [hottest, hottest, he]
  unfold kTOf
  rw [hh, he, ht]

/-- The thresholds and the limit that stand entered after a sample (R754). -/
def enteredAfter (d : Dev) (now : List (Option Int)) : List Bool := (List.range 5).map fun i => enteredNext d (runsNext d now i) i

/-- The level that a sample gives. -/
def levelAfter (d : Dev) (now : List (Option Int)) : Nat := levelOf (enteredAfter d now) (regionBlind now)

/-- What is entered is judged by each threshold's own runs. -/
theorem entered_of_runs (d : Dev) (now : List (Option Int)) :
    ((List.range 5).map fun i => enteredNext d (((List.range 5).map (runsNext d now)).getD i []) i) = enteredAfter d now := rfl

/-- Short of TRIP, a sample stores readings, runs and k_T in a block `d₁`; then the level changes, and request and enforcement follow it. -/
theorem thermalSample_stages {d : Dev} {now : List (Option Int)} (h : levelAfter d now ≠ 4) :
    ∃ d₁, thermalSample now d =
        enforceNext (rd d K.x1602_THERMAL_LEVEL) (levelAfter d now)
          (requestNext (rd d K.x1602_THERMAL_LEVEL) (levelAfter d now) (change K.x1602_THERMAL_LEVEL (levelAfter d now) d₁)) ∧
      rd d₁ K.x5107_K_T = kTOf d now (levelAfter d now) * 1024 / 160 ∧ d₁.therm.entered = enteredAfter d now ∧
      ∀ i, i < 36 → rd d₁ (K.x1601_DIE_T i) = dieReading (now.getD i none) := by
  unfold thermalSample
  dsimp only
  rw [entered_of_runs, ← levelAfter, if_neg h]
  refine ⟨_, rfl, ?_, rfl, fun i hi => ?_⟩
  · have hk {j : Nat} (hj : j < 0x1601 * 256) (c : Bool) (now' : List (Option Int)) :
        rd (reportSample now' (thermalSample.incSatIf c d)) j = rd d j :=
      (rd_reportSample_of_lt hj ..).trans
        (onlyIf_keeps c (rd · j) ((rd_incSat ..).trans (if_neg (by unfold K.x1602_CRIT_ENTRIES; omega))))
    rw [rd_wr, if_pos rfl]
    refine congrArg (· * 1024 / 160) (kTOf_congr ?_ ?_ now _) <;>
      rw [rd_withCtl, rd_wr, if_neg (by decide), rd_modTherm, hk (by decide)]
  · have hne {k : Nat} (hk : k / 256 ≠ 0x1601) : k ≠ K.x1601_DIE_T i := by
      rintro rfl
      exact hk (by unfold K.x1601_DIE_T; omega)
    rw [rd_wr, if_neg (hne (by decide)), rd_withCtl, rd_wr, if_neg (hne (by decide)),
      rd_modTherm, rd_reportSample_dieT hi]

/-- After the level has changed, the request and enforcement move only their own entries. -/
theorem rd_of_level_change {j : Nat} (h : isLost j = false) (hj : j ∉ K.x1602_SHED_STEP :: requestKeys) (was level : Nat) (d : Dev) :
    rd (enforceNext was level (requestNext was level (change K.x1602_THERMAL_LEVEL level d))) j =
      if K.x1602_THERMAL_LEVEL = j then level else rd d j := by
  obtain ⟨hs, hr⟩ := List.ne_and_not_mem_of_not_mem_cons hj
  rw [rd_enforceNext h (Ne.symm hs), rd_requestNext h hr, rd_change_of_not_lost h]

end Sys2Proof.Machine
end

section
open Sys2Proof Sys2Proof.Machine

/-- Settles O50: it holds. A sample short of TRIP stores what it reports before the level moves, and what follows the level leaves it; each
command of enforcement takes a step of another value, which is dated. -/
theorem thermalManagement : Obligations.ThermalManagement := by
  unfold Obligations.ThermalManagement
  intro t s d₀ ha n stepped
  refine ⟨fun r hw hdue => ?_, fun hf h2 hg hn => ?_, fun h2 h1 h2' hs => ?_, fun h2 h1 hs => ?_⟩
  · intro e level hl
    obtain ⟨d₁, hd, hk, he, hdie⟩ := thermalSample_stages (d := d₀) (now := r) hl
    refine makes_of_wellFormed_always _ rfl hw ?_
    rw [show arrive t s.dev = d₀ from rfl, hdue, flush_of_alive ha, ha, if_neg (by decide), if_neg (by decide), if_pos rfl, hd]
    refine ⟨?_, ?_, ?_, fun i hi => ?_, fun h3 => ?_⟩
    · exact rd_of_level_change (isLost_of_object (by decide)) (by decide) ..
    · exact (rd_of_level_change (isLost_of_object (by decide)) (by decide) ..).trans hk
    · rw [entered_enforceNext, entered_requestNext, therm_change, he]
      rfl
    · rw [rd_of_level_change (isLost_dieT hi), if_neg, hdie i hi]
      · cases r.getD i none <;> rfl
      · unfold K.x1601_DIE_T K.x1602_THERMAL_LEVEL; omega
      · have hkeys : ∀ k ∈ K.x1602_SHED_STEP :: requestKeys, k / 256 = 0x1602 := by decide
        exact fun hm => absurd (hkeys _ hm) (by unfold K.x1601_DIE_T; omega)
    · rw [show levelAfter d₀ r = 3 from h3]
      exact (rd_setShed (isLost_of_object (by decide)) ..).trans (if_pos rfl)
  · refine makes_of_act rfl ha ?_
    rw [if_pos ⟨hf, h2, hg, hn⟩]
    exact entriesE_setShed (by omega)
  · refine makes_of_act rfl ha ?_
    rw [if_pos ⟨h2, h1, h2', hs⟩]
    exact entriesE_setShed (by omega)
  · refine makes_of_act rfl ha ?_
    rw [if_pos ⟨h2, h1, hs⟩]
    exact entriesE_setShed (by omega)

end

section
/-! SUPPORT. Laws of input pipelines and of their frame stores: what the lock sources, the links and the state of an input leave, what a slot
taken, written or published leaves, and where a frame boundary and a loss of signal leave the frame in progress. -/

namespace Sys2Proof.Machine

/-! ## Stores and inputs after an update -/

@[simp] theorem store_modStore (p : Nat) (f : Store → Store) (d : Dev) : store (modStore p f d) p = f (store d p) :=
  (tabGet_tabMod ..).trans (if_pos rfl)

@[simp] theorem inp_modInp (p : Nat) (f : Inp → Inp) (d : Dev) : inp (modInp p f d) p = f (inp d p) :=
  (tabGet_tabMod ..).trans (if_pos rfl)

theorem store_modInp (q : Nat) (f : Inp → Inp) (d : Dev) (p : Nat) : store (modInp q f d) p = store d p := rfl

theorem store_of_stores {d d' : Dev} (h : d'.video.stores = d.video.stores) (p : Nat) : store d' p = store d p := by
  rw [store, store, h]

theorem inp_of_inp {d d' : Dev} (h : d'.video.inp = d.video.inp) (p : Nat) : inp d' p = inp d p := by
  rw [inp, inp, h]

/-- The instant, the control block and the parts that work reduced: what decides the audio and the commits of a frame boundary. -/
def boundaryView (d : Dev) : Ps × Ctl × Nat := (d.now, d.ctl, rd d K.x1C40_REDUCED)

theorem now_of_boundaryView {d d' : Dev} (h : boundaryView d' = boundaryView d) : d'.now = d.now := congrArg Prod.fst h

theorem ctl_of_boundaryView {d d' : Dev} (h : boundaryView d' = boundaryView d) : d'.ctl = d.ctl := congrArg (·.2.1) h

theorem audioOn_of_boundaryView {d d' : Dev} (h : boundaryView d' = boundaryView d) : audioOn d' = audioOn d :=
  congrArg (fun x : Ps × Ctl × Nat => !bitAt x.2.2 14) h

theorem boundaryView_wr {i s : Nat} (hi : i ≠ 0x1C40) (hs : s < 256) (v : Nat) (d : Dev) :
    boundaryView (wr (i * 256 + s) v d) = boundaryView d := by
  rw [boundaryView, rd_wr, if_neg (by unfold K.x1C40_REDUCED; omega)]
  rfl

theorem deliverTo_nowCtlVideo (e : Event) (q : Nat) (d : Dev) :
    ((deliverTo e q d).now, (deliverTo e q d).ctl, (deliverTo e q d).video) = (d.now, d.ctl, d.video) := by
  unfold deliverTo
  dsimp only
  split <;> rfl

/-- An event moves neither time nor the control block nor video. -/
theorem raise_nowCtlVideo (code entry old new : Nat) (d : Dev) :
    ((raise code entry old new d).now, (raise code entry old new d).ctl, (raise code entry old new d).video) = (d.now, d.ctl, d.video) :=
  forAll_keeps _ _ (fun d => (d.now, d.ctl, d.video)) (fun _ => deliverTo_nowCtlVideo _ _) _

theorem video_raise (code entry old new : Nat) (d : Dev) : (raise code entry old new d).video = d.video :=
  congrArg (·.2.2) (raise_nowCtlVideo code entry old new d)

theorem boundaryView_modStore (p : Nat) (f : Store → Store) (d : Dev) : boundaryView (modStore p f d) = boundaryView d := rfl

theorem boundaryView_keepShown (p : Nat) (f : Frame) (d : Dev) : boundaryView (keepShown p f d) = boundaryView d := rfl

theorem boundaryView_raise (code entry old new : Nat) (d : Dev) : boundaryView (raise code entry old new d) = boundaryView d := by
  have h := raise_nowCtlVideo code entry old new d
  rw [boundaryView, show (raise code entry old new d).now = d.now from congrArg Prod.fst h,
    show (raise code entry old new d).ctl = d.ctl from congrArg (·.2.1) h]
  exact congrArg (fun r => (d.now, d.ctl, r)) (rd_raiseX_of_not_lost d (isLost_of_object (by decide)))

/-- `forAll` keeps what every one of its members keeps. -/
theorem forAll_keeps_of_mem {α β : Type} (g : Dev → β) {f : α → Dev → Dev} :
    ∀ (l : List α), (∀ a ∈ l, ∀ d, g (f a d) = g d) → ∀ d, g (forAll l f d) = g d
  | [], _, _ => rfl
  | a :: l, h, d =>
    (forAll_keeps_of_mem g l (fun b hb => h b (List.mem_cons_of_mem a hb)) (f a d)).trans (h a List.mem_cons_self d)

/-! ## The generators that follow an input (R655) -/

section
variable {β : Type} {g : Dev → β}

/-- `g` looks at no event, at no timing generator's own state and at no entry of the clocks (objects 0x1400 to 0x145F). -/
structure ApartFromTgs (g : Dev → β) : Prop where
  raise : ∀ code entry old new d, g (raise code entry old new d) = g d
  wr : ∀ {i s : Nat} (v : Nat) (d : Dev), 0x1400 ≤ i → i < 0x1460 → s < 256 → g (wr (i * 256 + s) v d) = g d
  modTg : ∀ n f d, g (modTg n f d) = g d

theorem change_keeps {k v : Nat} {d : Dev} (hr : ∀ code entry old new d, g (raise code entry old new d) = g d)
    (hw : g (wr k v d) = g d) : g (change k v d) = g d := by
  unfold change
  split
  · rfl
  · exact (hr ..).trans hw

namespace ApartFromTgs
variable (h : ApartFromTgs g)
include h

theorem tgLeaveLocked (n : Nat) (d : Dev) : g (tgLeaveLocked n d) = g d := by
  unfold Machine.tgLeaveLocked
  dsimp only
  split
  · rfl
  · exact h.modTg ..

theorem tgAim (n : Nat) (a b : Int) (d : Dev) : g (tgAim n a b d) = g d := h.modTg ..

theorem tgState {n : Nat} (hn : n < 8) (st : Nat) (d : Dev) : g (change (K.tg_TG_STATE n) st d) = g d :=
  change_keeps h.raise (h.wr _ _ (by omega) (by omega) (by omega))

theorem tgBivouac {n : Nat} (hn : n < 8) (held : Bool) (d : Dev) : g (tgBivouac n held d) = g d := by
  unfold Machine.tgBivouac
  split
  · rfl
  · have hw {s : Nat} (hs : s < 256) (v : Nat) (d : Dev) : g (Machine.wr ((0x1450 + n) * 256 + s) v d) = g d :=
      h.wr v d (by omega) (by omega) hs
    refine (h.tgState hn ..).trans ((hw (by decide) ..).trans ((hw (by decide) ..).trans ?_))
    exact (h.tgAim ..).trans ((h.modTg ..).trans (h.tgLeaveLocked ..))

theorem inputRefLost (p : Nat) (d : Dev) : g (inputRefLost p d) = g d := by
  refine forAll_keeps_of_mem g _ (fun n hn d => ?_) d
  exact (h.tgBivouac (List.mem_range.mp (List.mem_filter.mp hn).1) ..).trans (h.modTg ..)

theorem tgWander {n : Nat} (hn : n < 8) (t : Ps) (ppb : Option Int) (d : Dev) : g (tgWander t ppb n d) = g d := by
  unfold Machine.tgWander
  split
  · rfl
  · dsimp only
    have hf (c : Bool) (a b : Int) : g (onlyIf c (Machine.tgAim n a b) d) = g d := onlyIf_keeps c g (h.tgAim ..)
    split
    · exact hf ..
    · split
      · exact hf ..
      · have herr (v : Nat) (f f' : Tg → Tg) (d : Dev) :
            g (Machine.wr (K.tgl_PHASE_ERROR_NS n) v (Machine.modTg n f (Machine.modTg n f' d))) = g d :=
          (h.wr v _ (by omega) (by omega) (by decide)).trans ((h.modTg ..).trans (h.modTg ..))
        split
        · exact (herr ..).trans (hf ..)
        · exact (h.tgAim ..).trans ((h.tgState hn ..).trans ((h.tgLeaveLocked ..).trans ((herr ..).trans (hf ..))))

theorem tgsFollow (p period : Nat) (d : Dev) : g (tgsFollow p period d) = g d :=
  forAll_keeps_of_mem g _ (fun _ hn _ => h.tgWander (List.mem_range.mp (List.mem_filter.mp hn).1) ..) d

/-- A boundary as a reference pulse moves the input's own record, the generators locked to it, and two counts. -/
theorem inputPulse {p : Nat} (hm : ∀ f d, g (modInp p f d) = g d) (period : Nat) (d : Dev) : g (inputPulse p period d) = g d := by
  have hcount {s : Nat} (hs : s < 256) (d : Dev) : g (incSat 32 (0x1410 * 256 + s) d) = g d :=
    h.wr _ d (by decide) (by decide) hs
  unfold Machine.inputPulse
  dsimp only
  split
  · rfl
  · split
    · split
      · split
        · exact (h.inputRefLost ..).trans ((hm ..).trans (hm ..))
        · exact (h.tgsFollow ..).trans ((hm ..).trans (hm ..))
      · exact (h.inputRefLost ..).trans ((hm ..).trans ((hm ..).trans (hcount (by decide) _)))
      · exact (h.inputRefLost ..).trans ((hm ..).trans (hm ..))
      · exact (hm ..).trans (hcount (by decide) _)
    · exact (onlyIf_keeps _ g (hm ..)).trans (hm ..)

end ApartFromTgs

/-! ## What an input reports (R258 to R264, R277, R307) -/

/-- `g` looks, besides, neither at the record that the pipeline of input `p` keeps nor at an entry of links and inputs (objects 0x2200 to
0x247F). -/
structure ApartFromInput (p : Nat) (g : Dev → β) : Prop extends ApartFromTgs g where
  wrPort : ∀ {i s : Nat} (v : Nat) (d : Dev), 0x2200 ≤ i → i < 0x2480 → s < 256 → g (Machine.wr (i * 256 + s) v d) = g d
  modInp : ∀ f d, g (modInp p f d) = g d

namespace ApartFromInput
variable {p : Nat} (h : ApartFromInput p g) (hp : p < 128)
include h hp

theorem wrLink {s : Nat} (hs : s < 256) (v : Nat) (d : Dev) : g (Machine.wr ((0x2200 + p / 4) * 256 + s) v d) = g d :=
  h.wrPort v d (by omega) (by omega) hs

theorem wrInput {s : Nat} (hs : s < 256) (v : Nat) (d : Dev) : g (Machine.wr ((0x2400 + p) * 256 + s) v d) = g d :=
  h.wrPort v d (by omega) (by omega) hs

theorem noteLinks (f : RxFrame) (d : Dev) : g (noteLinks p f d) = g d := by
  refine (h.wrLink hp (by decide) _ _).trans ((onlyIf_keeps _ g (h.wrLink hp (by decide) _ _)).trans ?_)
  exact (onlyIf_keeps _ g (h.wrLink hp (by decide) _ _)).trans (h.modInp ..)

theorem judgeSkew (skewNs : Nat) (d : Dev) : g (judgeSkew p skewNs d) = g d := by
  unfold Machine.judgeSkew
  dsimp only
  generalize hd : Machine.wr (if p % 4 < 2 then _ else _) _ d = d₁
  have hskew : g d₁ = g d := by
    rw [← hd]
    split
    · exact h.wrLink hp (by decide) ..
    · exact h.wrLink hp (by decide) ..
  split
  · split
    · exact (h.modInp ..).trans hskew
    · exact (h.raise ..).trans ((h.wrLink hp (s := 6) (by decide) ..).trans ((h.modInp ..).trans hskew))
  · exact (h.modInp ..).trans hskew

theorem reportFrame (f : RxFrame) (d : Dev) : g (reportFrame p f d) = g d := by
  have hw {s : Nat} (hs : s < 256) (v : Nat) (d : Dev) : g (Machine.wr ((0x2400 + p) * 256 + s) v d) = g d := h.wrInput hp hs v d
  unfold Machine.reportFrame
  dsimp only
  refine (h.modInp ..).trans (Eq.trans (onlyIf_keeps _ g ?_) (Eq.trans (onlyIf_keeps _ g ?_) ?_))
  · exact h.raise ..
  · exact h.raise ..
  exact (hw (by decide) ..).trans ((hw (by decide) ..).trans ((hw (by decide) ..).trans (hw (by decide) ..)))

theorem inputState (st : Nat) (d : Dev) : g (inputState p st d) = g d := by
  unfold Machine.inputState
  refine Eq.trans (onlyIf_keeps _ g ?_) (Eq.trans (onlyIf_keeps _ g ?_) (Eq.trans (onlyIf_keeps _ g ?_) ?_))
  · exact (h.inputRefLost ..).trans (h.modInp ..)
  · exact h.modInp ..
  · exact h.wrInput hp (by decide) ..
  · exact change_keeps h.raise (h.wrInput hp (by decide) ..)

end ApartFromInput
end

theorem apartFromTgs_rd {j : Nat} (hl : isLost j = false) (hj : j / 256 < 0x1400 ∨ 0x1460 ≤ j / 256) : ApartFromTgs (rd · j) where
  raise _ _ _ _ _ := rd_raiseX_of_not_lost _ hl
  wr _ _ _ _ _ := (rd_wr ..).trans (if_neg (by omega))
  modTg _ _ _ := rfl

theorem apartFromTgs_inp : ApartFromTgs (·.video.inp) where
  raise _ _ _ _ _ := congrArg Video.inp (video_raise ..)
  wr _ _ _ _ _ := rfl
  modTg _ _ _ := rfl

theorem apartFromInput_boundaryView (p : Nat) : ApartFromInput p boundaryView where
  raise := boundaryView_raise
  wr v d _ _ hs := boundaryView_wr (by omega) hs v d
  modTg _ _ _ := rfl
  wrPort v d _ _ hs := boundaryView_wr (by omega) hs v d
  modInp _ _ := rfl

theorem apartFromInput_stores (p : Nat) : ApartFromInput p (·.video.stores) where
  raise _ _ _ _ _ := congrArg Video.stores (video_raise ..)
  wr _ _ _ _ _ := rfl
  modTg _ _ _ := rfl
  wrPort _ _ _ _ _ := rfl
  modInp _ _ := rfl

/-- INPUT_STATE reads what it took (R277). -/
theorem rd_inputState {p : Nat} (hp : p < 128) (st : Nat) (d : Dev) : rd (inputState p st d) (K.ip_INPUT_STATE p) = st := by
  have hobj : K.ip_INPUT_STATE p / 256 = 0x2400 + p := object_of_entry (s := 9) _ (by decide)
  have hl : isLost (K.ip_INPUT_STATE p) = false := isLost_of_object (by omega)
  unfold inputState
  refine Eq.trans (onlyIf_keeps _ (rd · _) ?_) (Eq.trans (onlyIf_keeps _ (rd · _) ?_) (Eq.trans (onlyIf_keeps _ (rd · _) ?_) ?_))
  · exact (apartFromTgs_rd hl (by omega)).inputRefLost ..
  · rfl
  · exact (rd_incSat ..).trans (if_neg (by unfold K.ip_FORMAT_CHANGES K.ip_INPUT_STATE; omega))
  · exact (rd_change_of_not_lost hl d).trans (if_pos rfl)

/-- A state of its input leaves the run of frames of one structure (R262). -/
theorem run_inputState (p st : Nat) (d : Dev) : (inp (inputState p st d) p).run = (inp d p).run := by
  have hv {d d' : Dev} (e : d'.video.inp = d.video.inp) : (inp d' p).run = (inp d p).run := by rw [inp_of_inp e]
  unfold inputState
  refine Eq.trans (onlyIf_keeps _ (fun d => (inp d p).run) ?_) (Eq.trans (onlyIf_keeps _ (fun d => (inp d p).run) ?_)
    (Eq.trans (onlyIf_keeps _ (fun d => (inp d p).run) rfl) (hv (change_keeps (g := (·.video.inp)) apartFromTgs_inp.raise rfl))))
  · exact (hv (apartFromTgs_inp.inputRefLost ..)).trans (by rw [inp_modInp])
  · rw [inp_modInp]

/-! ## Slots and publication (R273, R274) -/

/-- The writer takes a slot by an update of the store that leaves the frame in progress and its number; a frame that is overwritten stays
with those who show it. -/
theorem takeSlot_eq (id : Nat) (d : Dev) : ∃ f : Store → Store, (∀ s, (f s).prog = s.prog ∧ (f s).nextNum = s.nextNum) ∧
    (takeSlot id d = modStore id f d ∨ ∃ x, takeSlot id d = keepShown id x (modStore id f d)) := by
  unfold takeSlot
  dsimp only
  by_cases hfree : (store d id).frames.length + (if (store d id).pending.isSome = true then 1 else 0) < (store d id).depth
  · rw [if_pos hfree]
    exact ⟨_, by exact fun _ => ⟨rfl, rfl⟩, .inl rfl⟩
  · rw [if_neg hfree]
    cases (store d id).frames.find? fun x => !isHeld d id x.num && x.num != newestNum (store d id) with
    | none => exact ⟨_, by exact fun _ => ⟨rfl, rfl⟩, .inl rfl⟩
    | some x => exact ⟨_, by exact fun _ => ⟨rfl, rfl⟩, .inr ⟨x, rfl⟩⟩

section
variable {β : Type} {g : Dev → β} {p : Nat}

/-- A slot taken moves nothing but the store and what is shown of it. -/
theorem takeSlot_keeps (hs : ∀ f d, g (modStore p f d) = g d) (hk : ∀ x d, g (keepShown p x d) = g d) (d : Dev) :
    g (takeSlot p d) = g d := by
  obtain ⟨f, -, h | ⟨x, h⟩⟩ := takeSlot_eq p d
  · rw [h, hs]
  · rw [h, hk, hs]

theorem tieFresh_keeps (ht : ∀ b f d, g (modTie b f d) = g d) (d : Dev) : g (tieFresh p d) = g d := by
  unfold tieFresh
  split
  · exact ht ..
  · rfl

/-- The start of a frame moves, besides, the record of its tie channel. -/
theorem startFrame_keeps (hs : ∀ f d, g (modStore p f d) = g d) (hk : ∀ x d, g (keepShown p x d) = g d)
    (ht : ∀ b f d, g (modTie b f d) = g d) (num period : Nat) (d : Dev) : g (startFrame p num period d) = g d :=
  (tieFresh_keeps ht _).trans ((takeSlot_keeps hs hk _).trans (hs ..))

end

theorem boundaryView_takeSlot (p : Nat) (d : Dev) : boundaryView (takeSlot p d) = boundaryView d :=
  takeSlot_keeps (fun _ _ => rfl) (fun _ _ => rfl) d

theorem boundaryView_startFrame (p num period : Nat) (d : Dev) : boundaryView (startFrame p num period d) = boundaryView d :=
  startFrame_keeps (fun _ _ => rfl) (fun _ _ => rfl) (fun _ _ _ => rfl) num period d

theorem od_startFrame (p num period : Nat) (d : Dev) : (startFrame p num period d).od = d.od :=
  startFrame_keeps (g := Dev.od) (fun _ _ => rfl) (fun _ _ => rfl) (fun _ _ _ => rfl) num period d

theorem inp_startFrame (p num period : Nat) (d : Dev) : inp (startFrame p num period d) p = inp d p :=
  startFrame_keeps (g := (inp · p)) (fun _ _ => rfl) (fun _ _ => rfl) (fun _ _ _ => rfl) num period d

theorem prog_takeSlot (p : Nat) (d : Dev) :
    (store (takeSlot p d) p).prog = (store d p).prog ∧ (store (takeSlot p d) p).nextNum = (store d p).nextNum := by
  have hkeep (x : Frame) (d : Dev) : store (keepShown p x d) p = store d p := rfl
  obtain ⟨f, hf, h | ⟨x, h⟩⟩ := takeSlot_eq p d
  · rw [h, store_modStore]
    exact hf _
  · rw [h, hkeep, store_modStore]
    exact hf _

/-- The next frame that an input starts is in progress under its number, from now on. -/
theorem prog_startFrame (p num period : Nat) (d : Dev) :
    (store (startFrame p num period d) p).prog = some (num, d.now, period) ∧ (store (startFrame p num period d) p).nextNum = num := by
  unfold startFrame
  obtain ⟨hprog, hnum⟩ := prog_takeSlot p (modStore p (fun s => { s with prog := some (num, d.now, period), nextNum := num }) d)
  rw [tieFresh_keeps (g := (store · p)) (fun _ _ _ => rfl), hprog, hnum, store_modStore]
  exact ⟨rfl, rfl⟩

theorem boundaryView_writeInput (p : Nat) (f : Frame) (d : Dev) : boundaryView (writeInput p f d) = boundaryView d := by
  unfold writeInput writeFrame
  by_cases hr : (store d p).room = true
  · rw [if_pos hr]; rfl
  · rw [if_neg hr]
    exact boundaryView_wr (i := 0x2400 + p) (by omega) (by decide) ..

theorem boundaryView_countPublished (p : Nat) (f : Frame) (d : Dev) : boundaryView (countPublished p f d) = boundaryView d := by
  have hw {s : Nat} (hs : s < 256) (v : Nat) (d : Dev) :
      boundaryView (wr ((0x2400 + p) * 256 + s) v d) = boundaryView d := boundaryView_wr (by omega) hs v d
  exact (onlyIf_keeps _ boundaryView (hw (by decide) ..)).trans ((hw (by decide) ..).trans (hw (by decide) ..))

/-- What the count of a published frame makes of the entries of R277. -/
theorem countPublished_reads (p : Nat) (f : Frame) (d : Dev) :
    rd (countPublished p f d) (K.ip_FRAMES_PUBLISHED p) = (rd d (K.ip_FRAMES_PUBLISHED p) + 1) % 2 ^ 64 ∧
    rd (countPublished p f d) (K.ip_LAST_FRAME_STC p) = f.stamp ∧
    rd (countPublished p f d) (K.ip_DAMAGED_FRAMES p) = (if f.damaged = [] then rd d (K.ip_DAMAGED_FRAMES p)
      else min (rd d (K.ip_DAMAGED_FRAMES p) + 1) 0xFFFFFFFF) := by
  unfold countPublished onlyIf inc64
  cases f.damaged with
  | nil => simp
  | cons => simp [rd_incSat]

theorem stores_countPublished (p : Nat) (f : Frame) (d : Dev) : (countPublished p f d).video.stores = d.video.stores :=
  (onlyIf_keeps _ (·.video.stores) rfl).trans rfl

theorem publishInput_of_pending {p : Nat} {d : Dev} {f : Frame} (h : (store d p).pending = some f) :
    publishInput p d = countPublished p f (publishFrame p d) := by
  rw [publishInput, h]

theorem publishInput_of_none {p : Nat} {d : Dev} (h : (store d p).pending = none) : publishInput p d = d := by
  rw [publishInput, h]

/-- The frame that waits stands last in the ring, in the order of publication. -/
theorem store_publishFrame {p : Nat} {d : Dev} {f : Frame} (h : (store d p).pending = some f) :
    store (publishFrame p d) p = { store d p with
      pending := none, pubs := (store d p).pubs + 1, frames := (store d p).frames ++ [{ f with ord := (store d p).pubs + 1 }] } := by
  rw [publishFrame, store_modStore, h]

theorem boundaryView_publishInput (p : Nat) (d : Dev) : boundaryView (publishInput p d) = boundaryView d := by
  cases h : (store d p).pending with
  | none => rw [publishInput_of_none h]
  | some f => rw [publishInput_of_pending h, boundaryView_countPublished]; rfl

/-- No frame waits once publication has come by. -/
theorem pending_publishInput (p : Nat) (d : Dev) : (store (publishInput p d) p).pending = none := by
  cases h : (store d p).pending with
  | none => rw [publishInput_of_none h, h]
  | some f => rw [publishInput_of_pending h, store_of_stores (stores_countPublished ..), store_publishFrame h]

/-! ## Frame boundaries (R256, R262) -/

/-- The number of the frame that ends at a boundary: that of the frame in progress, or the next one. -/
def endedNum (s : Store) : Nat :=
  match s.prog with
  | some (n, _, _) => n
  | none => s.nextNum

/-- What follows a boundary that ended a frame: its reference pulse, its phase against the generators, and the unit's next frame. -/
def boundaryFollowed (p period : Nat) (d : Dev) : Dev := unitFrame (unitKey 1 p) (followLocks p period (inputPulse p period d))

theorem boundaryView_boundaryFollowed (p period : Nat) (d : Dev) : boundaryView (boundaryFollowed p period d) = boundaryView d :=
  have h := apartFromInput_boundaryView p
  Eq.trans (b := boundaryView (followLocks p period (inputPulse p period d))) rfl ((h.modInp ..).trans (h.inputPulse h.modInp period d))

theorem stores_boundaryFollowed (p period : Nat) (d : Dev) : (boundaryFollowed p period d).video.stores = d.video.stores :=
  Eq.trans (b := (inputPulse p period d).video.stores) rfl
    ((apartFromInput_stores p).inputPulse (apartFromInput_stores p).modInp period d)

theorem lastBoundary_boundaryFollowed (p period : Nat) (d : Dev) : (inp (boundaryFollowed p period d) p).lastBoundary = d.now := by
  rw [boundaryFollowed, inp_of_inp (d' := unitFrame _ _) (d := followLocks p period (inputPulse p period d)) rfl, followLocks, inp_modInp]
  exact now_of_boundaryView ((apartFromInput_boundaryView p).inputPulse (apartFromInput_boundaryView p).modInp ..)

/-- After a cut the boundary begins the next frame and ends none (R808). -/
theorem frameEnded_of_cut {p : Nat} {d : Dev} (f : RxFrame) (hen : on d (K.ip_IP_ENABLE p) = true) (hs : signalPresent d p = true)
    (hb : blockDown d (blockOfPort p) = false) (hc : (inp d p).cut = true) :
    frameEnded p f d = startFrame p (store d p).nextNum f.periodPs (modInp p (fun x => { x with cut := false }) d) := by
  unfold frameEnded
  rw [hen, hs, hb, hc]
  rfl

/-- Otherwise a frame ends, and the next, its number one on, begins in a block `e` of the same instant; the boundary is then followed as a
pulse and as a phase. -/
theorem frameEnded_of_whole {p : Nat} (hp : p < 128) {d : Dev} (f : RxFrame) (hen : on d (K.ip_IP_ENABLE p) = true)
    (hs : signalPresent d p = true) (hb : blockDown d (blockOfPort p) = false) (hc : (inp d p).cut = false) :
    ∃ e, frameEnded p f d = boundaryFollowed p f.periodPs (startFrame p (endedNum (store d p) + 1) f.periodPs e) ∧
      boundaryView e = boundaryView d := by
  obtain ⟨d₁, hd₁, hview, hstore⟩ : ∃ d₁, reportFrame p f (judgeSkew p f.skewNs (noteLinks p f d)) = d₁ ∧
      boundaryView d₁ = boundaryView d ∧ store d₁ p = store d p := by
    have hkeep {β : Type} {g : Dev → β} (h : ApartFromInput p g) : g (reportFrame p f (judgeSkew p f.skewNs (noteLinks p f d))) = g d :=
      (h.reportFrame hp ..).trans ((h.judgeSkew hp ..).trans (h.noteLinks hp ..))
    exact ⟨_, rfl, hkeep (apartFromInput_boundaryView p), store_of_stores (hkeep (apartFromInput_stores p)) p⟩
  unfold frameEnded
  rw [hen, hs, hb, hc, if_neg (by decide), if_neg (by decide)]
  dsimp only
  rw [hd₁, hstore]
  have hkept (st : Nat) (c : Bool) : boundaryView (onlyIf c (takeSlot p) (inputState p st d₁)) = boundaryView d :=
    (onlyIf_keeps _ boundaryView (boundaryView_takeSlot ..)).trans (((apartFromInput_boundaryView p).inputState hp ..).trans hview)
  unfold endedNum
  cases (store d p).prog with
  | _ =>
    dsimp only
    refine ⟨_, rfl, ?_⟩
    rw [boundaryView_modStore]
    split
    · exact (boundaryView_writeInput ..).trans (hkept ..)
    · exact (boundaryView_keepShown ..).trans (hkept ..)

/-! ## Loss of signal (R270) -/

/-- The signal lost within a state that had it: what waits and what was cut short is published or given up, in a block `e` of the same
instant in which nothing waits; then the input is missing. -/
theorem signalLost_of_lost {p : Nat} {d : Dev} (part : Option RxFrame) (hen : on d (K.ip_IP_ENABLE p) = true)
    (hs : signalPresent d p = false) (hst : 2 ≤ if (inp d p).lostFrom = 0 then rd d (K.ip_INPUT_STATE p) else (inp d p).lostFrom) :
    ∃ e, signalLost p part d = inputState p 1 (modInp p (fun x => { x with run := 0, badEvent := false, mismatch := false, lostFrom := 0 })
      (modStore p (fun s => { s with prog := none }) e)) ∧ boundaryView e = boundaryView d ∧ (store e p).pending = none := by
  have hpub := boundaryView_publishInput p d
  unfold signalLost
  rw [hen, hs]
  dsimp only
  rw [if_neg (by simp only [Bool.not_true, Bool.false_eq_true, false_or]; omega)]
  cases part with
  | none => exact ⟨_, rfl, hpub, pending_publishInput p d⟩
  | some f =>
    dsimp only
    refine ⟨_, rfl, ?_⟩
    cases (store (publishInput p d) p).prog with
    | _ =>
      dsimp only
      split
      · refine ⟨?_, pending_publishInput ..⟩
        exact (boundaryView_publishInput ..).trans ((boundaryView_modStore ..).trans ((boundaryView_writeInput ..).trans hpub))
      · exact ⟨hpub, pending_publishInput p d⟩

/-! ## Audio and commits of a boundary (R117) -/

theorem applyNow_of_no_commits {d : Dev} (h : d.ctl.commits = []) (ok : Commit → Bool) (sel : Nat × Staged → Bool) :
    applyNow ok sel d = d := by
  rw [applyNow, h]
  rfl

theorem applyQuiet_of_no_commits {d : Dev} (h : d.ctl.commits = []) : applyQuiet d = d := applyNow_of_no_commits h ..

/-- Without audio and without a commit, a boundary is the frame that ends and the one that begins. -/
theorem inputBoundary_of_idle {p : Nat} {f : RxFrame} {d : Dev} (h : boundaryView (frameEnded p f d) = boundaryView d)
    (hc : d.ctl.commits = []) (ha : audioOn d = false) : inputBoundary p f d = frameEnded p f d := by
  have hn : (frameEnded p f d).ctl.commits = [] := by rw [ctl_of_boundaryView h, hc]
  rw [inputBoundary, audioOn_of_boundaryView h, ha]
  exact (congrArg applyQuiet (applyNow_of_no_commits hn ..)).trans (applyQuiet_of_no_commits hn)

/-- Without audio and without a commit, a loss of signal is that of the pipeline. -/
theorem inputGone_of_idle {p : Nat} {part : Option RxFrame} {d : Dev} (h : boundaryView (signalLost p part d) = boundaryView d)
    (hc : d.ctl.commits = []) (ha : audioOn d = false) : inputGone p part d = signalLost p part d := by
  rw [inputGone, ha]
  exact applyQuiet_of_no_commits (by rw [onlyIf, if_neg (by decide), ctl_of_boundaryView h, hc])

end Sys2Proof.Machine
end

section
open Sys2Proof Sys2Proof.Machine

/-- Settles O36: it holds. What a boundary reports, its reference pulse and its events move neither the stores nor what audio and commits are
judged by, so that the frame started there stands. That the command's frame is the one that ended, and that a boundary after a cut ends none,
is the model's reading (DEDUCED, log entry 28). -/
theorem inputFrames : Obligations.InputFrames := by
  unfold Obligations.InputFrames
  intro t p s d₀ ha x now
  have hp := p.isLt
  refine ⟨fun f hf => ?_, fun f hok hen hs hb hc haud => ?_, fun part hok hen hs hst hc haud => ?_⟩
  · refine makes_of_act rfl ha ?_
    rw [publishInput_of_pending hf]
    obtain ⟨hpubs, hstc, hdam⟩ := countPublished_reads p f (publishFrame p d₀)
    rw [store_of_stores (stores_countPublished ..), store_publishFrame hf]
    exact ⟨rfl, rfl, rfl, hpubs, hstc, hdam⟩
  · refine makes_of_wellFormed _ rfl hok ha ?_
    cases hcut : (inp d₀ p).cut with
    | true =>
      have heq := frameEnded_of_cut f hen hs hb hcut
      have hview : boundaryView (frameEnded p f d₀) = boundaryView d₀ := by
        rw [heq]
        exact boundaryView_startFrame ..
      obtain ⟨hprog, -⟩ := prog_startFrame p x.nextNum f.periodPs (modInp p (fun x => { x with cut := false }) d₀)
      rw [if_pos rfl, inputBoundary_of_idle hview hc haud, heq]
      exact ⟨hprog, by rw [inp_startFrame, inp_modInp], entries_nil_of_od (od_startFrame ..)⟩
    | false =>
      obtain ⟨e, heq, he⟩ := frameEnded_of_whole hp f hen hs hb hcut
      have hnext := boundaryView_startFrame p (endedNum x + 1) f.periodPs e
      have hview : boundaryView (frameEnded p f d₀) = boundaryView d₀ := by
        rw [heq, boundaryView_boundaryFollowed]
        exact hnext.trans he
      obtain ⟨hprog, hnum⟩ := prog_startFrame p (endedNum x + 1) f.periodPs e
      rw [if_neg (by decide), inputBoundary_of_idle hview hc haud, heq, store_of_stores (stores_boundaryFollowed ..),
        lastBoundary_boundaryFollowed, now_of_boundaryView (hnext.trans he), hprog, now_of_boundaryView he]
      exact ⟨rfl, hnum, rfl⟩
  · refine makes_of_wellFormed _ rfl hok ha ?_
    obtain ⟨e, heq, he, hpend⟩ := signalLost_of_lost part hen hs hst
    have hview : boundaryView (signalLost p part d₀) = boundaryView d₀ := by
      rw [heq]
      exact ((apartFromInput_boundaryView p).inputState hp ..).trans he
    rw [inputGone_of_idle hview hc haud, heq, store_of_stores ((apartFromInput_stores p).inputState hp ..), run_inputState, inp_modInp,
      store_modInp, store_modStore]
    exact ⟨rd_inputState hp .., rfl, hpend, rfl⟩

end

section
/-! SUPPORT. Laws of the commands over frame memory: which command may change a byte of it, that each keeps its canonical form, what an access
to a window does, and how a transfer from the host stays in its span. -/

namespace Sys2Proof.Machine

variable {s s' : State} {o : Host.Outcome State Fault Refusal}

/-! ## Which commands change frame memory -/

/-- Is the command one of the four that change a byte of frame memory (log entry 29)? -/
def writesMemory : Instr → Bool
  | .bar4Write .. => true
  | .hostToWindow .. => true
  | .windowGrowPage .. => true
  | .pageRetirementCopyEnd .. => true
  | _ => false

/-- The outcome of a command in state `s` leaves frame memory as it was. -/
structure KeepsMem (s : State) (o : Host.Outcome State Fault Refusal) : Prop where
  mem_eq : ∀ {t}, o = .next t → t.mem = s.mem

theorem keepsMem_next {t : State} (h : t.mem = s.mem) : KeepsMem s (.next t) where
  mem_eq e := Host.Outcome.next.inj e ▸ h

theorem keepsMem_wellFormed {ok : Bool} {w : String} (h : KeepsMem s o) : KeepsMem s (wellFormed ok w o) where
  mem_eq e := h.mem_eq (wellFormed_eq_next.mp e).2

theorem keepsMem_actWrite (t : Ps) (acc : Access) (k start : Nat) (b : List Byte) (sig : Bool) (s : State) :
    KeepsMem s (actWrite t acc k start b sig s) :=
  keepsMem_wellFormed (keepsMem_next rfl)

theorem keepsMem_actToken (t : Ps) (acc : Access) (action : Nat) (b : List Byte) (sig : SigCheck) (s : State) :
    KeepsMem s (actToken t acc action b sig s) :=
  keepsMem_wellFormed (keepsMem_actWrite ..)

theorem actMem_of_alive {t : Ps} {f : Mem → Dev → Mem × Dev} (h : alive (arrive t s.dev) = true) :
    actMem t f s = .next { s with mem := (f s.mem (arrive t s.dev)).1, dev := (f s.mem (arrive t s.dev)).2 } := by
  unfold actMem
  dsimp only
  rw [if_pos h]

theorem actMem_of_dead {t : Ps} {f : Mem → Dev → Mem × Dev} (h : alive (arrive t s.dev) = false) :
    actMem t f s = .next { s with dev := arrive t s.dev } := by
  unfold actMem
  dsimp only
  rw [h]
  rfl

/-- What holds of frame memory, and of what `f` makes of it, holds after a command that acts by `f`. -/
theorem mem_of_actMem {t : Ps} {f : Mem → Dev → Mem × Dev} (P : Mem → Prop) (e : actMem t f s = .next s') (h : P s.mem)
    (hf : P (f s.mem (arrive t s.dev)).1) : P s'.mem := by
  cases ha : alive (arrive t s.dev) with
  | true =>
    obtain rfl := Host.Outcome.next.inj ((actMem_of_alive ha).symm.trans e)
    exact hf
  | false =>
    obtain rfl := Host.Outcome.next.inj ((actMem_of_dead ha).symm.trans e)
    exact h

/-- A command that is none of the four leaves frame memory as it was; WINDOW_TO_HOST reads it. -/
theorem exec_keepsMem {c : Instr} (s : State) (hc : writesMemory c = false) : KeepsMem s (exec c s) := by
  cases c with
  | bar4Write | hostToWindow | windowGrowPage | pageRetirementCopyEnd => cases hc
  | windowToHost => exact keepsMem_wellFormed ⟨fun e => mem_of_actMem (· = s.mem) e rfl rfl⟩
  | compatRequestWrite | dictionaryWrite | missClear | refuseClear | commitRequest | discardBasting | opStart | opAbort | opRelease | rxRestart
  | rxTestWrite | prbsCheckWrite | rxCountClear | txTestWrite | injectError | regionRelease | eaCountClear | arCountClear | memCountClear
  | faultRecordClear | pageTableQuery | queueEnable | queueDisable | resumeSkip | resumeRetry | timeAnchorWrite | setPassword | unlock | lock
  | eraseAndClear | svnCommit | epochAdvance | logClear => exact keepsMem_actWrite ..
  | ownerEnrol | ownerEnrolEnforce | ownerRevoke | enterRma => exact keepsMem_actToken ..
  | defaultTargetAccess | masterResetInBurst | powerEstimateUpdate | stcNowRead | tieBlockReceived | inputFrameReceived | inputSignalLoss
  | bar4Read | doorbellWrite | nop | fenceLocal | fenceHost | fencePersist | exportFrame | importPlane | captureBuffer | playbackBlock
  | eventBuffer | evidenceBuffer | linkUp | doeUmousaRequest | journalReplayRun | cellRetryEnd | blockWatchdogExpiry | prbsSyncGained
  | mailboxGet | mailboxSet | mailboxGetInfo | mailboxGetStaged | ddpRead | ddpWrite | ddpReadInfo | segReadInit | segWriteInit | segData
  | segAck | segAbort | ddpBadCommand | embeddedAudioPacket | aes3FrameReceived | thermalSample | bootStart =>
    exact keepsMem_wellFormed (keepsMem_next rfl)
  | _ => exact keepsMem_next rfl

/-- The four that change frame memory keep its canonical form. -/
theorem memWf_of_writesMemory {c : Instr} (hc : writesMemory c = true) (h : memWf s.mem = true) (e : exec c s = .next s') :
    memWf s'.mem = true := by
  unfold writesMemory at hc
  split at hc
  · exact mem_of_actMem (memWf · = true) (wellFormed_eq_next.mp e).2 h (memWf_bar4Put h)
  · exact mem_of_actMem (memWf · = true) (wellFormed_eq_next.mp e).2 h (memWf_runDescrMem h fun _ _ _ => memWf_hostToWindow)
  · exact mem_of_actMem (memWf · = true) e h (memWf_growWindow h)
  · exact mem_of_actMem (memWf · = true) e h (memWf_copyEnd h)
  · cases hc

/-- Every command keeps the canonical form of frame memory. -/
theorem inv_of_exec {c : Instr} (h : s.Inv) (e : exec c s = .next s') : s'.Inv := by
  cases hc : writesMemory c with
  | true => exact memWf_of_writesMemory hc h e
  | false =>
    unfold State.Inv
    rwa [(exec_keepsMem s hc).mem_eq e]

/-- Every step keeps it: an idle one moves time alone, any other runs a command. -/
theorem inv_of_step (h : s.Inv) (e : step s = .next s') : s'.Inv := by
  unfold step at e
  split at e
  · obtain rfl := Host.Outcome.next.inj e
    exact h
  · next r _ => exact inv_of_exec (s := { s with pending := r }) h e

/-! ## The page table and the windows -/

/-! Where a page and a window lie follows from the tables of frame memory alone. -/

theorem window_of_fm {d d' : Dev} (h : d'.fm = d.fm) (w : Nat) : window d' w = window d w := by
  unfold window
  rw [h]

theorem pte_of_fm {d d' : Dev} (h : d'.fm = d.fm) (l : Nat) : pte d' l = pte d l := by
  unfold pte
  rw [h]

theorem windowSpan_of_fm {d d' : Dev} (h : d'.fm = d.fm) (w fuel off n : Nat) : windowSpan d' w fuel off n = windowSpan d w fuel off n := by
  induction fuel generalizing off n with
  | zero => rfl
  | succ fuel ih => simp only [windowSpan, window_of_fm h, pte_of_fm h, ih]

/-- What decides whether the window of a function can be reached over PCIe: the function is up and so is the link (R571). -/
def barOpen (d : Dev) (f : Nat) : Prop := rd d (K.fn_FN_STATE f) = 1 ∧ rd d K.x3C00_LINK_STATE ≠ 0

theorem not_barShut {d : Dev} {f : Nat} (h : barOpen d f) : ¬(rd d (K.fn_FN_STATE f) ≠ 1 ∨ rd d K.x3C00_LINK_STATE = 0) :=
  fun hs => hs.elim (· h.1) h.2

/-! ## Faults of a translation (R584) -/

@[simp] theorem rd_modFm (f : FrameMem → FrameMem) (d : Dev) (j : Nat) : rd (modFm f d) j = rd d j := rfl

/-- A recorded fault is counted; what is recorded of it lies in other entries. -/
theorem faultCount_recordFault (page dom kind num cause : Nat) (write : Bool) (d : Dev) :
    rd (recordFault page dom kind num cause write d) K.x3806_FAULT_COUNT = min (rd d K.x3806_FAULT_COUNT + 1) 0xFFFFFFFF := by
  have hdom : K.dom_DOMAIN_FAULTS dom ≠ K.x3806_FAULT_COUNT := by
    unfold K.dom_DOMAIN_FAULTS K.x3806_FAULT_COUNT
    omega
  have hcount : rd (incSat 32 (K.dom_DOMAIN_FAULTS dom) (incSat 32 K.x3806_FAULT_COUNT d)) K.x3806_FAULT_COUNT =
      min (rd d K.x3806_FAULT_COUNT + 1) 0xFFFFFFFF :=
    (rd_incSat ..).trans ((if_neg hdom).trans ((rd_incSat ..).trans (if_pos rfl)))
  have hother {k : Nat} (v : Nat) (e : Dev) (h : k ≠ K.x3806_FAULT_COUNT) :
      rd (wr k v e) K.x3806_FAULT_COUNT = rd e K.x3806_FAULT_COUNT :=
    (rd_wr ..).trans (if_neg h)
  unfold recordFault
  dsimp only
  rw [apply_ite (rd · K.x3806_FAULT_COUNT), hother _ _ (by decide), hother _ _ (by decide), hother _ _ (by decide),
    hother _ _ (by decide), hother _ _ (by decide), hother _ _ (by decide)]
  exact (ite_self _).trans hcount

/-- A BAR4 access to a page that is not mapped is counted, and answered with an Unsupported Request (R571). -/
theorem bar4Unmapped_reports (f off : Nat) (write : Bool) (d : Dev) :
    rd (bar4Unmapped f off write d) K.x3806_FAULT_COUNT = min (rd d K.x3806_FAULT_COUNT + 1) 0xFFFFFFFF ∧
    (bar4Unmapped f off write d).host.out.head? = some (.unsupported f) := by
  unfold bar4Unmapped
  refine ⟨?_, rfl⟩
  rw [rd_toHost, rd_condition_of_not_lost (isLost_of_object (.inl (by decide)))]
  exact faultCount_recordFault ..

/-! ## BAR4 accesses (R570 to R572) -/

theorem bar4Get_of_unmapped {f off n : Nat} {m : Mem} {d : Dev} (ho : barOpen d f) (h : windowAddr d f off = none) :
    bar4Get f off n m d = bar4Unmapped f off false d := by
  unfold bar4Get
  rw [if_neg (not_barShut ho), h]

/-- A read that meets no poison is answered with the bytes of the mapped page. -/
theorem bar4Get_of_clean {f off n a : Nat} {m : Mem} {d : Dev} (ho : barOpen d f) (h : windowAddr d f off = some a)
    (hp : (granulesOf a n).any (isPoisoned d ((window d f).getD (off / 65536) 0)) = false) :
    bar4Get f off n m d = toHost (.readData f (memRead m a n) false) d := by
  have hf : (granulesOf a n).find? (isPoisoned d ((window d f).getD (off / 65536) 0)) = none :=
    List.find?_eq_none.mpr (List.any_eq_false.mp hp)
  unfold bar4Get
  rw [if_neg (not_barShut ho), h]
  dsimp only
  rw [hf]
  rfl

theorem bar4Put_of_mapped {f off a : Nat} {b : List Byte} {m : Mem} {d : Dev} (ho : barOpen d f) (h : windowAddr d f off = some a) :
    bar4Put f off b m d = (memWrite a b m, forAll (wholeGranules a b.length) cleanGranule d) := by
  unfold bar4Put
  rw [if_neg (not_barShut ho), h]

/-- Granules written whole leave the poison table, whose count is the one entry that moves (R545). -/
theorem rd_cleanGranules {j : Nat} (h : j ≠ K.x3800_POISON_STATE) (l : List Nat) (d : Dev) : rd (forAll l cleanGranule d) j = rd d j := by
  refine forAll_keeps _ _ (rd · j) (fun g d => ?_) d
  unfold cleanGranule
  split
  · exact (rd_wr _ _ j _).trans (if_neg h.symm)
  · rfl

/-! ## A window that grows (R559, R573) -/

/-- One page, taken from those never used, is the next logical page; the windows stand. -/
theorem allocPages_one_of_fresh {kind num dom cls : Nat} {r w x : Bool} {d : Dev} (h : freshPpns d 1 ≠ []) :
    (allocPages 1 kind num dom cls r w x d).1 = [d.fm.nextLpn] ∧
    (allocPages 1 kind num dom cls r w x d).2.fm.windows = d.fm.windows := by
  have hlen : (freshPpns d 1).length = 1 := by
    have := List.length_pos_iff.mpr h
    have : (freshPpns d 1).length ≤ 1 := List.length_take_le ..
    omega
  unfold allocPages
  dsimp only
  rw [hlen]
  exact ⟨by simp [allocListed], rfl⟩

/-- The block in which the window of `w` has grown by logical page `l`. -/
def grown (w l : Nat) (d : Dev) : Dev :=
  wr (K.dom_WINDOW_READY w) ((window d w).length + 1) (modFm (fun x => { x with windows := tabSet w (window d w ++ [l]) x.windows }) d)

/-- Where a page was never used, a window with room takes it, and its bytes are cleared. -/
theorem growWindow_of_fresh {w : Nat} {m : Mem} {d : Dev} (hr : (window d w).length < rd d (K.dom_WINDOW_PAGES w))
    (hf : freshPpns d 1 ≠ []) :
    ∃ l e, window e w = window d w ∧ growWindow w m d = (memClear ((pte e l).ppn * 65536) 65536 m, grown w l e) := by
  obtain ⟨hl, hw⟩ := allocPages_one_of_fresh (kind := 0x08) (num := w) (dom := w) (cls := 4) (r := true) (w := true) (x := true) hf
  refine ⟨d.fm.nextLpn, (allocPages 1 0x08 w w 4 true true true d).2, by unfold window; rw [hw], ?_⟩
  unfold growWindow
  rw [if_pos hr, show allocPages 1 0x08 w w 4 true true true d = ([d.fm.nextLpn], (allocPages 1 0x08 w w 4 true true true d).2) from
    Prod.ext hl rfl]
  rfl

@[simp] theorem window_grown (w l : Nat) (d : Dev) : window (grown w l d) w = window d w ++ [l] := by
  simp [grown, window, modFm]

/-- The bytes of the new page lie where the page table puts it. -/
theorem windowAddr_grown {w l i : Nat} {d : Dev} (hi : i < 65536) :
    windowAddr (grown w l d) w ((window d w).length * 65536 + i) = some ((pte d l).ppn * 65536 + i) := by
  have hq : ((window d w).length * 65536 + i) / 65536 = (window d w).length := by omega
  have hm : ((window d w).length * 65536 + i) % 65536 = i := by omega
  unfold windowAddr
  rw [window_grown, hq, hm, List.getElem?_concat_length]
  rfl

/-! ## Transfers from the host into a window (R570, R614) -/

/-- The span of the window that a HOST_TO_WINDOW descriptor names, from the byte it starts at. -/
def hostSpan (x : Desc) (i : StartInfo) (d : Dev) : List (Nat × Nat × Nat) :=
  let n := dLength x.bytes - i.from_
  windowSpan d ((qFn d x.queue).getD 0) (n / 65536 + 2) (leAt x.bytes 32 8 + i.from_) n

/-- No part of the span holds the byte at `j`. -/
def OutsideSpan (l : List (Nat × Nat × Nat)) (j : Nat) : Prop := ∀ p ∈ l, j < p.2.1 ∨ p.2.1 + p.2.2 ≤ j

/-- Bytes written over a span change none outside it. -/
theorem memGet_writeSpan {l : List (Nat × Nat × Nat)} {j : Nat} (h : OutsideSpan l j) (b : List Byte) (m : Mem) (d : Dev) :
    memGet (writeSpan l b m d).1 j = memGet m j := by
  induction l generalizing b m d with
  | nil => rfl
  | cons p r ih =>
    obtain ⟨_, a, n⟩ := p
    obtain ⟨hp, hr⟩ : (j < a ∨ a + n ≤ j) ∧ OutsideSpan r j := List.forall_mem_cons.mp h
    have hlen : (b.take n).length ≤ n := List.length_take_le ..
    exact (ih hr ..).trans (memGet_memWrite_frame (by omega))

/-- A HOST_TO_WINDOW leaves frame memory or writes over its span. -/
theorem mem_hostToWindow (x : Desc) (host : HostRead) (i : StartInfo) (m : Mem) (d : Dev) :
    (hostToWindow x host i m d).1 = m ∨ ∃ b e, (hostToWindow x host i m d).1 = (writeSpan (hostSpan x i d) b m e).1 := by
  unfold hostToWindow
  dsimp only
  split
  · exact .inl rfl
  · cases host with
    | error => exact .inl rfl
    | ok data =>
      dsimp only
      simp only [apply_ite Prod.fst, ite_self, List.length_drop, length_padTo]
      exact .inr ⟨_, _, rfl⟩

theorem memGet_hostToWindow {x : Desc} {i : StartInfo} {d : Dev} {j : Nat} (h : OutsideSpan (hostSpan x i d) j) (host : HostRead) (m : Mem) :
    memGet (hostToWindow x host i m d).1 j = memGet m j := by
  rcases mem_hostToWindow x host i m d with e | ⟨b, d', e⟩
  · rw [e]
  · rw [e, memGet_writeSpan h]

/-- A descriptor that may not start, or does not act, leaves frame memory; any other acts once it has its place. -/
theorem mem_runDescrMem (q r : Nat) (b : List Byte) (f : StartInfo → Mem → Dev → Mem × Dev) (m : Mem) (d : Dev) :
    (runDescrMem q r b f m d).1 = m ∨
    ∃ i, startInfo d q r = some i ∧ (runDescrMem q r b f m d).1 = (f i m (putDescr q r b i d)).1 := by
  unfold runDescrMem
  split
  · exact .inl rfl
  · next i hi =>
    dsimp only
    split
    · exact .inl rfl
    · split
      · exact .inl rfl
      · exact .inr ⟨i, hi, rfl⟩

theorem fm_jOpen (kind scope req unit ref pin : Nat) (d : Dev) : (jOpen kind scope req unit ref pin d).fm = d.fm := by
  unfold jOpen
  split <;> rfl

/-- A descriptor that takes its place touches neither frame memory's tables nor which function owns a queue. -/
theorem fm_putDescr (q r : Nat) (b : List Byte) (i : StartInfo) (d : Dev) : (putDescr q r b i d).fm = d.fm :=
  onlyIf_keeps _ Dev.fm (fm_jOpen ..)

theorem rd_putDescr {j : Nat} (hw : j ≠ K.x1C30_JOURNAL_WAITS) (hu : j ≠ K.x1C30_JOURNAL_MAX_USED) (q r : Nat) (b : List Byte)
    (i : StartInfo) (d : Dev) : rd (putDescr q r b i d) j = rd d j :=
  onlyIf_keeps _ (rd · j) (rd_jOpen hw hu)

/-- The function that owns a queue follows from the first queues and the counts of the functions. -/
theorem qFn_of_rd {d d' : Dev} (hf : ∀ f, rd d' (K.fn_QUEUE_FIRST f) = rd d (K.fn_QUEUE_FIRST f))
    (hc : ∀ f, rd d' (K.fn_QUEUE_COUNT f) = rd d (K.fn_QUEUE_COUNT f)) (q : Nat) : qFn d' q = qFn d q := by
  have h (n f : Nat) : qFnFrom d' q n f = qFnFrom d q n f := by
    induction n generalizing f with
    | zero => rfl
    | succ n ih => simp only [qFnFrom, hf, hc, ih]
  exact h 64 0

theorem hostSpan_putDescr (x : Desc) (i i' : StartInfo) (q r : Nat) (b : List Byte) (d : Dev) :
    hostSpan x i (putDescr q r b i' d) = hostSpan x i d := by
  have hq : qFn (putDescr q r b i' d) x.queue = qFn d x.queue := by
    refine qFn_of_rd (fun f => rd_putDescr ?_ ?_ ..) (fun f => rd_putDescr ?_ ?_ ..) _ <;>
      simp only [K.fn_QUEUE_FIRST, K.fn_QUEUE_COUNT, K.x1C30_JOURNAL_WAITS, K.x1C30_JOURNAL_MAX_USED] <;> omega
  simp only [hostSpan, hq, windowSpan_of_fm (fm_putDescr ..)]

/-- However a HOST_TO_WINDOW descriptor ends, no byte outside its span changes. -/
theorem memGet_runHostToWindow {x : Desc} {d : Dev} {j : Nat} (h : OutsideSpan (hostSpan x ((startInfo d x.queue x.ring).getD {}) d) j)
    (host : HostRead) (m : Mem) :
    memGet (runDescrMem x.queue x.ring x.bytes (hostToWindow x host) m d).1 j = memGet m j := by
  rcases mem_runDescrMem x.queue x.ring x.bytes (hostToWindow x host) m d with e | ⟨i, hi, e⟩
  · rw [e]
  · rw [e]
    rw [hi, Option.getD_some] at h
    exact memGet_hostToWindow (by rwa [hostSpan_putDescr]) host m

end Sys2Proof.Machine
end

section
/-! SUPPORT. The state that refutes O41: patrol stands on the last page but one, and the last page is being retired. -/

namespace Sys2Proof.Machine

/-- What a command makes in two respects, it makes in both: it answers one next state. -/
theorem Makes.and {c : Instr} {s : State} {P Q : Dev → Prop} (hp : Makes c s P) (hq : Makes c s Q) : Makes c s fun d => P d ∧ Q d := by
  obtain ⟨d, e, p⟩ := hp
  obtain ⟨d', e', q⟩ := hq
  obtain rfl : d = d' := congrArg State.dev (Host.Outcome.next.inj (e.symm.trans e'))
  exact ⟨d, e, p, q⟩

/-- A started block with one unit of patrol paid: patrol stands on page 524,286, and page 524,287, the last, is being copied to spare 4,416. -/
def lastPageRetires : State where
  pending := []
  mem := []
  dev := {
    od := [(K.x1001_DICT_STATE, 2), (K.x1C40_BOOT_STEP, 0x19), (K.x3810_PATROL_ENABLE, 1)]
    boot := { started := true }
    ctl := { paid := [0, 0, 0, 0, 1, 0] }
    fm := {
      pt := [(0, { v := true, ppn := 524287 })]
      copies := [(524287, { lpn := 0, spare := 4416 })]
      patrolPos := 524286 } }

/-- The last page is skipped, so that the pass ends behind the last page but one and patrol begins anew (R575, R576, R586). -/
theorem lastPageRetires_makes : Makes (.patrolScrubPage 0 524286 []) lastPageRetires fun d =>
    rd d K.x3810_PASS_PAGES = 0 ∧ rd d K.x3810_PASS_COUNT = 1 ∧ d.fm.patrolPos = 0 :=
  makes_of_act rfl (by decide) (by decide)

end Sys2Proof.Machine
end

section
open Sys2Proof Sys2Proof.Machine

/-- Settles O3: it holds; no byte is listed after reset. -/
theorem resetInv : Obligations.ResetInv := by
  unfold Obligations.ResetInv
  exact memWf_nil

/-- Settles O4: it holds. The four commands that change frame memory keep its canonical form, any other command leaves it, and an idle step
moves time alone. -/
theorem stepKeepsInv : Obligations.StepKeepsInv := by
  unfold Obligations.StepKeepsInv
  exact fun _ _ => inv_of_step

/-- Settles O8: it holds of memory as bytes. That published frames, imported planes and stored records are held as data, not as bytes of
frame memory, is the model's own choice (DESIGN CHOICE, log entry 29). -/
theorem memoryFrame : Obligations.MemoryFrame := by
  unfold Obligations.MemoryFrame
  intro c s t e hb hh hw hp a
  have hc : writesMemory c = false := by
    unfold writesMemory
    split
    · exact (hb _ _ _ _ rfl).elim
    · exact (hh _ _ _ rfl).elim
    · exact (hw _ _ rfl).elim
    · exact (hp _ _ rfl).elim
    · rfl
  rw [(exec_keepsMem s hc).mem_eq e]

/-- Refutes O41: the clause of patrol leaves out that the pages behind the next one may all be in retirement. Patrol skips such pages
(R576), so with the last page being copied the last page but one ends the pass: PASS_PAGES reads 0, not one more, and the position is 0. -/
theorem not_frameMemory : ¬ Obligations.FrameMemory := by
  unfold Obligations.FrameMemory
  rintro ⟨-, h⟩
  have hpatrol := (h 0 524286 lastPageRetires (by decide)).1 (by decide) (by decide) (by decide) (by decide) (by decide) (by decide) (by decide)
  obtain ⟨d, -, ⟨hcount, -⟩, hzero, -⟩ := hpatrol.and lastPageRetires_makes
  rw [hzero] at hcount
  exact absurd hcount (by decide)

/-- Settles O42: it holds. An access that reaches an open function finds its page by the page table, a new page is the last of its window,
and a transfer writes over the span that its descriptor names, or nothing. -/
theorem hostWindows : Obligations.HostWindows := by
  unfold Obligations.HostWindows
  constructor
  · intro t f o s d₀ ha up
    refine ⟨?_, ?_, ?_, ?_⟩
    · rintro n a ⟨hs, hl, ho⟩ hn hpage haddr hpois
      refine makes_of_wellFormed (bar4Get f o n s.mem) rfl (by simp only [ho, hn, hpage, decide_true, Bool.and_self]) ha ?_
      exact bar4Get_of_clean ⟨hs, hl⟩ haddr hpois
    · rintro n ⟨hs, hl, ho⟩ hn hpage haddr
      refine makes_of_wellFormed (bar4Get f o n s.mem) rfl (by simp only [ho, hn, hpage, decide_true, Bool.and_self]) ha ?_
      rw [bar4Get_of_unmapped ⟨hs, hl⟩ haddr]
      exact bar4Unmapped_reports ..
    · rintro b a ⟨hs, hl, ho⟩ hn hpage haddr -
      refine ⟨_, _, wellFormed_eq_next.mpr ⟨by simp only [ho, hn, hpage, decide_true, Bool.and_self], actMem_of_alive ha⟩, ?_⟩
      rw [bar4Put_of_mapped ⟨hs, hl⟩ haddr]
      refine ⟨fun i hi => ?_, fun x hx => memGet_memWrite_frame hx, fun j hj => rd_cleanGranules hj ..⟩
      rw [memGet_memWrite, if_pos (by omega), Nat.add_sub_cancel_left]
    · rintro hroom hfresh -
      obtain ⟨l, e, hw, hg⟩ := growWindow_of_fresh (m := s.mem) hroom hfresh
      refine ⟨_, _, actMem_of_alive ha, ?_⟩
      rw [hg, ← hw]
      have hnew (i : Nat) (hi : i < 65536) := windowAddr_grown (w := f) (l := l) (d := e) hi
      refine ⟨by simp, by simp, by simp [grown], fun i hi => ⟨_, hnew i hi, ?_⟩, fun a hne => ?_⟩
      · rw [memGet_memClear, if_pos (by omega)]
      · rw [memGet_memClear, if_neg]
        rintro ⟨hlo, hhi⟩
        refine hne (a - (pte e l).ppn * 65536) (by omega) ((hnew _ (by omega)).trans ?_)
        rw [Nat.add_sub_cancel' hlo]
  · intro t x h s s' d₀ e i n a hout
    exact mem_of_actMem (memGet · a = memGet s.mem a) (wellFormed_eq_next.mp e).2 rfl (memGet_runHostToWindow hout ..)

end

section
/-! SUPPORT. Laws of the PLL blocks and of the root clock: what a loss of lock takes with it, and what the root holds. -/

namespace Sys2Proof.Machine

/-! ## Entries under the clocks -/

@[simp] theorem rd_modClk (f : Clocks → Clocks) (d : Dev) (j : Nat) : rd (modClk f d) j = rd d j := rfl

/-- A 32-bit count reads one more, up to its largest value. -/
theorem rd_incSat_counted (k : Nat) (d : Dev) : rd (incSat 32 k d) k = min (rd d k + 1) 0xFFFFFFFF :=
  (rd_incSat ..).trans (if_pos rfl)

/-- A changed entry is the only one that reads otherwise, but for what its event counts. -/
theorem entriesE_change (k v : Nat) (d : Dev) : EntriesE [(k, v)] d (change k v d) := by
  intro j hj
  rw [rd_change_of_not_lost hj, tabFind]
  split <;> rfl

/-- The link down reads so in LINK_STATE, is counted, and leaves the other entries. -/
theorem rd_linkDown {j : Nat} (hl : isLost j = false) (hd : K.x3C00_LINK_DOWNS ≠ j) (d : Dev) :
    rd (linkDown d) j = if K.x3C00_LINK_STATE = j then 0 else rd d j := by
  unfold linkDown
  split
  · next hdown =>
    split
    · next hj => rw [← hj, hdown]
    · rfl
  · dsimp only
    refine (forAll_keeps _ _ (rd · j) ?_ _).trans ?_
    · exact fun _ _ => rfl
    rw [rd_incSat, if_neg hd, rd_change_of_not_lost hl]

/-! ## PLL blocks (R636, R641) -/

/-- PLL block `p` has lost lock: it relocks from now on. -/
def pllRelock (p : Nat) (d : Dev) : Dev :=
  incSat 32 (K.x1402_PLL_RELOCKS p)
    (change (K.x1401_PLL_STATE p) 3 (modClk (fun c => { c with relockAt := tabSet p d.now c.relockAt }) d))

/-- What stands on PLL block `p` stops with it: a memory stack on its PHY, the link on the PLL of PCIe. -/
def pllUsersStop (p : Nat) (d : Dev) : Dev :=
  if p = 1 ∨ p = 2 then change (K.x1012_MB_STATE (p - 1)) 1 d else if p = 3 then linkDown d else d

theorem pllState_object {p : Nat} (hp : p < 13) : K.x1401_PLL_STATE p / 256 = 0x1401 := object_of_entry _ (by omega)

theorem pllRelocks_object {p : Nat} (hp : p < 13) : K.x1402_PLL_RELOCKS p / 256 = 0x1402 := object_of_entry _ (by omega)

theorem isLost_pllState {p : Nat} (hp : p < 13) : isLost (K.x1401_PLL_STATE p) = false :=
  isLost_of_object (by rw [pllState_object hp]; decide)

theorem isLost_pllRelocks {p : Nat} (hp : p < 13) : isLost (K.x1402_PLL_RELOCKS p) = false :=
  isLost_of_object (by rw [pllRelocks_object hp]; decide)

theorem pllState_ne_pllRelocks {p : Nat} (hp : p < 13) : K.x1401_PLL_STATE p ≠ K.x1402_PLL_RELOCKS p := fun e => by
  have hs := pllState_object hp
  rw [e, pllRelocks_object hp] at hs
  omega

/-- A loss of lock, of a block other than the root and the reference. -/
theorem pllLossOfLock_makes {t : Ps} {p : PllBlock} {s : State} (ha : alive (arrive t s.dev) = true) (hroot : p.val ≠ 0)
    (href : p.val ≠ 4) (hlocked : rd (arrive t s.dev) (K.x1401_PLL_STATE p) = 2) :
    Makes (.pllLossOfLock t p) s (· = pllUsersStop p (pllRelock p (arrive t s.dev))) := by
  refine makes_of_act (show execPllLossOfLock t p s = _ from rfl) ha ?_
  rw [if_neg (by omega), if_neg href]
  rfl

section
variable {p : Nat} (hp : p < 13) (d : Dev)
include hp

theorem rd_pllRelock_state : rd (pllRelock p d) (K.x1401_PLL_STATE p) = 3 := by
  rw [pllRelock, rd_incSat, if_neg (pllState_ne_pllRelocks hp).symm, rd_change_of_not_lost (isLost_pllState hp), if_pos rfl]

theorem rd_pllRelock_count :
    rd (pllRelock p d) (K.x1402_PLL_RELOCKS p) = min (rd d (K.x1402_PLL_RELOCKS p) + 1) 0xFFFFFFFF := by
  rw [pllRelock, rd_incSat_counted, rd_change_of_not_lost (isLost_pllRelocks hp), if_neg (pllState_ne_pllRelocks hp), rd_modClk]

end

/-- The entries of the PLLs themselves stay as the loss of lock left them. -/
theorem rd_pllUsersStop {j : Nat} (hj : j / 256 = 0x1401 ∨ j / 256 = 0x1402) (p : Nat) (d : Dev) : rd (pllUsersStop p d) j = rd d j := by
  have hl : isLost j = false := isLost_of_object (by omega)
  unfold pllUsersStop
  split
  · have hm : K.x1012_MB_STATE (p - 1) / 256 = 0x1012 := object_of_entry _ (by omega)
    rw [rd_change_of_not_lost hl, if_neg (by rintro rfl; omega)]
  · split
    · rw [rd_linkDown hl (by rintro rfl; revert hj; decide), if_neg (by rintro rfl; revert hj; decide)]
    · rfl

theorem rd_pllUsersStop_memory {p : Nat} (h : p = 1 ∨ p = 2) (d : Dev) : rd (pllUsersStop p d) (K.x1012_MB_STATE (p - 1)) = 1 := by
  have hm : K.x1012_MB_STATE (p - 1) / 256 = 0x1012 := object_of_entry _ (by omega)
  rw [pllUsersStop, if_pos h, rd_change_of_not_lost (isLost_of_object (by omega)), if_pos rfl]

theorem rd_pllUsersStop_link (d : Dev) : rd (pllUsersStop 3 d) K.x3C00_LINK_STATE = 0 :=
  (rd_linkDown (isLost_of_object (by decide)) (by decide) d).trans (if_pos rfl)

/-! ## The root clock (R646 to R648) -/

section
variable {d : Dev} {j : Nat}

/-- The STC follows its references in its own state and rate alone. -/
theorem rd_stcFollow (hs : K.x1460_STC_STATE ≠ j) (hr : K.x1460_STC_RATE_PPB ≠ j) (d : Dev) : rd (stcFollow d) j = rd d j := by
  have hw (st rate : Nat) (d : Dev) : rd (wr K.x1460_STC_RATE_PPB rate (wr K.x1460_STC_STATE st d)) j = rd d j := by
    rw [rd_wr, if_neg hr, rd_wr, if_neg hs]
  unfold stcFollow
  split
  · rw [rd_wr, if_neg hs, rd_wr, if_neg hr]
  · split
    · exact hw ..
    · exact hw ..

theorem rd_stcFollow_of_held (h : rd d K.x1400_ROOT_STATE = 4) : rd (stcFollow d) K.x1460_STC_STATE = 3 := by
  rw [stcFollow, if_pos h, rd_wr, if_pos rfl]

theorem rootHold_of_locked (h : rd d K.x1400_ROOT_STATE = 2) :
    rootHold d = raiseX 3 K.x1400_ROOT_STATE 0 4 0xFF 0xFFFFFFFF [] (some 4)
      (stcFollow (wr K.x1400_ROOT_STATE 4 (change (K.x1401_PLL_STATE 0) 4 d))) :=
  if_pos h

/-- A root that was LOCKED holds in its two entries; beside these only the STC has moved. -/
theorem rd_rootHold (h : rd d K.x1400_ROOT_STATE = 2) (hl : isLost j = false) (hs : K.x1460_STC_STATE ≠ j)
    (hr : K.x1460_STC_RATE_PPB ≠ j) :
    rd (rootHold d) j = if K.x1400_ROOT_STATE = j then 4 else if K.x1401_PLL_STATE 0 = j then 4 else rd d j := by
  rw [rootHold_of_locked h, rd_raiseX_of_not_lost _ hl, rd_stcFollow hs hr, rd_wr, rd_change_of_not_lost hl]

/-- A root that was LOCKED is held: it reads so with its PLL, the STC reads HELD_ROOT, and the event of it is the newest (R647). -/
theorem rootHold_holds (h : rd d K.x1400_ROOT_STATE = 2) :
    rd (rootHold d) K.x1400_ROOT_STATE = 4 ∧ rd (rootHold d) K.x1460_STC_STATE = 3 ∧ rd (rootHold d) (K.x1401_PLL_STATE 0) = 4 ∧
      newestEvent (rootHold d) 3 K.x1400_ROOT_STATE 4 [] := by
  refine ⟨?_, ?_, ?_, ?_⟩
  · rw [rd_rootHold h (isLost_of_object (by decide)) (by decide) (by decide), if_pos rfl]
  · rw [rootHold_of_locked h, rd_raiseX_of_not_lost _ (isLost_of_object (by decide)),
      rd_stcFollow_of_held (by rw [rd_wr, if_pos rfl])]
  · rw [rd_rootHold h (isLost_of_object (by decide)) (by decide) (by decide), if_neg (by decide), if_pos rfl]
  · rw [rootHold_of_locked h]
    exact newestEvent_raiseX ..

/-- The entries of XTAL_IN stay while the root takes its hold. -/
theorem rd_rootHold_xtal (h : rd d K.x1400_ROOT_STATE = 2) (hj : K.x1400_XTAL_STATE = j ∨ K.x1400_XTAL_LOSSES = j) :
    rd (rootHold d) j = rd d j := by
  rcases hj with rfl | rfl <;>
    rw [rd_rootHold h (isLost_of_object (by decide)) (by decide) (by decide), if_neg (by decide), if_neg (by decide)]

/-- XTAL_IN is lost while present: the loss is noted and counted in a block `e`, and there the root takes its hold (R646, R647). -/
theorem xtalLost_of_present (h : rd d K.x1400_XTAL_STATE = 0) :
    ∃ e, xtalLost d = rootHold e ∧ rd e K.x1400_ROOT_STATE = rd d K.x1400_ROOT_STATE ∧ rd e K.x1400_XTAL_STATE = 1 ∧
      rd e K.x1400_XTAL_LOSSES = min (rd d K.x1400_XTAL_LOSSES + 1) 0xFFFFFFFF := by
  refine ⟨_, if_pos h, ?_, ?_, ?_⟩
  · rw [rd_incSat, if_neg (by decide), rd_wr, if_neg (by decide), rd_modClk]
  · rw [rd_incSat, if_neg (by decide), rd_wr, if_pos rfl]
  · rw [rd_incSat_counted, rd_wr, if_neg (by decide), rd_modClk]

/-- A held root with XTAL_IN present locks again, and its PLL with it (R648). -/
theorem rootRelocked_of_held (band : Nat) (hroot : rd d K.x1400_ROOT_STATE = 4) (hx : rd d K.x1400_XTAL_STATE = 0) :
    rd (rootRelocked band d) K.x1400_ROOT_STATE = 2 ∧ rd (rootRelocked band d) (K.x1401_PLL_STATE 0) = 2 := by
  rw [rootRelocked, if_pos ⟨hroot, hx⟩]
  constructor
  · rw [rd_stcFollow (by decide) (by decide), rd_change_of_not_lost (isLost_of_object (by decide)), if_neg (by decide), rd_wr, if_pos rfl]
  · rw [rd_stcFollow (by decide) (by decide), rd_change_of_not_lost (isLost_of_object (by decide)), if_pos rfl]

end

end Sys2Proof.Machine
end

section
/-! SUPPORT. The state that refutes O31: the pulse of the reference finds a generator that follows it LOCKED, its seams 1 ns behind. -/

namespace Sys2Proof.Machine

/-- A started block, 40 ms on, whose 25 Hz reference pulsed at 0; generator 0 follows it, LOCKED in 1080p25, with its latest seam 1 ns
behind that pulse. -/
def seamsBehindPulse : State where
  pending := []
  mem := []
  dev := {
    now := ms 40
    od := [(K.x1001_DICT_STATE, 2), (K.x1C40_BOOT_STEP, 0x19), (K.x1410_REF_STATE, 3), (K.x1410_REF_FRAME_RATE, 3),
      (K.tg_TG_FORMAT 0, mkFormat 4 0 3 0 0 0 0), (K.tg_LOCK_SOURCE 0, 1), (K.tg_TG_STATE 0, 2)]
    boot := { started := true }
    clk := { lastPulse := some 0 }
    video := { tg := [(0, { alignAt := some 0, lockedSince := some 0, lastSeam := 1000 })] } }

/-- The pulse shows the generator its phase error, the seam 1 ns late (R659, R669). -/
theorem seamsBehindPulse_makes : Makes (.refFramePulse 0) seamsBehindPulse fun d => rd d (K.tgl_PHASE_ERROR_NS 0) = satTc 32 (-1) :=
  makes_of_act rfl (by decide) (by decide)

end Sys2Proof.Machine
end

section
open Sys2Proof Sys2Proof.Machine

/-- Settles O30: it holds. What stops with a PLL block leaves the PLLs' own entries; a root that was LOCKED takes its hold the same way,
whether XTAL_IN or its own lock is lost, and the entries of XTAL_IN stay as the loss left them. -/
theorem clocksLost : Obligations.ClocksLost := by
  unfold Obligations.ClocksLost
  constructor
  · intro t s d₀ ha
    refine ⟨fun p hroot href hlocked => ?_, fun p band hroot href hp hst => ?_, fun m hm hpll hdue => ?_⟩
    · refine (pllLossOfLock_makes ha hroot href hlocked).mono ?_
      rintro _ rfl
      refine ⟨?_, ?_, fun h => rd_pllUsersStop_memory h _, fun h => ?_⟩
      · rw [rd_pllUsersStop (.inl (pllState_object p.isLt)), rd_pllRelock_state p.isLt]
      · rw [rd_pllUsersStop (.inr (pllRelocks_object p.isLt)), rd_pllRelock_count p.isLt]
      · rw [h, rd_pllUsersStop_link]
    · refine makes_of_act (show execPllLockConfirmed t p band s = _ from rfl) ha ?_
      rw [if_neg hroot, if_neg href, if_pos hp, if_pos hst]
      exact fun j hj => (rd_modClk ..).trans (entriesE_change _ _ _ j hj)
    · refine makes_of_act rfl ha ?_
      rw [if_pos ⟨hm, hpll, hdue⟩]
      exact entriesE_change _ _ _
  · intro t s d₀ ha held
    refine ⟨fun hx hroot => ⟨?_, ?_⟩, fun hx => ?_, fun band hroot hx => ?_⟩
    · refine makes_of_act rfl ha ?_
      obtain ⟨e, heq, hkept, hlost, hcount⟩ := xtalLost_of_present hx
      have hlocked := hkept.trans hroot
      rw [heq]
      exact ⟨rootHold_holds hlocked, (rd_rootHold_xtal hlocked (.inl rfl)).trans hlost, (rd_rootHold_xtal hlocked (.inr rfl)).trans hcount⟩
    · refine makes_of_act rfl ha ?_
      have hcount (j : Nat) (hj : K.x1402_PLL_RELOCKS 0 ≠ j) :
          rd (onlyIf (rd d₀ K.x1400_ROOT_STATE == 2) (incSat 32 (K.x1402_PLL_RELOCKS 0)) d₀) j = rd d₀ j :=
        onlyIf_keeps _ (rd · j) ((rd_incSat ..).trans (if_neg hj))
      have hlocked := (hcount K.x1400_ROOT_STATE (by decide)).trans hroot
      rw [if_pos hx]
      exact ⟨rootHold_holds hlocked, by rw [rd_rootHold_xtal hlocked (.inl rfl), hcount _ (by decide), hx]⟩
    · refine makes_of_act rfl ha ?_
      rw [if_pos hx]
      exact ⟨(entries_nil_of_od rfl).cons_wr _ _, rfl⟩
    · exact makes_of_act rfl ha (rootRelocked_of_held band hroot hx)

/-- Refutes O31: the clause of an accepted pulse says that no entry but LAST_PULSE_STC changes, but the pulse also shows the generators
that follow the reference their phase error (R657, R659). In `seamsBehindPulse`, a reference in steady operation, PHASE_ERROR_NS of
generator 0 goes from 0 to -1. What period the pulse is judged by is the model's reading (DEDUCED, log entry 100). -/
theorem not_genlockReference : ¬ Obligations.GenlockReference := by
  unfold Obligations.GenlockReference
  rintro ⟨-, h⟩
  have hpulse := (h 0 seamsBehindPulse (by decide)).1 0 (by decide) (by decide) rfl (by decide) (by decide) rfl
  obtain ⟨d, -, ⟨hentries, -⟩, herror⟩ := hpulse.and seamsBehindPulse_makes
  rw [hentries] at herror
  exact absurd herror (by decide)

end
